-- ==== Sys2Proof/Word.lean ====
section
/-! DEFINITION. The words of the part: the widths in which a telegram carries a field (chapter 11) and in which the
part shifts and masks a build code (chapter 1). Numbers that are only counted or compared are `Nat` or `Fin`. -/

namespace Sys2Proof

/-- A byte of a telegram, and the 8-bit width of a program number and of an option field (R11, R12). -/
abbrev Byte := BitVec 8

/-- A two-byte field, most significant byte first; also a set of the sixteen stations (R6). -/
abbrev Half := BitVec 16

/-- A 32-bit build code, key, mask or body ID. -/
abbrev Word := BitVec 32

/-- The 48-bit value of a monitor counter (R183). -/
abbrev Long := BitVec 48

end Sys2Proof
end

