-- ==== Sys2Proof/Config.lean ====
section
/-! DEFINITION. The numbers that the manual fixes for the part (the table 'Numbers' of 00_scope.md and the rules named),
and the pin settings that the model presumes at `State.reset`, which the manual leaves to the board. -/

namespace Sys2Proof.Config

/-- Arrivals that the arrival queue holds (R45). -/
def maxArrivals : Nat := 32
/-- Skips after which an arrival is STARVED (R58). -/
def starvation : Nat := 8
/-- Entries that one robot list holds (R66). -/
def maxList : Nat := 3
/-- Requests that the management queue holds (R197). -/
def maxRequests : Nat := 4
/-- Own telegrams that one port keeps waiting (R193). -/
def ownStore : Nat := 256
/-- Program records that one bank holds (R33). -/
def maxRecords : Nat := 1024
/-- Pairs of an adder list (R10). -/
def maxAdders : Nat := 4
/-- Items of EVENT_ACK and EVENT_MASK (R208). -/
def maxItems : Nat := 17
/-- The greatest expected or reported weld count (R13, R17). -/
def maxCount : Nat := 1023
/-- The greatest gun wear (R21). -/
def maxWear : Nat := 65535
/-- The tick, counted from its beginning, on which a TABLE_COPY ends (R37). -/
def copyTicks : Nat := 4
/-- The tick, counted from its beginning, on which a TABLE_CLEAR ends (R38). -/
def clearTicks : Nat := 2
/-- The broadcast node (R194). -/
def broadcast : Byte := 255

/-- DESIGN CHOICE (log entry 1), unsafe. The node straps that `State.reset` presumes: the manual gives the straps no
value, and 7 is the node number of the example of 11.7. POWER_ON reads any other. -/
def resetNodeStraps : Byte := 7
/-- DESIGN CHOICE (log entry 1), unsafe. The type straps that `State.reset` presumes. -/
def resetTypeStraps : Half := 0
/-- DESIGN CHOICE (log entry 2), unsafe. The link-up state of both ports that `State.reset` presumes. -/
def resetLinkUp : Bool := false

end Sys2Proof.Config
end

