-- ==== Sys2Proof/Syntax.lean ====
section
/-! DEFINITION. The commands of the part, one constructor of `Instr` for each row of spec/opcode_table.json, in the
table's order, and the management requests that the management queue holds. A field that a telegram carries stands
here in the width of its layout (R206 to R210), with whatever value it holds: a value outside a rule's range is met by
the rule (R204). -/

namespace Sys2Proof

/-- The two link ports (R191). -/
inductive PortId where
  | p1 | p2
  deriving DecidableEq, Repr

/-- A frame of the line link: its frame type, the bytes after the frame type field, and whether its frame check
sequence is right (R191, R194). -/
structure Frame where
  frameType : Half
  bytes     : List Byte
  fcsOk     : Bool
  deriving DecidableEq, Repr

/-- A tag as a telegram carries it: the tracker index, then the issue number (R207). -/
structure Tag where
  index : Byte
  issue : Byte
  deriving DecidableEq, Repr

/-- Whom a telegram comes from and the sequence number to be echoed (R204). -/
structure Sender where
  node : Byte
  seq  : Half
  deriving DecidableEq, Repr

/-- The payload of CONFIG_STATION (R208). -/
structure StationFields where
  station       : Byte
  shiftKind     : Byte
  shiftCount    : Byte
  mask          : Word
  seatDelay     : Half
  cycleLimit    : Half
  selectTimeout : Half
  noStyle       : Byte
  short         : Byte
  seatEdge      : Byte
  departureEdge : Byte
  deriving DecidableEq, Repr

/-- The payload of CONFIG_ROBOT (R208). -/
structure RobotFields where
  robot    : Byte
  node     : Byte
  station  : Byte
  position : Byte
  group    : Byte
  dress    : Byte
  interval : Half
  limit    : Half
  deriving DecidableEq, Repr

/-- The payload of STYLE_WRITE (R210). -/
structure StyleFields where
  index    : Byte
  value    : Word
  care     : Word
  style    : Byte
  stations : Half
  deriving DecidableEq, Repr

/-- The payload of PROGRAM_WRITE (R210): the adder places are always four, each a bit and a signed delta. -/
structure ProgramFields where
  station  : Byte
  position : Byte
  style    : Byte
  program  : Byte
  expected : Half
  overlay  : Byte
  kind     : Byte
  count    : Byte
  mask     : Byte
  adders   : Byte
  places   : Vector (Byte × Byte) 4
  deriving DecidableEq, Repr

/-- The payload of COUNTER_SET (R208). -/
structure CounterFields where
  counter        : Byte
  value          : Long
  event          : Byte
  station        : Byte
  robot          : Byte
  style          : Byte
  mode           : Byte
  threshold      : Half
  invert         : Byte
  freezeEnable   : Byte
  triggerPresent : Byte
  trigger        : Long
  deriving DecidableEq, Repr

/-- The ten forms of QUERY with their selectors (R200, R208). -/
inductive Query where
  | station (station : Byte)
  | slot (station slot : Byte)
  | entry (index : Byte)
  | robot (robot : Byte)
  | group (group : Byte)
  | styleEntry (bank index : Byte)
  | programRecord (bank station position style : Byte)
  | banks
  | queue
  | device
  deriving DecidableEq, Repr

/-- A management request as the management queue holds it, after the reading of its envelope (R199, R208). `bad` is a
request that the envelope check answers BAD_REQUEST. -/
inductive Request where
  | configLine (line report : Byte)
  | configStation (f : StationFields)
  | configRobot (f : RobotFields)
  | configGroup (group capacity : Byte) (holdLimit : Half)
  | styleWrite (f : StyleFields)
  | styleErase (index : Byte)
  | programWrite (f : ProgramFields)
  | programErase (station position style : Byte)
  | tableCopy
  | tableClear
  | tableCommit
  | stationEnable (station : Byte)
  | stationDisable (station : Byte)
  | robotEnable (robot : Byte)
  | robotDisable (robot : Byte)
  | resolve (station action : Byte)
  | forceProgram (robot program : Byte)
  | wearSet (robot : Byte) (value : Half)
  | outputForce (station bit value : Byte)
  | outputRelease (station bit : Byte)
  | outputUnprotect (station bit : Byte)
  | eventAck (items : List (Byte × Byte))
  | eventMask (items : List (Byte × Byte))
  | counterSet (f : CounterFields)
  | counterRead (counter : Byte)
  | counterFreeze
  | counterUnfreeze
  | query (q : Query)
  | deviceReset
  | bad (code : Byte)
  deriving DecidableEq, Repr

/-- The commands. The first fifteen constructors after the link's four are the events at the blocks' boundaries; a
telegram among them is one that has passed the form checks of R195, with its source node. From `configLine` on each
command but the two table ends is a management request handed to the MGE with that code (R197, log entry 4). -/
inductive Instr where
  | powerOn (nodeStraps : Byte) (typeStraps : Half) (p1Up p2Up : Bool)
  | linkUpChange (port : PortId) (up : Bool)
  | frameReceive (port : PortId) (frame : Frame)
  | portTransmit (port : PortId)
  | tick
  | bodyArrive (sender : Sender) (station : Byte) (body build : Word)
  | stationInputs (node : Byte) (inputs : Vector Byte 16)
  | selEcho (node : Byte) (tag : Tag) (program verdict reason : Byte)
  | cycleStart (node : Byte) (tag : Tag)
  | weldReq (node : Byte) (tag : Tag)
  | weldFree (node : Byte) (tag : Tag)
  | weldDone (node : Byte) (tag : Tag) (count : Half) (status : Byte)
  | selectTimerExpiry (index : Fin 128)
  | seatTimerExpiry (station : Fin 16)
  | cycleTimerExpiry (station : Fin 16)
  | holdTimerExpiry (index : Fin 128)
  | mgmtRequest (sender : Sender) (payload : List Byte)
  | badRequest (sender : Sender) (code : Byte)
  | configLine (sender : Sender) (line report : Byte)
  | configStation (sender : Sender) (f : StationFields)
  | configRobot (sender : Sender) (f : RobotFields)
  | configGroup (sender : Sender) (group capacity : Byte) (holdLimit : Half)
  | styleWrite (sender : Sender) (f : StyleFields)
  | styleErase (sender : Sender) (index : Byte)
  | programWrite (sender : Sender) (f : ProgramFields)
  | programErase (sender : Sender) (station position style : Byte)
  | tableCopy (sender : Sender)
  | tableCopyEnd
  | tableClear (sender : Sender)
  | tableClearEnd
  | tableCommit (sender : Sender)
  | stationEnable (sender : Sender) (station : Byte)
  | stationDisable (sender : Sender) (station : Byte)
  | robotEnable (sender : Sender) (robot : Byte)
  | robotDisable (sender : Sender) (robot : Byte)
  | resolveRetry (sender : Sender) (station : Byte)
  | resolveAccept (sender : Sender) (station : Byte)
  | resolveAbort (sender : Sender) (station : Byte)
  | forceProgram (sender : Sender) (robot program : Byte)
  | wearSet (sender : Sender) (robot : Byte) (value : Half)
  | outputForce (sender : Sender) (station bit value : Byte)
  | outputRelease (sender : Sender) (station bit : Byte)
  | outputUnprotect (sender : Sender) (station bit : Byte)
  | eventAck (sender : Sender) (items : List (Byte × Byte))
  | eventMask (sender : Sender) (items : List (Byte × Byte))
  | counterSet (sender : Sender) (f : CounterFields)
  | counterRead (sender : Sender) (counter : Byte)
  | counterFreeze (sender : Sender)
  | counterUnfreeze (sender : Sender)
  | queryStation (sender : Sender) (station : Byte)
  | querySlot (sender : Sender) (station slot : Byte)
  | queryEntry (sender : Sender) (index : Byte)
  | queryRobot (sender : Sender) (robot : Byte)
  | queryGroup (sender : Sender) (group : Byte)
  | queryStyleEntry (sender : Sender) (bank index : Byte)
  | queryProgramRecord (sender : Sender) (bank station position style : Byte)
  | queryBanks (sender : Sender)
  | queryQueue (sender : Sender)
  | queryDevice (sender : Sender)
  | deviceReset (sender : Sender)
  | resetInputAssert
  deriving DecidableEq, Repr

end Sys2Proof
end

