-- ==== Sys2Proof/WellFormed.lean ====
section
/-! DEFINITION. Well-formed commands: those that a telegram which has passed the form checks of R195 can give. Every
other bound of the manual is met by a rule of its own, not by the form (R204). -/

namespace Sys2Proof

/-- The source nodes that check 2 of R195 lets through. -/
def isNode (b : Byte) : Bool := b != 0 && b != Config.broadcast

/-- A list of EVENT_ACK or EVENT_MASK holds at most seventeen items (R208). -/
def itemsFit (items : List (Byte × Byte)) : Bool := decide (items.length ≤ Config.maxItems)

/-- The node that a command's telegram comes from, for the commands that are telegrams. -/
def Instr.source? : Instr → Option Byte
  | .powerOn .. | .linkUpChange .. | .frameReceive .. | .portTransmit .. | .tick => none
  | .selectTimerExpiry _ | .seatTimerExpiry _ | .cycleTimerExpiry _ | .holdTimerExpiry _ => none
  | .tableCopyEnd | .tableClearEnd | .resetInputAssert => none
  | .stationInputs n _ | .selEcho n .. | .cycleStart n _ | .weldReq n _ | .weldFree n _ | .weldDone n .. => some n
  | .bodyArrive f .. | .mgmtRequest f _ | .badRequest f _ | .configLine f .. | .configStation f _ | .configRobot f _
  | .configGroup f .. | .styleWrite f _ | .styleErase f _ | .programWrite f _ | .programErase f .. | .tableCopy f
  | .tableClear f | .tableCommit f | .stationEnable f _ | .stationDisable f _ | .robotEnable f _ | .robotDisable f _
  | .resolveRetry f _ | .resolveAccept f _ | .resolveAbort f _ | .forceProgram f .. | .wearSet f .. | .outputForce f ..
  | .outputRelease f .. | .outputUnprotect f .. | .eventAck f _ | .eventMask f _ | .counterSet f _ | .counterRead f _
  | .counterFreeze f | .counterUnfreeze f | .queryStation f _ | .querySlot f .. | .queryEntry f _ | .queryRobot f _
  | .queryGroup f _ | .queryStyleEntry f .. | .queryProgramRecord f .. | .queryBanks f | .queryQueue f | .queryDevice f
  | .deviceReset f => some f.node

/-- The payload conditions of the commands whose layout has a varying length. -/
def Instr.payloadFits : Instr → Bool
  | .mgmtRequest _ payload => decide (1 ≤ payload.length) && decide (payload.length ≤ 36)
  | .eventAck _ items | .eventMask _ items => itemsFit items
  | _ => true

/-- A command is well formed when its source node passes check 2 of R195 and its payload has a length that R205 and R208
give. -/
def Instr.wellFormed (i : Instr) : Bool := (i.source?.all isNode) && i.payloadFits

end Sys2Proof
end

