-- ==== Sys2Proof/Decode.lean ====
section
/-! DEFINITION. The commands have no bit encoding in spec/opcode_table.json (no row gives bits), so no word spells one.
The byte layouts of the telegrams, which the manual does give, are read in Sys2Proof/Machine/Operands.lean. -/

namespace Sys2Proof

/-- The command that a word of the table's bits spells: none, since no row of the table gives bits (log entry 5). -/
def decodeTableWord (_nbits _w : Nat) : Option Instr := none

end Sys2Proof
end

