-- ==== Sys2Proof/Machine/State.lean ====
section
/-! DEFINITION. The state of the part as plain data, block by block (the table 'Structure of the part' of 00_scope.md), its
value right after reset (R203), and the reasons a step can stop. -/

namespace Sys2Proof.Machine

/-! ## Program tables (TBS, chapter 2) and the kinds of shift (chapter 1) -/

/-- The shift kinds of key templates and overlays (R2). -/
inductive ShiftKind where
  | rl | rc | ll | lc
  deriving DecidableEq, Repr

/-- The two banks (R27). -/
inductive BankId where
  | a | b
  deriving DecidableEq, Repr

/-- The roles of a bank (2.1). -/
inductive Role where
  | active | shadow | draining
  deriving DecidableEq, Repr

/-- A place of a style table (R6, R31). -/
structure StylePlace where
  valid    : Bool := false
  value    : Word := 0
  care     : Word := 0
  style    : Fin 64 := 0
  stations : Half := 0
  deriving DecidableEq, Repr

/-- The overlay of a program record (R10). -/
structure Overlay where
  kind  : ShiftKind
  count : Nat
  mask  : Byte
  deriving DecidableEq, Repr

/-- A pair of an adder list (R10). -/
structure Adder where
  bit   : Nat
  delta : Int
  deriving DecidableEq, Repr

/-- A program record (R10). -/
structure ProgramRecord where
  program  : Byte
  expected : Nat
  overlay  : Option Overlay
  adders   : List Adder
  deriving DecidableEq, Repr

/-- A bank: its style table, its program table as (key number, record) pairs with the key numbers rising, and its stamp
count (R27, R32, R33, R40). -/
structure Bank where
  styles   : Vector StylePlace 128 := Vector.replicate 128 {}
  programs : List (Nat × ProgramRecord) := []
  stamps   : Nat := 0
  deriving DecidableEq, Repr

/-- The Table Store: both banks, which one is ACTIVE, and whether the other is DRAINING (else it is SHADOW) (R27). -/
structure Tbs where
  bankA    : Bank := {}
  bankB    : Bank := {}
  active   : BankId := .a
  draining : Bool := false
  deriving DecidableEq, Repr

/-! ## Arrival queue (ARQ, chapter 3) -/

/-- An arrival (R44). -/
structure Arrival where
  station : Fin 16
  body    : Word
  build   : Word
  stamp   : BankId
  skips   : Nat := 0
  starved : Bool := false
  deriving DecidableEq, Repr

/-- The Arrival Queue: the arrivals from the head (R45). -/
structure Arq where
  queue : List Arrival := []
  deriving DecidableEq, Repr

/-! ## Dispatch tracker (DTR, chapter 4) -/

/-- The kinds of entry (R63). -/
inductive EntryKind where
  | weld | dress | maint
  deriving DecidableEq, Repr

/-- The states of an entry (4.3). -/
inductive EntryState where
  | queued | offered | selected | welding
  deriving DecidableEq, Repr

/-- The standing of an entry with its supply group (R63, R116). -/
inductive SupplyState where
  | none | waiting | holding
  deriving DecidableEq, Repr

/-- A tracker entry in use (R63). A timer is `none` while stopped and the number of ticks still to come while it runs, so
that at `some 0` it expires. The hold timer is the one that R116 keeps with each holder. -/
structure Entry where
  kind        : EntryKind
  robot       : Fin 64
  station     : Fin 16
  body        : Word
  position    : Fin 8
  program     : Byte
  expected    : Nat
  state       : EntryState := .queued
  reoffered   : Bool := false
  selectTimer : Option Nat := none
  supply      : SupplyState := .none
  holdTimer   : Option Nat := none
  deriving DecidableEq, Repr

/-- A tracker index: its issue number, kept while it is free, and its entry while it is in use (R64, R65). -/
structure Place where
  issue : Byte := 0
  entry : Option Entry := none
  deriving DecidableEq, Repr

/-- The Dispatch Tracker: the 128 indices and one ordered list per robot (R64, R66). -/
structure Dtr where
  tracker : Vector Place 128 := Vector.replicate 128 {}
  lists   : Vector (List (Fin 128)) 64 := Vector.replicate 64 []
  deriving DecidableEq, Repr

/-- The terminal outcomes of an entry (4.3). -/
inductive EntryOutcome where
  | done | short | excess | ok | dressFailed | robotFault | rejected | expired | wearLimit | supplyHold | aborted
  | bypassed
  deriving DecidableEq, Repr

/-! ## Robot channels (RBC, chapter 5) -/

/-- The robot states (5.2). -/
inductive RobotState where
  | disabled | idle | busy | faulted
  deriving DecidableEq, Repr

/-- A robot's last maintenance outcome (R111). -/
structure MaintRecord where
  outcome : EntryOutcome
  program : Byte
  count   : Option Nat
  deriving DecidableEq, Repr

/-- A record of the robot directory (R94). -/
structure Robot where
  configured : Bool := false
  node       : Byte := 0
  station    : Fin 16 := 0
  position   : Fin 8 := 0
  group      : Fin 9 := 0
  dress      : Byte := 0
  interval   : Nat := 0
  limit      : Nat := 0
  state      : RobotState := .disabled
  wear       : Nat := 0
  maint      : Option MaintRecord := none
  deriving DecidableEq, Repr

/-- The Robot Channels (R94). -/
structure Rbc where
  robots : Vector Robot 64 := Vector.replicate 64 {}
  deriving DecidableEq, Repr

/-! ## Supply arbiter (SPA, chapter 6) -/

/-- A supply group (R116). Its holders and waiters are the entries in use of its robots whose supply state is HOLDING and
WAITING (R63): they are kept once, in the entries. -/
structure Group where
  capacity  : Nat := 1
  holdLimit : Nat := 65535
  pointer   : Option (Fin 64) := none
  deriving DecidableEq, Repr

/-- The Supply Arbiter: group g stands at place g - 1 (R116). -/
structure Spa where
  groups : Vector Group 8 := Vector.replicate 8 {}
  deriving DecidableEq, Repr

/-! ## Stations (STC, chapter 7) -/

/-- The two policies (R133). -/
inductive Policy where
  | hold | pass
  deriving DecidableEq, Repr

/-- The edge modes (R133, R162). -/
inductive EdgeMode where
  | none | rising | falling | both
  deriving DecidableEq, Repr

/-- A station's configuration (R133). -/
structure StationConfig where
  shiftKind     : ShiftKind := .rl
  shiftCount    : Nat := 0
  mask          : Word := 0
  seatDelay     : Nat := 0
  cycleLimit    : Nat := 65535
  selectTimeout : Nat := 5000
  noStyle       : Policy := .hold
  short         : Policy := .hold
  seatEdge      : EdgeMode := .none
  departureEdge : EdgeMode := .none
  deriving DecidableEq, Repr

/-- The states of an occupied slot (R140); EMPTY is the absence of a slot record. -/
inductive SlotState where
  | announced | seating | seated | complete | released
  deriving DecidableEq, Repr

/-- The outcome field of a position record (R140). -/
inductive PositionOutcome where
  | pending | done | short | excess | robotFault | rejected | expired | wearLimit | supplyHold | aborted | bypassed
  | accepted
  deriving DecidableEq, Repr

/-- A position record (R140). -/
structure Position where
  program   : Byte
  expected  : Nat
  outcome   : PositionOutcome
  reported  : Option Nat
  shortfall : Nat
  deriving DecidableEq, Repr

/-- The reasons that a slot's blocking reason set can hold (R140). -/
inductive Reason where
  | rejected | expired | robotFault | supplyHold | wearLimit | short | bypassed | noStyle
  deriving DecidableEq, Repr

/-- A blocking reason set (R140). -/
structure ReasonSet where
  rejected   : Bool := false
  expired    : Bool := false
  robotFault : Bool := false
  supplyHold : Bool := false
  wearLimit  : Bool := false
  short      : Bool := false
  bypassed   : Bool := false
  noStyle    : Bool := false
  deriving DecidableEq, Repr

/-- A slot record that holds a body (R140). -/
structure Slot where
  state     : SlotState
  body      : Word
  build     : Word
  style     : Option (Fin 64)
  stamp     : BankId
  reasons   : ReasonSet
  abortMark : Bool
  positions : Vector (Option Position) 8
  deriving DecidableEq, Repr

/-- The station states (7.2). -/
inductive StationState where
  | disabled | running | held
  deriving DecidableEq, Repr

/-- A station record (R133). RUNNING and HELD are told apart by the flag and the CURRENT slot's reasons (R136), so the
record keeps only whether the station is DISABLED. -/
structure Station where
  config     : StationConfig := {}
  enabled    : Bool := false
  bodyLost   : Bool := false
  seatTimer  : Option Nat := none
  cycleTimer : Option Nat := none
  current    : Option Slot := none
  next       : Option Slot := none
  deriving DecidableEq, Repr

/-- The Station Controller (R133). -/
structure Stc where
  stations : Vector Station 16 := Vector.replicate 16 {}
  deriving DecidableEq, Repr

/-! ## Process image (PIU, chapter 8) -/

/-- An output bit's source (FORCED or COMPUTED), force value and protect flag (R167). -/
structure OutputBit where
  forced  : Bool := false
  value   : Bool := false
  protect : Bool := true
  deriving DecidableEq, Repr

/-- A station's input history and its four output bits, numbered 0 PERMIT, 1 HELD, 2 DRESSING, 3 DISABLED (8.1). -/
structure Panel where
  present : Bool := false
  clamped : Bool := false
  manual  : Bool := false
  bits    : Vector OutputBit 4 := Vector.replicate 4 {}
  deriving DecidableEq, Repr

/-- The Process Image Unit: the stations' panels and the reported image, one byte a station (R161, R167, R171). -/
structure Piu where
  panels   : Vector Panel 16 := Vector.replicate 16 {}
  reported : Vector Byte 16 := Vector.replicate 16 8
  deriving DecidableEq, Repr

/-! ## Events and monitor counters (EMU, chapter 9) -/

/-- The station events in the order of their numbers (R176). -/
inductive StationEvent where
  | held | cycleOverrun | bodyLost | clampNoBody | earlyStart | ownership | shortfall | dressFailed
  deriving DecidableEq, Repr

/-- The device events in the order of their numbers (R176). -/
inductive DeviceEvent where
  | arrivalRefused | commitDone | trackerStarved | supplyReclaimed | staleTelegram | badTelegram | mgmtBusy
  | counterFrozen
  deriving DecidableEq, Repr

/-- A capture: the station, robot and body ID of an occurrence, each where it has one (R176). -/
structure Capture where
  station : Option (Fin 16) := none
  robot   : Option (Fin 64) := none
  body    : Option Word := none
  deriving DecidableEq, Repr

/-- An event status with its mask and capture (R176). -/
structure Status where
  set     : Bool := false
  mask    : Bool := true
  capture : Capture := {}
  deriving DecidableEq, Repr

/-- The event selects of a counter: NONE, the twelve count events and the three level events (R183, R208). -/
inductive CounterEvent where
  | none | arrivalsAccepted | arrivalsRefused | allocSkips | offers | done | short | rejects | expiries | dressCycles
  | stale | clampedReports | weldsReported | trackerInUse | queueDepth | supplyWaiters
  deriving DecidableEq, Repr

/-- The counter modes (R183). -/
inductive CounterMode where
  | count | level | threshold | edge
  deriving DecidableEq, Repr

/-- A counter's configuration; a filter of ANY is `none` (R183). -/
structure CounterConfig where
  event        : CounterEvent := .none
  station      : Option (Fin 16) := none
  robot        : Option (Fin 64) := none
  style        : Option (Fin 64) := none
  mode         : CounterMode := .count
  threshold    : Nat := 0
  invert       : Bool := false
  freezeEnable : Bool := false
  trigger      : Option Long := none
  deriving DecidableEq, Repr

/-- A monitor counter (R183). -/
structure Counter where
  value  : Long := 0
  config : CounterConfig := {}
  last   : Bool := false
  deriving DecidableEq, Repr

/-- The Event and Monitor Unit (R176, R183, R186). -/
structure Emu where
  stations : Vector (Vector Status 8) 16 := Vector.replicate 16 (Vector.replicate 8 {})
  device   : Vector Status 8 := Vector.replicate 8 {}
  counters : Vector Counter 8 := Vector.replicate 8 {}
  freeze   : Bool := false
  deriving DecidableEq, Repr

/-! ## Link and management (LIF and MGE, chapter 10) -/

/-- The result codes in the order of their codes (R199, R205). -/
inductive Result where
  | ok | busy | badRequest | range | state | full | draining | collision | protectedBit | notFound
  deriving DecidableEq, Repr

/-- The refusal reasons of ARRIVAL_ACK in the order of their codes 1 to 4 (R47, R205). -/
inductive AckReason where
  | station | body | duplicate | full
  deriving DecidableEq, Repr

/-- The overall outcomes of STATION_RELEASE in the order of their codes (R147, R205). -/
inductive Overall where
  | welded | short | unwelded | rejected
  deriving DecidableEq, Repr

/-- The telegrams that the part sends, each with its destination node; the sequence number is 0 but for the two replies
(R204, R205). -/
inductive Telegram where
  | arrivalAck (dst : Byte) (seq : Half) (body : Word) (refused : Option AckReason)
  | stationRelease (dst : Byte) (station : Fin 16) (body : Word) (overall : Overall) (pairs : List (Fin 8 × Nat))
  | stationOutputs (dst : Byte) (image : Vector Byte 16)
  | progSelect (dst : Byte) (tag : Tag) (program : Byte) (expected : Nat) (body : Word) (kind : EntryKind)
  | cycleHold (dst : Byte) (tag : Tag)
  | weldGrant (dst : Byte) (tag : Tag) (revoke : Bool)
  | dispatchCancel (dst : Byte) (tag : Tag)
  | mgmtResponse (dst : Byte) (seq : Half) (code : Byte) (result : Result) (payload : List Byte)
  | eventReport (dst : Byte) (device : Bool) (number : Fin 8) (capture : Capture)
  deriving DecidableEq, Repr

/-- A port: its link-up state, the frame that its transmitter is sending, the forwarded frames and the own telegrams that
wait, and whether an own telegram has the next turn while both wait (R191, R193). -/
structure Port where
  up      : Bool := Config.resetLinkUp
  sending : Option Frame := none
  forward : List Frame := []
  own     : List Telegram := []
  ownTurn : Bool := false
  deriving DecidableEq, Repr

/-- The Link Interface: whether the reset input is asserted, the node and type straps as read, and the ports (R191 to
R193). -/
structure Lif where
  inReset    : Bool := false
  nodeStraps : Byte := Config.resetNodeStraps
  typeValue  : Half := Config.resetTypeStraps
  p1         : Port := {}
  p2         : Port := {}
  deriving DecidableEq, Repr

/-- A request of the management queue with its source and sequence number (R197, R198). -/
structure MgmtEntry where
  sender  : Sender
  request : Request
  deriving DecidableEq, Repr

/-- A copy or clear in progress at the head of the management queue, with the ticks still to come; at 0 it ends (R37,
R38). -/
structure TableJob where
  clear : Bool
  ticks : Nat
  deriving DecidableEq, Repr

/-- The Management Engine: its queue, the copy or clear in progress, the line node and the report node (R196, R197). -/
structure Mge where
  queue      : List MgmtEntry := []
  job        : Option TableJob := none
  lineNode   : Byte := 0
  reportNode : Byte := 0
  deriving DecidableEq, Repr

/-! ## The whole -/

/-- The state of the part: the records of its eleven blocks (the Resolution Unit keeps none), the queue of the commands
that wait for the model's step, and three fields of the model's own (log entry 6): `issued`, the telegrams that the last
event issued, in their order (R193), `passDue`, set within an event that calls for an allocation pass (R50), and
`formerNodes`, the line node and report node that an event goes on using to its end once a CONFIG_LINE executed in it has
written others (R196, log entry 23). -/
structure State where
  lif     : Lif := {}
  mge     : Mge := {}
  tbs     : Tbs := {}
  arq     : Arq := {}
  dtr     : Dtr := {}
  rbc     : Rbc := {}
  spa     : Spa := {}
  stc     : Stc := {}
  piu     : Piu := {}
  emu     : Emu := {}
  pending : List Instr := []
  issued  : List Telegram := []
  passDue : Bool := false
  formerNodes : Option (Byte × Byte) := none
  deriving DecidableEq, Repr

/-- The part right after the release of its reset input (R203): every record at its power-on value. The straps and the
ports' link-up states, to which the manual gives no value, are those of Sys2Proof/Config.lean (log entries 1 and 2). -/
def State.reset : State := {}

/-- Why a step faults: never. No rule of the manual stops the part or leaves a command without an effect, so the type
has no constructor (safe). -/
inductive Fault where
  deriving DecidableEq, Repr

/-- Why a command is refused. -/
inductive Refusal where
  /-- Raised by `exec` alone, for a command whose meaning has not been written; no arm raises it (safe). -/
  | notModelled (mnemonic : String)
  deriving DecidableEq, Repr

end Sys2Proof.Machine
end

