-- ==== Sys2Proof/Machine/Operands.lean ====
section
/-! DEFINITION. Reading the fields of a command: byte order (chapter 11), numbers in their ranges, enumerated fields
(R205, R208), and the management envelope (R199, R208, R210). -/

namespace Sys2Proof.Machine

/-! ## Byte order: a field of two or more bytes has its most significant byte first (chapter 11) -/

/-- The two-byte field of the bytes given. -/
def half (hi lo : Byte) : Half := hi ++ lo

/-- The four-byte field of the bytes given. -/
def word (b3 b2 b1 b0 : Byte) : Word := (b3 ++ b2 : BitVec 16) ++ (b1 ++ b0 : BitVec 16)

/-- The six-byte field of the bytes given. -/
def long (b5 b4 b3 b2 b1 b0 : Byte) : Long :=
  ((b5 ++ b4 : BitVec 16) ++ (b3 ++ b2 : BitVec 16) : BitVec 32) ++ (b1 ++ b0 : BitVec 16)

/-- Byte `i` of a payload whose length has been checked, or of a header. A byte that a frame too short for its header does not
have reads as 0 (log entry 25). -/
def byteAt (bytes : List Byte) (i : Nat) : Byte := bytes.getD i 0

/-- The two-byte field at byte `i`. -/
def halfAt (bytes : List Byte) (i : Nat) : Half := half (byteAt bytes i) (byteAt bytes (i + 1))

/-- The four-byte field at byte `i`. -/
def wordAt (bytes : List Byte) (i : Nat) : Word :=
  word (byteAt bytes i) (byteAt bytes (i + 1)) (byteAt bytes (i + 2)) (byteAt bytes (i + 3))

/-- The six-byte field at byte `i`. -/
def longAt (bytes : List Byte) (i : Nat) : Long :=
  long (byteAt bytes i) (byteAt bytes (i + 1)) (byteAt bytes (i + 2)) (byteAt bytes (i + 3)) (byteAt bytes (i + 4))
    (byteAt bytes (i + 5))

/-! ## Numbers and enumerations -/

/-- The number that a byte gives, where it is below `n`. -/
def below? (n : Nat) (b : Byte) : Option (Fin n) := if h : b.toNat < n then some ⟨b.toNat, h⟩ else none

/-- A shift kind (R205). -/
def shiftKind? (b : Byte) : Option ShiftKind :=
  if b = 0 then some .rl else if b = 1 then some .rc else if b = 2 then some .ll else if b = 3 then some .lc else none

/-- A bank (R205). -/
def bank? (b : Byte) : Option BankId := if b = 0 then some .a else if b = 1 then some .b else none

/-- A policy (R205). -/
def policy? (b : Byte) : Option Policy := if b = 0 then some .hold else if b = 1 then some .pass else none

/-- An edge mode (R205). -/
def edgeMode? (b : Byte) : Option EdgeMode :=
  if b = 0 then some .none else if b = 1 then some .rising else if b = 2 then some .falling
  else if b = 3 then some .both else none

/-- A flag that a request carries: 0 clear, 1 set, any other value out of range (R208). -/
def flag? (b : Byte) : Option Bool := if b = 0 then some false else if b = 1 then some true else none

/-- The actions of RESOLVE (R151, R205). -/
inductive Action where
  | retry | accept | abort
  deriving DecidableEq, Repr

/-- An action of RESOLVE (R205). -/
def action? (b : Byte) : Option Action :=
  if b = 0 then some .retry else if b = 1 then some .accept else if b = 2 then some .abort else none

/-- A counter's event select (R208). -/
def counterEvent? (b : Byte) : Option CounterEvent :=
  ([.none, .arrivalsAccepted, .arrivalsRefused, .allocSkips, .offers, .done, .short, .rejects, .expiries, .dressCycles,
    .stale, .clampedReports, .weldsReported, .trackerInUse, .queueDepth, .supplyWaiters] : List CounterEvent)[b.toNat]?

/-- A counter's mode (R208). -/
def counterMode? (b : Byte) : Option CounterMode :=
  ([.count, .level, .threshold, .edge] : List CounterMode)[b.toNat]?

/-- A filter: 0xFF is ANY, and a number is a filter where it is below `n` (R183, R208). -/
def filter? (n : Nat) (b : Byte) : Option (Option (Fin n)) :=
  if b = 255 then some none else (below? n b).map some

/-- The group instance of an EVENT_ACK or EVENT_MASK item: a station, or the device group at 0xFF (R208). -/
def groupInstance? (b : Byte) : Option (Option (Fin 16)) := if b = 255 then some none else (below? 16 b).map some

/-! ## The management envelope -/

/-- The items of EVENT_ACK and EVENT_MASK: pairs of an instance byte and an event set byte (R208). -/
def itemPairs : List Byte → List (Byte × Byte)
  | a :: b :: rest => (a, b) :: itemPairs rest
  | _ => []

/-- The items of an EVENT_ACK or EVENT_MASK payload, where the count is at most 17 and the length fits it (R208). -/
def items? : List Byte → Option (List (Byte × Byte))
  | n :: rest =>
    if n.toNat ≤ Config.maxItems ∧ rest.length = 2 * n.toNat then some (itemPairs rest) else none
  | [] => none

/-- What an empty payload gives (R208). -/
def bytes0 {α : Type} (r : α) : List Byte → Option α
  | [] => some r
  | _ => none

/-- What a payload of one byte gives (R208). -/
def bytes1 {α : Type} (r : Byte → α) : List Byte → Option α
  | [a] => some (r a)
  | _ => none

/-- What a payload of two bytes gives (R208). -/
def bytes2 {α : Type} (r : Byte → Byte → α) : List Byte → Option α
  | [a, b] => some (r a b)
  | _ => none

/-- What a payload of three bytes gives (R208). -/
def bytes3 {α : Type} (r : Byte → Byte → Byte → α) : List Byte → Option α
  | [a, b, c] => some (r a b c)
  | _ => none

/-- What a payload of four bytes gives (R208). -/
def bytes4 {α : Type} (r : Byte → Byte → Byte → Byte → α) : List Byte → Option α
  | [a, b, c, d] => some (r a b c d)
  | _ => none

/-- What a payload of `n` bytes gives (R208). -/
def bytesN {α : Type} (n : Nat) (r : List Byte → α) (p : List Byte) : Option α := if p.length = n then some (r p) else none

/-- The form and selector of a QUERY payload, where the form is known and the length fits it (R200, R208). -/
def query? : List Byte → Option Query
  | [] => none
  | form :: p =>
    match form.toNat with
    | 0 => bytes1 .station p
    | 1 => bytes2 .slot p
    | 2 => bytes1 .entry p
    | 3 => bytes1 .robot p
    | 4 => bytes1 .group p
    | 5 => bytes2 .styleEntry p
    | 6 => bytes4 .programRecord p
    | 7 => bytes0 .banks p
    | 8 => bytes0 .queue p
    | 9 => bytes0 .device p
    | _ => none

/-- The CONFIG_STATION fields of a 17-byte payload (R208). -/
def stationFields (p : List Byte) : StationFields where
  station := byteAt p 0
  shiftKind := byteAt p 1
  shiftCount := byteAt p 2
  mask := wordAt p 3
  seatDelay := halfAt p 7
  cycleLimit := halfAt p 9
  selectTimeout := halfAt p 11
  noStyle := byteAt p 13
  short := byteAt p 14
  seatEdge := byteAt p 15
  departureEdge := byteAt p 16

/-- The CONFIG_ROBOT fields of a 10-byte payload (R208). -/
def robotFields (p : List Byte) : RobotFields where
  robot := byteAt p 0
  node := byteAt p 1
  station := byteAt p 2
  position := byteAt p 3
  group := byteAt p 4
  dress := byteAt p 5
  interval := halfAt p 6
  limit := halfAt p 8

/-- The STYLE_WRITE fields of a 12-byte payload (R210). -/
def styleFields (p : List Byte) : StyleFields where
  index := byteAt p 0
  value := wordAt p 1
  care := wordAt p 5
  style := byteAt p 9
  stations := halfAt p 10

/-- The PROGRAM_WRITE fields of a 19-byte payload (R210). -/
def programFields (p : List Byte) : ProgramFields where
  station := byteAt p 0
  position := byteAt p 1
  style := byteAt p 2
  program := byteAt p 3
  expected := halfAt p 4
  overlay := byteAt p 6
  kind := byteAt p 7
  count := byteAt p 8
  mask := byteAt p 9
  adders := byteAt p 10
  places := #v[(byteAt p 11, byteAt p 12), (byteAt p 13, byteAt p 14), (byteAt p 15, byteAt p 16),
    (byteAt p 17, byteAt p 18)]

/-- The COUNTER_SET fields of a 23-byte payload (R208). -/
def counterFields (p : List Byte) : CounterFields where
  counter := byteAt p 0
  value := longAt p 1
  event := byteAt p 7
  station := byteAt p 8
  robot := byteAt p 9
  style := byteAt p 10
  mode := byteAt p 11
  threshold := halfAt p 12
  invert := byteAt p 14
  freezeEnable := byteAt p 15
  triggerPresent := byteAt p 16
  trigger := longAt p 17

/-- The request that a request code and a request payload give, where the code is known and the length fits (R208). -/
def request? (code : Byte) (p : List Byte) : Option Request :=
  match code.toNat with
  | 1 => bytes2 .configLine p
  | 2 => bytesN 17 (.configStation ∘ stationFields) p
  | 3 => bytesN 10 (.configRobot ∘ robotFields) p
  | 4 => bytes4 (fun g c h1 h0 => .configGroup g c (half h1 h0)) p
  | 5 => bytesN 12 (.styleWrite ∘ styleFields) p
  | 6 => bytes1 .styleErase p
  | 7 => bytesN 19 (.programWrite ∘ programFields) p
  | 8 => bytes3 .programErase p
  | 9 => bytes0 .tableCopy p
  | 10 => bytes0 .tableClear p
  | 11 => bytes0 .tableCommit p
  | 12 => bytes1 .stationEnable p
  | 13 => bytes1 .stationDisable p
  | 14 => bytes1 .robotEnable p
  | 15 => bytes1 .robotDisable p
  | 16 => bytes2 .resolve p
  | 17 => bytes2 .forceProgram p
  | 18 => bytes3 (fun r v1 v0 => .wearSet r (half v1 v0)) p
  | 19 => bytes3 .outputForce p
  | 20 => bytes2 .outputRelease p
  | 21 => bytes2 .outputUnprotect p
  | 22 => (items? p).map .eventAck
  | 23 => (items? p).map .eventMask
  | 24 => bytesN 23 (.counterSet ∘ counterFields) p
  | 25 => bytes1 .counterRead p
  | 26 => bytes0 .counterFreeze p
  | 27 => bytes0 .counterUnfreeze p
  | 28 => (query? p).map .query
  | 29 => bytes0 .deviceReset p
  | _ => none

/-- The reading of a MGMT_REQUEST payload: the request code, then the request payload. What the envelope check of R199
fails is `bad` with its request code. -/
def readRequest : List Byte → Request
  | code :: p => (request? code p).getD (.bad code)
  | [] => .bad 0

/-- The request code of a request (R208). -/
def requestCode : Request → Byte
  | .configLine .. => 1
  | .configStation _ => 2
  | .configRobot _ => 3
  | .configGroup .. => 4
  | .styleWrite _ => 5
  | .styleErase _ => 6
  | .programWrite _ => 7
  | .programErase .. => 8
  | .tableCopy => 9
  | .tableClear => 10
  | .tableCommit => 11
  | .stationEnable _ => 12
  | .stationDisable _ => 13
  | .robotEnable _ => 14
  | .robotDisable _ => 15
  | .resolve .. => 16
  | .forceProgram .. => 17
  | .wearSet .. => 18
  | .outputForce .. => 19
  | .outputRelease .. => 20
  | .outputUnprotect .. => 21
  | .eventAck _ => 22
  | .eventMask _ => 23
  | .counterSet _ => 24
  | .counterRead _ => 25
  | .counterFreeze => 26
  | .counterUnfreeze => 27
  | .query _ => 28
  | .deviceReset => 29
  | .bad code => code

end Sys2Proof.Machine
end

