-- ==== Sys2Proof/Machine/Telegrams.lean ====
section
/-! DEFINITION. The bytes of the telegrams that the part sends (R204 to R209): the codes of the enumerated fields, the
numbers in their widths, and the frame that carries a telegram. -/

namespace Sys2Proof.Machine

/-! ## Numbers in their widths, most significant byte first -/

/-- A number sent in one byte. -/
def u8 (n : Nat) : List Byte := [BitVec.ofNat 8 n]

/-- A number sent in two bytes. -/
def u16 (n : Nat) : List Byte := [BitVec.ofNat 8 (n / 256), BitVec.ofNat 8 n]

/-- A number sent in four bytes. -/
def u32 (n : Nat) : List Byte := u16 (n / 65536) ++ u16 n

/-- A number sent in six bytes. -/
def u48 (n : Nat) : List Byte := u16 (n / 4294967296) ++ u32 n

/-- A body ID, a build code or another 32-bit value. -/
def wordBytes (w : Word) : List Byte := u32 w.toNat

/-- A flag (R209). -/
def flagByte (b : Bool) : List Byte := [if b then 1 else 0]

/-- An item that may be absent: a presence byte, then the item, sent as `zero` where absent (R209). -/
def optional {α : Type} (f : α → List Byte) (zero : List Byte) : Option α → List Byte
  | some a => 1 :: f a
  | none => 0 :: zero

/-- A list: its count in one byte, then its items in order (R209). -/
def listBytes {α : Type} (f : α → List Byte) (l : List α) : List Byte := u8 l.length ++ l.flatMap f

/-! ## Codes (R205, R209) -/

/-- The code of a result. -/
def resultCode : Result → Byte
  | .ok => 0
  | .busy => 1
  | .badRequest => 2
  | .range => 3
  | .state => 4
  | .full => 5
  | .draining => 6
  | .collision => 7
  | .protectedBit => 8
  | .notFound => 9

/-- The reason byte of ARRIVAL_ACK. -/
def ackReasonCode : Option AckReason → Byte
  | none => 0
  | some .station => 1
  | some .body => 2
  | some .duplicate => 3
  | some .full => 4

/-- The code of an entry kind. -/
def kindCode : EntryKind → Byte
  | .weld => 0
  | .dress => 1
  | .maint => 2

/-- The code of an overall outcome. -/
def overallCode : Overall → Byte
  | .welded => 0
  | .short => 1
  | .unwelded => 2
  | .rejected => 3

/-- The code of a shift kind. -/
def shiftKindCode : ShiftKind → Byte
  | .rl => 0
  | .rc => 1
  | .ll => 2
  | .lc => 3

/-- The code of a bank. -/
def bankCode : BankId → Byte
  | .a => 0
  | .b => 1

/-- The code of a bank role. -/
def roleCode : Role → Byte
  | .active => 0
  | .shadow => 1
  | .draining => 2

/-- The code of a policy. -/
def policyCode : Policy → Byte
  | .hold => 0
  | .pass => 1

/-- The code of an edge mode. -/
def edgeModeCode : EdgeMode → Byte
  | .none => 0
  | .rising => 1
  | .falling => 2
  | .both => 3

/-- The code of a robot state. -/
def robotStateCode : RobotState → Byte
  | .disabled => 0
  | .idle => 1
  | .busy => 2
  | .faulted => 3

/-- The code of a station state. -/
def stationStateCode : StationState → Byte
  | .disabled => 0
  | .running => 1
  | .held => 2

/-- The code of an occupied slot's state; COMPLETE is not seen by QUERY (R140) and would show as RELEASED. -/
def slotStateCode : SlotState → Byte
  | .announced => 1
  | .seating => 2
  | .seated => 3
  | .complete => 4
  | .released => 4

/-- The code of an entry state. -/
def entryStateCode : EntryState → Byte
  | .queued => 0
  | .offered => 1
  | .selected => 2
  | .welding => 3

/-- The code of a supply state. -/
def supplyStateCode : SupplyState → Byte
  | .none => 0
  | .waiting => 1
  | .holding => 2

/-- The code of a position outcome. -/
def positionOutcomeCode : PositionOutcome → Byte
  | .pending => 0
  | .done => 1
  | .short => 2
  | .excess => 3
  | .robotFault => 4
  | .rejected => 5
  | .expired => 6
  | .wearLimit => 7
  | .supplyHold => 8
  | .aborted => 9
  | .bypassed => 10
  | .accepted => 11

/-- The position outcome that an entry's outcome writes (R84); OK and DRESS_FAILED are written into no position. -/
def positionOutcome : EntryOutcome → PositionOutcome
  | .done | .ok => .done
  | .short => .short
  | .excess => .excess
  | .robotFault | .dressFailed => .robotFault
  | .rejected => .rejected
  | .expired => .expired
  | .wearLimit => .wearLimit
  | .supplyHold => .supplyHold
  | .aborted => .aborted
  | .bypassed => .bypassed

/-- The code of a maintenance outcome: the codes of the position outcomes, with 0 for NONE (R209). -/
def maintOutcomeCode (o : EntryOutcome) : Byte := positionOutcomeCode (positionOutcome o)

/-- The code of a counter's event select (R208). -/
def counterEventCode : CounterEvent → Byte
  | .none => 0
  | .arrivalsAccepted => 1
  | .arrivalsRefused => 2
  | .allocSkips => 3
  | .offers => 4
  | .done => 5
  | .short => 6
  | .rejects => 7
  | .expiries => 8
  | .dressCycles => 9
  | .stale => 10
  | .clampedReports => 11
  | .weldsReported => 12
  | .trackerInUse => 13
  | .queueDepth => 14
  | .supplyWaiters => 15

/-- The code of a counter mode (R208). -/
def counterModeCode : CounterMode → Byte
  | .count => 0
  | .level => 1
  | .threshold => 2
  | .edge => 3

/-- A filter byte: the number, or 0xFF for ANY (R208). -/
def filterByte {n : Nat} : Option (Fin n) → List Byte
  | some i => u8 i
  | none => [255]

/-- A style result: the style, or 255 for NO_STYLE (R209). -/
def styleByte : Option (Fin 64) → List Byte
  | some s => u8 s
  | none => [255]

/-- The number of a station event (R176). -/
def stationEventNumber : StationEvent → Fin 8
  | .held => 0
  | .cycleOverrun => 1
  | .bodyLost => 2
  | .clampNoBody => 3
  | .earlyStart => 4
  | .ownership => 5
  | .shortfall => 6
  | .dressFailed => 7

/-- The number of a device event (R176). -/
def deviceEventNumber : DeviceEvent → Fin 8
  | .arrivalRefused => 0
  | .commitDone => 1
  | .trackerStarved => 2
  | .supplyReclaimed => 3
  | .staleTelegram => 4
  | .badTelegram => 5
  | .mgmtBusy => 6
  | .counterFrozen => 7

/-- Eight flags as a byte, flag n in bit n. -/
def flagsByte (f : Fin 8 → Bool) : Byte :=
  BitVec.ofNat 8 ((List.finRange 8).foldl (fun n i => n + if f i then 2 ^ (i : Nat) else 0) 0)

/-! ## Telegrams -/

/-- A tag's two bytes (R207). -/
def tagBytes (t : Tag) : List Byte := [t.index, t.issue]

/-- The presence byte of EVENT_REPORT (R205). -/
def presenceByte (c : Capture) : List Byte :=
  u8 ((if c.station.isSome then 1 else 0) + (if c.robot.isSome then 2 else 0) + if c.body.isSome then 4 else 0)

/-- The kind code of a telegram (R205). -/
def Telegram.kindByte : Telegram → Byte
  | .arrivalAck .. => 0x03
  | .stationRelease .. => 0x04
  | .stationOutputs .. => 0x05
  | .progSelect .. => 0x11
  | .cycleHold .. => 0x12
  | .weldGrant .. => 0x13
  | .dispatchCancel .. => 0x14
  | .mgmtResponse .. => 0x32
  | .eventReport .. => 0x33

/-- The destination node of a telegram. -/
def Telegram.dst : Telegram → Byte
  | .arrivalAck d .. => d
  | .stationRelease d .. => d
  | .stationOutputs d _ => d
  | .progSelect d .. => d
  | .cycleHold d _ => d
  | .weldGrant d .. => d
  | .dispatchCancel d _ => d
  | .mgmtResponse d .. => d
  | .eventReport d .. => d

/-- The sequence of a telegram: echoed in a reply, 0 in every other (R204). -/
def Telegram.sequence : Telegram → Half
  | .arrivalAck _ q .. => q
  | .mgmtResponse _ q .. => q
  | _ => 0

/-- The payload of a telegram (R205 to R208). -/
def Telegram.payload : Telegram → List Byte
  | .arrivalAck _ _ body refused => wordBytes body ++ flagByte refused.isSome ++ [ackReasonCode refused]
  | .stationRelease _ st body overall pairs =>
    u8 st ++ wordBytes body ++ [overallCode overall] ++ listBytes (fun p => u8 p.1 ++ u16 p.2) pairs
  | .stationOutputs _ image => image.toList
  | .progSelect _ tag program expected body kind =>
    tagBytes tag ++ [program] ++ u16 expected ++ wordBytes body ++ [kindCode kind]
  | .cycleHold _ tag => tagBytes tag
  | .weldGrant _ tag revoke => tagBytes tag ++ flagByte revoke
  | .dispatchCancel _ tag => tagBytes tag
  | .mgmtResponse _ _ code result payload => [code, resultCode result] ++ payload
  | .eventReport _ device number c =>
    flagByte device ++ u8 number ++ presenceByte c ++ u8 ((c.station.map Fin.val).getD 0)
      ++ u8 ((c.robot.map Fin.val).getD 0) ++ wordBytes (c.body.getD 0)

/-- The bytes of a telegram sent by node `src`: the header of R204, then the payload. -/
def Telegram.bytes (src : Byte) (t : Telegram) : List Byte :=
  [1, t.kindByte, src, t.dst] ++ u16 t.sequence.toNat ++ u16 t.payload.length ++ t.payload

/-- The frame that carries a telegram of node `src` under the frame type `type` (R192, R204). -/
def Telegram.toFrame (type : Half) (src : Byte) (t : Telegram) : Frame := ⟨type, t.bytes src, true⟩

end Sys2Proof.Machine
end

