-- ==== Sys2Proof/Machine/Ops.lean ====
section
/-! DEFINITION. The named operations over the part's records: reading and writing one record, and issuing a telegram. Every
other operation of the model reads and writes the state through these. -/

namespace Sys2Proof.Machine

/-! ## Vectors -/

/-- A vector with every element passed through `f`. -/
def mapAll {α β : Type} {n : Nat} (f : α → β) (v : Vector α n) : Vector β n := ⟨⟨v.toList.map f⟩, by simp⟩

/-- The vector of the values of `f`. -/
def tabulate {α : Type} (n : Nat) (f : Fin n → α) : Vector α n := ⟨⟨(List.finRange n).map f⟩, by simp⟩

/-! ## The records -/

/-- The record at a tracker index. -/
def State.place (s : State) (i : Fin 128) : Place := s.dtr.tracker[i]

/-- The entry in use at a tracker index, where there is one. -/
def State.entry? (s : State) (i : Fin 128) : Option Entry := (s.place i).entry

/-- Writes the record at a tracker index. -/
def State.setPlace (s : State) (i : Fin 128) (p : Place) : State :=
  { s with dtr := { s.dtr with tracker := s.dtr.tracker.set i p } }

/-- Writes the entry of a tracker index, whose issue number is kept. -/
def State.setEntry (s : State) (i : Fin 128) (e : Option Entry) : State :=
  s.setPlace i { s.place i with entry := e }

/-- Changes the entry in use at a tracker index; a free index is left as it is. -/
def State.modEntry (s : State) (i : Fin 128) (f : Entry → Entry) : State :=
  s.setEntry i ((s.entry? i).map f)

/-- The tag of the entry at a tracker index (R65). -/
def State.tag (s : State) (i : Fin 128) : Tag := ⟨BitVec.ofNat 8 i, (s.place i).issue⟩

/-- A robot's list, from its head (R66). -/
def State.list (s : State) (r : Fin 64) : List (Fin 128) := s.dtr.lists[r]

/-- Writes a robot's list. -/
def State.setList (s : State) (r : Fin 64) (l : List (Fin 128)) : State :=
  { s with dtr := { s.dtr with lists := s.dtr.lists.set r l } }

/-- A robot's record (R94). -/
def State.robot (s : State) (r : Fin 64) : Robot := s.rbc.robots[r]

/-- Writes a robot's record. -/
def State.setRobot (s : State) (r : Fin 64) (x : Robot) : State :=
  { s with rbc := { s.rbc with robots := s.rbc.robots.set r x } }

/-- Sets a robot's state (5.2). -/
def State.setRobotState (s : State) (r : Fin 64) (x : RobotState) : State :=
  s.setRobot r { s.robot r with state := x }

/-- A station's record (R133). -/
def State.station (s : State) (st : Fin 16) : Station := s.stc.stations[st]

/-- Writes a station's record. -/
def State.setStation (s : State) (st : Fin 16) (x : Station) : State :=
  { s with stc := { s.stc with stations := s.stc.stations.set st x } }

/-- A station's panel (R161, R167). -/
def State.panel (s : State) (st : Fin 16) : Panel := s.piu.panels[st]

/-- Writes a station's panel. -/
def State.setPanel (s : State) (st : Fin 16) (x : Panel) : State :=
  { s with piu := { s.piu with panels := s.piu.panels.set st x } }

/-- The record of the supply group at a place (R116). -/
def State.group (s : State) (g : Fin 8) : Group := s.spa.groups[g]

/-- Writes the record of a supply group. -/
def State.setGroup (s : State) (g : Fin 8) (x : Group) : State :=
  { s with spa := { s.spa with groups := s.spa.groups.set g x } }

/-- A bank of the table store. -/
def State.bank (s : State) : BankId → Bank
  | .a => s.tbs.bankA
  | .b => s.tbs.bankB

/-- Writes a bank. -/
def State.setBank (s : State) (id : BankId) (x : Bank) : State :=
  match id with
  | .a => { s with tbs := { s.tbs with bankA := x } }
  | .b => { s with tbs := { s.tbs with bankB := x } }

/-- Writes the arrival queue. -/
def State.setQueue (s : State) (q : List Arrival) : State := { s with arq := { s.arq with queue := q } }

/-- Calls for an allocation pass at the end of the event's own work (R50). -/
def State.callPass (s : State) : State := { s with passDue := true }

/-! ## The node number and the telegrams issued -/

/-- Whether a strap setting is a usable node number: 1 to 254 (R192). -/
def usableNode (straps : Byte) : Bool := straps != 0 && straps != Config.broadcast

/-- The part's node number: the node straps as read, where they give a usable one (R192). -/
def Lif.node? (l : Lif) : Option Byte := if usableNode l.nodeStraps then some l.nodeStraps else none

/-- An own telegram given to a port: kept where the port is up and its store has room, else discarded for it (R193). -/
def Port.give (p : Port) (t : Telegram) : Port :=
  if p.up ∧ p.own.length < Config.ownStore then { p with own := p.own ++ [t] } else p

/-- Issues a telegram of the part's own: it is given to both ports (R193). A part without a node sends nothing (R192). -/
def State.issue (s : State) (t : Telegram) : State :=
  match s.lif.node? with
  | none => s
  | some _ =>
    { s with lif := { s.lif with p1 := s.lif.p1.give t, p2 := s.lif.p2.give t }, issued := s.issued ++ [t] }

/-- The line node that the present event uses: the one that it began with, also after a CONFIG_LINE executed in it (R196,
log entry 23). -/
def State.lineInUse (s : State) : Byte := (s.formerNodes.map (·.1)).getD s.mge.lineNode

/-- The report node that the present event uses: the one that it began with, also after a CONFIG_LINE executed in it (R196,
log entry 23). -/
def State.reportInUse (s : State) : Byte := (s.formerNodes.map (·.2)).getD s.mge.reportNode

/-- Issues a telegram to the line node in use; where that is 0 none is sent (R60, R147, R172, R196). -/
def State.issueToLine (s : State) (t : Byte → Telegram) : State :=
  if s.lineInUse = 0 then s else s.issue (t s.lineInUse)

/-- Issues a telegram to the node of a robot (R112). -/
def State.issueToRobot (s : State) (r : Fin 64) (t : Byte → Telegram) : State := s.issue (t (s.robot r).node)

/-- Does work for each item of a list in its order. -/
def forAll {α : Type} (l : List α) (f : α → State → State) (s : State) : State := l.foldl (fun s a => f a s) s

/-! ## Kinds and views of the records -/

/-- Whether an entry is OFFERED, SELECTED or WELDING. -/
def Entry.beyondQueued (e : Entry) : Bool := e.state != .queued

/-- Whether a robot counts as enabled (R94). -/
def Robot.enabled (r : Robot) : Bool := r.state != .disabled

/-- The tracker indices, in order. -/
def allIndices : List (Fin 128) := List.finRange 128

/-- The robot numbers, in order. -/
def allRobots : List (Fin 64) := List.finRange 64

/-- The stations, in order. -/
def allStations : List (Fin 16) := List.finRange 16

/-- The positions, in order. -/
def allPositions : List (Fin 8) := List.finRange 8

/-- The number of free tracker entries: 128 less the entries in use (R55). -/
def State.freeEntries (s : State) : Nat := s.dtr.tracker.toList.countP (fun p => p.entry.isNone)

/-- The lowest free tracker index (R64). -/
def State.lowestFree? (s : State) : Option (Fin 128) := allIndices.find? (fun i => (s.entry? i).isNone)

/-- The robot that serves a position: the enabled robot whose record names that station and position (R53). -/
def State.servingRobot? (s : State) (st : Fin 16) (p : Fin 8) : Option (Fin 64) :=
  allRobots.find? (fun r => (s.robot r).enabled && (s.robot r).station == st && (s.robot r).position == p)

/-- The enabled robots of a station, in position order. -/
def State.stationRobots (s : State) (st : Fin 16) : List (Fin 64) := allPositions.filterMap (s.servingRobot? st)

/-- The enabled robot whose record holds a node (R91, R157). -/
def State.robotAtNode? (s : State) (node : Byte) : Option (Fin 64) :=
  allRobots.find? (fun r => (s.robot r).enabled && (s.robot r).node == node)

/-- The slot of a station that holds a body: CURRENT, or else NEXT (R84). -/
def Station.slotOf? (x : Station) (body : Word) : Option Slot :=
  (x.current.filter (·.body = body)).or (x.next.filter (·.body = body))

/-- The style result of a body at a station: `none` where its style is NO_STYLE (R25) or no slot holds it. -/
def Station.bodyStyle (x : Station) (body : Word) : Option (Fin 64) := (x.slotOf? body).bind (·.style)

/-- The style attribute of an entry: the style result of its body's slot, absent for a MAINT entry (R25). -/
def State.entryStyle (s : State) (e : Entry) : Option (Fin 64) :=
  if e.kind = .maint then none else (s.station e.station).bodyStyle e.body

/-- The body attribute of an entry: absent for a MAINT entry (R110, R125). -/
def Entry.bodyAttr (e : Entry) : Option Word := if e.kind = .maint then none else some e.body

/-- Whether a blocking reason set holds no reason. -/
def ReasonSet.isEmpty (x : ReasonSet) : Bool := x == {}

/-- Whether a blocking reason set holds a reason. -/
def ReasonSet.has (x : ReasonSet) : Reason → Bool
  | .rejected => x.rejected
  | .expired => x.expired
  | .robotFault => x.robotFault
  | .supplyHold => x.supplyHold
  | .wearLimit => x.wearLimit
  | .short => x.short
  | .bypassed => x.bypassed
  | .noStyle => x.noStyle

/-- A blocking reason set with a reason entered. -/
def ReasonSet.enter (x : ReasonSet) : Reason → ReasonSet
  | .rejected => { x with rejected := true }
  | .expired => { x with expired := true }
  | .robotFault => { x with robotFault := true }
  | .supplyHold => { x with supplyHold := true }
  | .wearLimit => { x with wearLimit := true }
  | .short => { x with short := true }
  | .bypassed => { x with bypassed := true }
  | .noStyle => { x with noStyle := true }

/-- The state of a station: DISABLED, or HELD while its body-lost flag is set or its CURRENT slot's blocking reason set
holds a reason, or RUNNING (R136). -/
def Station.state (x : Station) : StationState :=
  if !x.enabled then .disabled
  else if x.bodyLost || (x.current.any (fun c => !c.reasons.isEmpty)) then .held
  else .running

/-- The role of a bank (R27). -/
def Tbs.role (t : Tbs) (id : BankId) : Role :=
  if t.active = id then .active else if t.draining then .draining else .shadow

/-- The bank other than the one given. -/
def BankId.other : BankId → BankId
  | .a => .b
  | .b => .a

end Sys2Proof.Machine
end

