-- ==== Sys2Proof/Machine/Resolution.lean ====
section
/-! DEFINITION. The Resolution Unit (chapter 1): the key, the style match, the composition of a program record, and the
arithmetic of weld counts and gun wear. It keeps no record. -/

namespace Sys2Proof.Machine

/-! ## Keys and the style match -/

/-- A build code moved by a shift kind and count (R3, R4). -/
def shift (k : ShiftKind) (n : Nat) (b : Word) : Word :=
  match k with
  | .rl => b >>> n
  | .rc => b.rotateRight n
  | .ll => b <<< n
  | .lc => b.rotateLeft n

/-- The key that a station's template takes from a build code (R5). -/
def key (c : StationConfig) (build : Word) : Word := shift c.shiftKind c.shiftCount build &&& c.mask

/-- Whether a style place matches a key for a station (R6). -/
def StylePlace.matchesKey (p : StylePlace) (k : Word) (st : Fin 16) : Bool :=
  p.valid && (k &&& p.care == p.value) && p.stations.getLsbD st

/-- The style match: the first place in index order that matches gives its style; `none` is NO_STYLE (R7, R8). -/
def Bank.styleMatch (x : Bank) (k : Word) (st : Fin 16) : Option (Fin 64) :=
  (x.styles.toList.find? (·.matchesKey k st)).map (·.style)

/-! ## Program records -/

/-- The key number of a program key (station, position, style); the key space holds 8192 of them (2.4). -/
def programKey (st : Fin 16) (p : Fin 8) (style : Fin 64) : Nat := st * 512 + p * 64 + style

/-- The record of a bank at a program key (R9). -/
def Bank.record? (x : Bank) (k : Nat) : Option ProgramRecord := x.programs.lookup k

/-- The overlay mask, taken as 0 where there is no overlay (R11). -/
def ProgramRecord.mask (x : ProgramRecord) : Byte :=
  match x.overlay with
  | none => 0
  | some o => o.mask

/-- The option field of a build code under a record's overlay (R11). -/
def ProgramRecord.options (x : ProgramRecord) (build : Word) : Byte :=
  match x.overlay with
  | none => 0
  | some o => (shift o.kind o.count build).setWidth 8 &&& o.mask

/-- The composed program value, 0 where the position has no work (R12). -/
def ProgramRecord.compose (x : ProgramRecord) (build : Word) : Byte :=
  (x.program &&& ~~~x.mask) ||| x.options build

/-- A number limited to 0..1023 (R13). -/
def limitCount (n : Int) : Nat := (max 0 (min (Config.maxCount : Int) n)).toNat

/-- The expected count of a record for a build code: the base and the deltas of the pairs whose bit is set, limited at
the end (R13). -/
def ProgramRecord.expectedFor (x : ProgramRecord) (build : Word) : Nat :=
  limitCount (x.adders.foldl (fun n a => if (x.options build).getLsbD a.bit then n + a.delta else n) (x.expected : Int))

/-- The work of a position: its program number and its expected count (R14). -/
structure Work where
  program  : Byte
  expected : Nat
  deriving DecidableEq, Repr

/-- The position result of a record and a build code; `none` is NONE (R12, R13). -/
def ProgramRecord.work? (x : ProgramRecord) (build : Word) : Option Work :=
  if x.compose build = 0 then none else some ⟨x.compose build, x.expectedFor build⟩

/-- The position result of a station, position and style in a bank (R9). -/
def Bank.work? (x : Bank) (st : Fin 16) (p : Fin 8) (style : Fin 64) (build : Word) : Option Work :=
  (x.record? (programKey st p style)).bind (·.work? build)

/-- A full resolution: a style result and eight position results (R1). -/
structure Resolution where
  style : Option (Fin 64)
  works : Vector (Option Work) 8
  deriving DecidableEq, Repr

/-- The full resolution of a build code for a station against a bank (R1). -/
def resolve (c : StationConfig) (x : Bank) (st : Fin 16) (build : Word) : Resolution :=
  match x.styleMatch (key c build) st with
  | none => ⟨none, tabulate 8 (fun _ => none)⟩
  | some style => ⟨some style, tabulate 8 (fun p => x.work? st p style build)⟩

/-! ## Weld counts -/

/-- The count of a report after the limit of R17. -/
def clampReport (count : Nat) : Nat := min count Config.maxCount

/-- The outcome of a report of D welds for an entry, with fault status or without (R18, R19, R20). -/
def reportOutcome (kind : EntryKind) (expected d : Nat) (fault : Bool) : EntryOutcome :=
  match kind with
  | .dress => if fault then .dressFailed else .ok
  | .weld => if fault then .robotFault else if d = expected then .done else if d < expected then .short else .excess
  | .maint => if fault then .robotFault else if d = 0 then .done else .excess

/-- The shortfall that an outcome writes into a position (R84). -/
def shortfallOf (outcome : EntryOutcome) (expected : Nat) (reported : Option Nat) : Nat :=
  match outcome, reported with
  | .done, _ | .excess, _ | .ok, _ | .dressFailed, _ => 0
  | .short, some d | .robotFault, some d => expected - d
  | _, _ => expected

/-! ## Gun wear -/

/-- The gun wear after a report of D welds (R21). -/
def addWear (wear d : Nat) : Nat := min (wear + d) Config.maxWear

/-- The projection P' of a robot: the sum of E over its WELD entries in the tracker (R22). -/
def State.projection (s : State) (r : Fin 64) : Nat :=
  (s.list r).foldl (fun n i => n + ((s.entry? i).filter (·.kind = .weld)).elim 0 (·.expected)) 0

/-- Whether a robot's list holds a DRESS entry (R22). -/
def State.dressListed (s : State) (r : Fin 64) : Bool := (s.list r).any (fun i => (s.entry? i).any (·.kind = .dress))

/-- Whether a dress entry is due ahead of a robot's new weld entry (R22, R105). -/
def State.dressDue (s : State) (r : Fin 64) : Bool :=
  decide ((s.robot r).interval ≤ (s.robot r).wear + s.projection r) && !s.dressListed r

/-- Whether a robot's gun is at or above its wear limit (R23). -/
def Robot.worn (x : Robot) : Bool := decide (x.limit ≤ x.wear)

end Sys2Proof.Machine
end

