-- ==== Sys2Proof/Machine/Flags.lean ====
section
/-! DEFINITION. The Event and Monitor Unit (chapter 9): event statuses and their reports, and the monitor counters with
their freeze. -/

namespace Sys2Proof.Machine

/-! ## Event statuses -/

/-- A status at an occurrence: set, with the capture of the occurrence where it was clear (R177). -/
def Status.raise (x : Status) (c : Capture) : Status :=
  if x.set then x else { x with set := true, capture := c }

/-- Whether an occurrence reports: the status was clear and its mask is clear (R177, R178). -/
def Status.reports (x : Status) : Bool := !x.set && !x.mask

/-- Sends EVENT_REPORT to the report node in use; where that is 0 none is sent (R178, R196). -/
def State.report (s : State) (device : Bool) (number : Fin 8) (c : Capture) : State :=
  if s.reportInUse = 0 then s else s.issue (.eventReport s.reportInUse device number c)

/-- A station's status of a station event. -/
def State.stationStatus (s : State) (st : Fin 16) (n : Fin 8) : Status := (s.emu.stations[st])[n]

/-- Writes a station's status. -/
def State.setStationStatus (s : State) (st : Fin 16) (n : Fin 8) (x : Status) : State :=
  { s with emu := { s.emu with stations := s.emu.stations.set st ((s.emu.stations[st]).set n x) } }

/-- The status of a device event. -/
def State.deviceStatus (s : State) (n : Fin 8) : Status := s.emu.device[n]

/-- Writes the status of a device event. -/
def State.setDeviceStatus (s : State) (n : Fin 8) (x : Status) : State :=
  { s with emu := { s.emu with device := s.emu.device.set n x } }

/-- An occurrence of a station event (R177). -/
def State.stationEvent (s : State) (st : Fin 16) (e : StationEvent) (robot : Option (Fin 64)) (body : Option Word) :
    State :=
  let n := stationEventNumber e
  let x := s.stationStatus st n
  let c : Capture := ⟨some st, robot, body⟩
  let s' := s.setStationStatus st n (x.raise c)
  if x.reports then s'.report false n c else s'

/-- An occurrence of a device event (R177). -/
def State.deviceEvent (s : State) (e : DeviceEvent) (c : Capture) : State :=
  let n := deviceEventNumber e
  let x := s.deviceStatus n
  let s' := s.setDeviceStatus n (x.raise c)
  if x.reports then s'.report true n c else s'

/-! ## Monitor counters -/

/-- The attributes of an occurrence of a count event, or of an item of a level event (9.3). -/
structure Attributes where
  station : Option (Fin 16) := none
  robot   : Option (Fin 64) := none
  style   : Option (Fin 64) := none
  deriving DecidableEq, Repr

/-- A filter against an attribute: ANY matches every value and absence, a value only itself (R183). -/
def filterMatches {n : Nat} (filter attr : Option (Fin n)) : Bool := filter.isNone || filter == attr

/-- Whether all three filters of a counter match (R183). -/
def CounterConfig.selects (c : CounterConfig) (a : Attributes) : Bool :=
  filterMatches c.station a.station && filterMatches c.robot a.robot && filterMatches c.style a.style

/-- A counter's record. -/
def State.counter (s : State) (k : Fin 8) : Counter := s.emu.counters[k]

/-- Writes a counter's record. -/
def State.setCounter (s : State) (k : Fin 8) (x : Counter) : State :=
  { s with emu := { s.emu with counters := s.emu.counters.set k x } }

/-- Whether a counter is held by the freeze (R186). -/
def State.counterHeld (s : State) (k : Fin 8) : Bool := s.emu.freeze && (s.counter k).config.freezeEnable

/-- Whether an increase from `before` to `after` fires a counter's freeze trigger (R187). -/
def CounterConfig.fires (c : CounterConfig) (before after : Long) : Bool :=
  c.trigger.any (fun t => decide (before.toNat < t.toNat) && decide (t.toNat ≤ after.toNat))

/-- Increases a counter by an amount, modulo 2^48, and examines its freeze trigger (R184, R187). -/
def State.increase (s : State) (k : Fin 8) (amount : Nat) : State :=
  let x := s.counter k
  let after := x.value + BitVec.ofNat 48 amount
  let s' := s.setCounter k { x with value := after }
  if x.config.fires x.value after then
    ({ s' with emu := { s'.emu with freeze := true } } : State).deviceEvent .counterFrozen {}
  else s'

/-- An occurrence of a count event offered to one counter (R184). -/
def State.offerCounter (s : State) (e : CounterEvent) (amount : Nat) (a : Attributes) (k : Fin 8) : State :=
  let c := (s.counter k).config
  if c.mode = .count ∧ c.event = e ∧ c.selects a ∧ ¬ s.counterHeld k then s.increase k amount else s

/-- An occurrence of a count event, offered to the eight counters in order (R184). -/
def State.count (s : State) (e : CounterEvent) (amount : Nat) (a : Attributes) : State :=
  (List.finRange 8).foldl (fun s k => s.offerCounter e amount a k) s

/-- The attributes of an entry for the monitor counters (R25). -/
def State.entryAttributes (s : State) (e : Entry) : Attributes := ⟨some e.station, some e.robot, s.entryStyle e⟩

/-! ## The sample of a tick -/

/-- The items of a level event with their attributes (9.3): entries in use, arrivals, or waiters in groups 1..8. -/
def State.levelItems (s : State) : CounterEvent → List Attributes
  | .trackerInUse => (s.dtr.tracker.toList.filterMap (·.entry)).map s.entryAttributes
  | .queueDepth => s.arq.queue.map (fun a => { station := some a.station })
  | .supplyWaiters =>
    ((s.dtr.tracker.toList.filterMap (·.entry)).filter (fun e => e.supply == .waiting && (s.robot e.robot).group != 0)).map
      s.entryAttributes
  | _ => []

/-- The level that a counter samples: the items whose attributes match its filters (R185). -/
def State.level (s : State) (c : CounterConfig) : Nat := (s.levelItems c.event).countP c.selects

/-- The condition of the THRESHOLD and EDGE modes (R185). -/
def CounterConfig.condition (c : CounterConfig) (level : Nat) : Bool :=
  if c.invert then decide (level < c.threshold) else decide (c.threshold ≤ level)

/-- The level events (R183). -/
def CounterEvent.isLevel : CounterEvent → Bool
  | .trackerInUse | .queueDepth | .supplyWaiters => true
  | _ => false

/-- The amount that a sampled level adds to a counter that is not held (R185). -/
def Counter.sampled (x : Counter) (level : Nat) : Nat :=
  match x.config.mode with
  | .count => 0
  | .level => level
  | .threshold => if x.config.condition level then 1 else 0
  | .edge => if x.config.condition level && !x.last then 1 else 0

/-- The sample of one counter at a tick. In EDGE mode the condition becomes the last condition, held or not (R185). -/
def State.sampleCounter (s : State) (k : Fin 8) : State :=
  let x := s.counter k
  if x.config.event.isLevel ∧ x.config.mode ≠ .count then
    let level := s.level x.config
    let s' := if s.counterHeld k then s else s.increase k (x.sampled level)
    if x.config.mode = .edge then s'.setCounter k { s'.counter k with last := x.config.condition level } else s'
  else s

/-- The sample of a tick: the counters in order (R185). -/
def State.sample (s : State) : State := (List.finRange 8).foldl State.sampleCounter s

end Sys2Proof.Machine
end

