-- ==== Sys2Proof/Machine/Image.lean ====
section
/-! DEFINITION. The output side of the Process Image Unit (8.3, 8.4): computed and effective output bits, and
STATION_OUTPUTS at the points of R171. -/

namespace Sys2Proof.Machine

/-- Whether a DRESS entry that names the station is WELDING (R166). -/
def State.dressing (s : State) (st : Fin 16) : Bool :=
  s.dtr.tracker.toList.any
    (fun p => p.entry.any (fun e => e.kind == .dress && e.state == .welding && e.station == st))

/-- The computed value of an output bit of a station: 0 PERMIT, 1 HELD, 2 DRESSING, 3 DISABLED (R166). -/
def State.computedBit (s : State) (st : Fin 16) (b : Fin 4) : Bool :=
  if b = 0 then (s.station st).current.any (·.state = .released)
  else if b = 1 then (s.station st).state = .held
  else if b = 2 then s.dressing st
  else (s.station st).state = .disabled

/-- The effective value of an output bit (R167). -/
def State.effectiveBit (s : State) (st : Fin 16) (b : Fin 4) : Bool :=
  let x := (s.panel st).bits[b]
  if x.forced then x.value else s.computedBit st b

/-- A bit of a byte as a number. -/
def bitNumber (b : Bool) (weight : Nat) : Nat := if b then weight else 0

/-- A station's byte of the effective image (R171). -/
def State.effectiveByte (s : State) (st : Fin 16) : Byte :=
  BitVec.ofNat 8 (bitNumber (s.effectiveBit st 0) 1 + bitNumber (s.effectiveBit st 1) 2
    + bitNumber (s.effectiveBit st 2) 4 + bitNumber (s.effectiveBit st 3) 8)

/-- The effective image of the sixteen stations (R171). -/
def State.image (s : State) : Vector Byte 16 := tabulate 16 s.effectiveByte

/-- The effective image becomes the reported image (R171). -/
def State.imageReported (s : State) : State := { s with piu := { s.piu with reported := s.image } }

/-- Sends STATION_OUTPUTS with the effective image, which becomes the reported image; where the line node is 0 nothing is
sent (R171, R172). -/
def State.sendImage (s : State) : State := (s.issueToLine (.stationOutputs · s.image)).imageReported

/-- A point of R171: STATION_OUTPUTS is sent where the effective image differs from the reported image. -/
def State.comparePoint (s : State) : State := if s.image = s.piu.reported then s else s.sendImage

end Sys2Proof.Machine
end

