-- ==== Sys2Proof/Machine/Tables.lean ====
section
/-! DEFINITION. The Table Store's roles and stamps (2.6), and the contents that the table requests write. -/

namespace Sys2Proof.Machine

/-- An accepted arrival raises the stamp count of the bank it carries (R40). -/
def State.addStamp (s : State) (id : BankId) : State :=
  s.setBank id { s.bank id with stamps := (s.bank id).stamps + 1 }

/-- A drain ends where the DRAINING bank's stamp count has fallen to 0: it becomes SHADOW and COMMIT_DONE occurs (R42). -/
def State.endDrain (s : State) : State :=
  if s.tbs.draining ∧ (s.bank s.tbs.active.other).stamps = 0 then
    ({ s with tbs := { s.tbs with draining := false } } : State).deviceEvent .commitDone {}
  else s

/-- An arrival that leaves the queue lowers the stamp count of the bank it carries, which may end a drain (R40, R42). -/
def State.dropStamp (s : State) (id : BankId) : State :=
  (s.setBank id { s.bank id with stamps := (s.bank id).stamps - 1 }).endDrain

/-- The bank that is SHADOW, where one is (R27). -/
def Tbs.shadow? (t : Tbs) : Option BankId := if t.draining then none else some t.active.other

/-- The number of valid style entries of a bank (R32). -/
def Bank.validEntries (x : Bank) : Nat := x.styles.toList.countP (·.valid)

/-- The number of program records of a bank (R33). -/
def Bank.recordCount (x : Bank) : Nat := x.programs.length

/-- A program table with a record added, or replaced whole, at a key; the keys stay rising (R35). -/
def insertRecord (k : Nat) (x : ProgramRecord) : List (Nat × ProgramRecord) → List (Nat × ProgramRecord)
  | [] => [(k, x)]
  | (k', x') :: rest =>
    if k < k' then (k, x) :: (k', x') :: rest
    else if k = k' then (k, x) :: rest
    else (k', x') :: insertRecord k x rest

/-- A program table without the record at a key (R36). -/
def eraseRecord (k : Nat) (l : List (Nat × ProgramRecord)) : List (Nat × ProgramRecord) :=
  l.filter (fun p => p.1 != k)

/-- Writes a style place of a bank (R31, R32). -/
def Bank.setStyle (x : Bank) (i : Fin 128) (p : StylePlace) : Bank := { x with styles := x.styles.set i p }

/-- A bank with the tables of another; the stamp count is its own (R37). -/
def Bank.copyFrom (x source : Bank) : Bank := { x with styles := source.styles, programs := source.programs }

/-- A bank with its tables emptied; the stamp count is kept (R38). -/
def Bank.cleared (x : Bank) : Bank := { x with styles := Vector.replicate 128 {}, programs := [] }

/-- TABLE_COMMIT: the SHADOW bank becomes ACTIVE, and the old ACTIVE bank DRAINING where its stamp count is above 0, else
SHADOW with COMMIT_DONE (R41). -/
def State.commit (s : State) : State :=
  let old := s.tbs.active
  let s' : State :=
    { s with tbs := { s.tbs with active := old.other, draining := decide (0 < (s.bank old).stamps) } }
  if (s.bank old).stamps = 0 then s'.deviceEvent .commitDone {} else s'

/-- The ordered pairs of an adder list are checked and read: each bit below 8, set in the mask and not named before, each
delta in -64..63 (R34). -/
def adders? (mask : Byte) : List Nat → List (Byte × Byte) → Option (List Adder)
  | _, [] => some []
  | seen, (b, d) :: rest =>
    if b.toNat < 8 ∧ mask.getLsbD b.toNat ∧ b.toNat ∉ seen ∧ -64 ≤ d.toInt ∧ d.toInt ≤ 63 then
      (adders? mask (b.toNat :: seen) rest).map (⟨b.toNat, d.toInt⟩ :: ·)
    else none

/-- The overlay of a PROGRAM_WRITE: `none` where a field is out of range; absent where the flag is clear (R34, R210). -/
def overlay? (f : ProgramFields) : Option (Option Overlay) :=
  match flag? f.overlay with
  | none => none
  | some false => some none
  | some true =>
    match shiftKind? f.kind with
    | none => none
    | some k => if f.count.toNat ≤ 31 ∧ f.mask ≠ 0 then some (some ⟨k, f.count.toNat, f.mask⟩) else none

/-- The key and record of a PROGRAM_WRITE, where every field is in range (R34). -/
def programWrite? (f : ProgramFields) : Option (Nat × ProgramRecord) :=
  match below? 16 f.station, below? 8 f.position, below? 64 f.style, overlay? f with
  | some st, some p, some sy, some o =>
    if f.program ≠ 0 ∧ f.expected.toNat ≤ Config.maxCount ∧ f.adders.toNat ≤ Config.maxAdders
        ∧ (f.adders.toNat = 0 ∨ o.isSome) then
      (adders? ((o.map (·.mask)).getD 0) [] (f.places.toList.take f.adders.toNat)).map
        (fun l => (programKey st p sy, ⟨f.program, f.expected.toNat, o, l⟩))
    else none
  | _, _, _, _ => none

/-- The index and place of a STYLE_WRITE, where every field is in range (R31). -/
def styleWrite? (f : StyleFields) : Option (Fin 128 × StylePlace) :=
  match below? 128 f.index, below? 64 f.style with
  | some i, some sy => if f.value &&& ~~~f.care = 0 then some (i, ⟨true, f.value, f.care, sy, f.stations⟩) else none
  | _, _ => none

end Sys2Proof.Machine
end

