-- ==== Sys2Proof/Machine/Supply.lean ====
section
/-! DEFINITION. The Supply Arbiter (chapter 6): grants, the handing-on of credits, and the return of what an entry holds or
waits for. -/

namespace Sys2Proof.Machine

/-- The place of a supply group 1..8; `none` for group 0 (R116). -/
def groupPlace? (g : Fin 9) : Option (Fin 8) := if h : 1 ≤ (g : Nat) then some ⟨g - 1, by omega⟩ else none

/-- The group that an entry draws on: the one that its robot names (R118). -/
def State.groupOf? (s : State) (e : Entry) : Option (Fin 8) := groupPlace? (s.robot e.robot).group

/-- Whether the entry at an index stands in a group with a supply state. -/
def State.standsIn (s : State) (g : Fin 8) (x : SupplyState) (i : Fin 128) : Bool :=
  (s.entry? i).any (fun e => e.supply == x && s.groupOf? e == some g)

/-- The holders of a group (R116). -/
def State.holders (s : State) (g : Fin 8) : List (Fin 128) := allIndices.filter (s.standsIn g .holding)

/-- The waiters of a group (R116). -/
def State.waiters (s : State) (g : Fin 8) : List (Fin 128) := allIndices.filter (s.standsIn g .waiting)

/-- The number of free credits of a group (R116). -/
def State.freeCredits (s : State) (g : Fin 8) : Nat := (s.group g).capacity - (s.holders g).length

/-- The robot number of the entry at an index. -/
def State.robotNumber (s : State) (i : Fin 128) : Nat := ((s.entry? i).map (fun e => (e.robot : Nat))).getD 0

/-- The entry of a list whose robot has the lowest number. -/
def State.lowestRobot? (s : State) : List (Fin 128) → Option (Fin 128)
  | [] => none
  | i :: rest =>
    match s.lowestRobot? rest with
    | none => some i
    | some j => if s.robotNumber i ≤ s.robotNumber j then some i else some j

/-- Entries in ascending order of robot number (R132). -/
def State.byRobot (s : State) (l : List (Fin 128)) : List (Fin 128) :=
  allRobots.flatMap (fun r => l.filter (fun i => (s.entry? i).any (·.robot = r)))

/-- The waiter that a freed credit goes to: the first after the pointer in member order (R122). -/
def State.nextWaiter? (s : State) (g : Fin 8) (l : List (Fin 128)) : Option (Fin 128) :=
  match (s.group g).pointer with
  | none => s.lowestRobot? l
  | some p => (s.lowestRobot? (l.filter (fun i => decide ((p : Nat) < s.robotNumber i)))).or (s.lowestRobot? l)

/-- A grant to the entry at an index: it becomes a holder with its hold timer started, the pointer names its robot, and
WELD_GRANT is sent (R118, R122, R124). -/
def State.grant (s : State) (g : Fin 8) (i : Fin 128) : State :=
  match s.entry? i with
  | none => s
  | some e =>
    let s1 := s.setEntry i (some { e with supply := .holding, holdTimer := some ((s.group g).holdLimit + 1) })
    let s2 := s1.setGroup g { s1.group g with pointer := some e.robot }
    s2.issueToRobot e.robot (.weldGrant · (s2.tag i) false)

/-- The handing-on of a freed credit, which passes over the waiters of `ban`, an abort set (R122, R123). -/
def State.handOn (s : State) (g : Fin 8) (ban : List (Fin 128)) : State :=
  match s.nextWaiter? g ((s.waiters g).filter (fun i => !ban.contains i)) with
  | none => s
  | some i => s.grant g i

/-- What SPA does as an entry ends or gives its credit back: a held credit is returned and handed on, a waiter leaves the
waiters (R119, R120, R121). -/
def State.releaseSupply (s : State) (i : Fin 128) (ban : List (Fin 128)) : State :=
  match s.entry? i with
  | none => s
  | some e =>
    let s' := s.setEntry i (some { e with supply := .none, holdTimer := none })
    match e.supply, s.groupOf? e with
    | .holding, some g => s'.handOn g ban
    | _, _ => s'

end Sys2Proof.Machine
end

