-- ==== Sys2Proof/Machine/Stations.lean ====
section
/-! DEFINITION. The Station Controller's slot records (chapter 7): writing an outcome, holding the station, completion and
promotion. -/

namespace Sys2Proof.Machine

/-! ## Holding -/

/-- Changes a station's record and sets the HELD event where the station goes from RUNNING to HELD (R136). -/
def State.updateStation (s : State) (st : Fin 16) (x : Station) : State :=
  let s' := s.setStation st x
  if (s.station st).state = .running ∧ x.state = .held then s'.stationEvent st .held none (x.current.map (·.body))
  else s'

/-- The reason that an outcome gives while it blocks (R140, R141). -/
def PositionOutcome.reason? : PositionOutcome → Option Reason
  | .rejected => some .rejected
  | .expired => some .expired
  | .robotFault => some .robotFault
  | .supplyHold => some .supplyHold
  | .wearLimit => some .wearLimit
  | .short => some .short
  | .bypassed => some .bypassed
  | _ => none

/-- The reason that a written outcome enters under a station's short policy (R141). -/
def blockingReason? (policy : Policy) (o : PositionOutcome) : Option Reason :=
  match o with
  | .short | .bypassed => if policy = .hold then o.reason? else none
  | _ => o.reason?

/-- A blocking reason set with an optional reason entered. -/
def ReasonSet.enter? (x : ReasonSet) : Option Reason → ReasonSet
  | none => x
  | some r => x.enter r

/-- Whether a position is blocking: its outcome's reason is in its slot's set (R141). -/
def Slot.blocking (x : Slot) (p : Fin 8) : Bool :=
  (x.positions[p]).any (fun y => y.outcome.reason?.any x.reasons.has)

/-- The blocking positions of a slot, in position order. -/
def Slot.blockingPositions (x : Slot) : List (Fin 8) := allPositions.filter x.blocking

/-! ## Completion and release -/

/-- Whether a position is NONE or terminal (R140). -/
def positionSettled (p : Option Position) : Bool := p.all (fun y => y.outcome != .pending)

/-- The shortfall list of a slot (R147). -/
def Slot.shortfalls (x : Slot) : List (Fin 8 × Nat) :=
  allPositions.filterMap
    (fun p => (x.positions[p]).bind (fun y => if 0 < y.shortfall then some (p, y.shortfall) else none))

/-- The overall outcome of a completed slot (R147). -/
def Slot.overall (x : Slot) : Overall :=
  if x.abortMark then .rejected
  else if x.style.isNone ∨ x.positions.toList.all (·.isNone) then .unwelded
  else if x.shortfalls.isEmpty then .welded
  else .short

/-- Whether the CURRENT slot of a station completes: RUNNING, SEATED, every position settled (R146). -/
def Station.completes (x : Station) : Bool :=
  x.state == .running && x.current.any (fun c => c.state == .seated && c.positions.toList.all positionSettled)

/-- The completion check of a station's CURRENT slot: it becomes COMPLETE, STATION_RELEASE is sent, it becomes RELEASED and
the cycle timer is stopped (R146, R147). -/
def State.checkCompletion (s : State) (st : Fin 16) : State :=
  let x := s.station st
  match x.current with
  | none => s
  | some c =>
    if x.completes then
      let s1 := s.setStation st { x with current := some { c with state := .complete } }
      let s2 := s1.issueToLine (.stationRelease · st c.body c.overall c.shortfalls)
      s2.setStation st { x with current := some { c with state := .released }, cycleTimer := none }
    else s

/-! ## Outcomes -/

/-- A slot with an outcome written into the position of an entry; a blocking outcome enters the set (R84, R141). -/
def Slot.write (x : Slot) (policy : Policy) (p : Fin 8) (o : PositionOutcome) (reported : Option Nat) (shortfall : Nat) :
    Slot :=
  match x.positions[p] with
  | none => x
  | some y =>
    { x with
      positions := x.positions.set p (some { y with outcome := o, reported := reported, shortfall := shortfall })
      reasons := x.reasons.enter? (blockingReason? policy o) }

/-- Writes the outcome of a WELD entry into the slot of its station that holds its body, CURRENT or NEXT, and checks the
CURRENT slot's completion (R84, R141, R146). -/
def State.writeOutcome (s : State) (e : Entry) (o : EntryOutcome) (reported : Option Nat) : State :=
  let x := s.station e.station
  let write (y : Slot) : Slot :=
    y.write x.config.short e.position (positionOutcome o) reported (shortfallOf o e.expected reported)
  if x.current.any (·.body = e.body) then
    (s.updateStation e.station { x with current := x.current.map write }).checkCompletion e.station
  else if x.next.any (·.body = e.body) then
    s.updateStation e.station { x with next := x.next.map write }
  else s

/-! ## Becoming CURRENT -/

/-- A slot as it becomes CURRENT: a NO_STYLE slot is met by the no-style policy (R142). -/
def Slot.meetPolicy (x : Slot) (policy : Policy) : Slot :=
  if x.style.isNone ∧ policy = .hold then { x with reasons := x.reasons.enter .noStyle } else x

/-- Empties the CURRENT slot of a station and promotes the NEXT slot whole, with the state ANNOUNCED; a pass is called
(R50, R148). -/
def State.promote (s : State) (st : Fin 16) : State :=
  let x := s.station st
  let promoted := x.next.map (fun n => ({ n with state := .announced } : Slot).meetPolicy x.config.noStyle)
  (s.updateStation st { x with current := promoted, next := none }).callPass

end Sys2Proof.Machine
end

