-- ==== Sys2Proof/Machine/Tracker.lean ====
section
/-! DEFINITION. The Dispatch Tracker (chapter 4): the end of an entry, offers and re-offers, the abort of a set, and the
insertion of a retry entry. -/

namespace Sys2Proof.Machine

/-! ## The end of an entry (R69) -/

/-- What an ended WELD entry hands on: the counts of R18, R26 and R76, SHORTFALL, and the write into its slot position
(R84). -/
def State.handWeld (s : State) (e : Entry) (o : EntryOutcome) (reported : Option Nat) : State :=
  let a := s.entryAttributes e
  let s' := match o with
    | .done => s.count .done 1 a
    | .short => (s.stationEvent e.station .shortfall (some e.robot) (some e.body)).count .short 1 a
    | .rejected => s.count .rejects 1 a
    | _ => s
  s'.writeOutcome e o reported

/-- What an ended DRESS entry hands on: DRESS_FAILED where it failed, and the counts of R26 and R76; at OK the robot's gun
wear becomes 0 (R24, R85, R106). -/
def State.handDress (s : State) (e : Entry) (o : EntryOutcome) : State :=
  let a := s.entryAttributes e
  let failed := s.stationEvent e.station .dressFailed (some e.robot) (some e.body)
  match o with
  | .ok => (s.setRobot e.robot { s.robot e.robot with wear := 0 }).count .dressCycles 1 a
  | .dressFailed => failed.count .dressCycles 1 a
  | .rejected => failed.count .rejects 1 a
  | .expired | .supplyHold => failed
  | _ => s

/-- What an ended MAINT entry hands on: the robot's last maintenance outcome, and the counts of R26 and R76 (R86, R111). -/
def State.handMaint (s : State) (e : Entry) (o : EntryOutcome) (reported : Option Nat) : State :=
  let a := s.entryAttributes e
  let s' := s.setRobot e.robot { s.robot e.robot with maint := some ⟨o, e.program, reported⟩ }
  match o with
  | .done => s'.count .done 1 a
  | .rejected => s'.count .rejects 1 a
  | _ => s'

/-- The third step of R69: the outcome is handed on. -/
def State.handOutcome (s : State) (e : Entry) (o : EntryOutcome) (reported : Option Nat) : State :=
  match e.kind with
  | .weld => s.handWeld e o reported
  | .dress => s.handDress e o
  | .maint => s.handMaint e o reported

/-- The fourth step of R69: the entry leaves its robot list and its index becomes free, which calls a pass (R64, R67). -/
def State.free (s : State) (i : Fin 128) (r : Fin 64) : State :=
  ((s.setEntry i none).setList r ((s.list r).filter (· != i))).callPass

/-- The robot state after the end of an entry (R70); a DISABLED robot, which holds no entry (R98), would stay DISABLED. -/
def robotAfter (e : Entry) (o : EntryOutcome) (now : RobotState) : RobotState :=
  if now = .disabled then .disabled else
  match o with
  | .aborted => if e.beyondQueued && now == .busy then .idle else now
  | .bypassed => now
  | .rejected | .expired | .robotFault | .supplyHold | .wearLimit => if e.kind = .weld then .faulted else .idle
  | .done | .short | .excess | .ok | .dressFailed => .idle

/-- The first five steps of R69, for the entry at an index. `ban` is the abort set that it ends with (R123). -/
def State.endCore (s : State) (i : Fin 128) (o : EntryOutcome) (reported : Option Nat) (ban : List (Fin 128)) : State :=
  match s.entry? i with
  | none => s
  | some e =>
    let s1 := (s.releaseSupply i ban).modEntry i (fun e => { e with selectTimer := none })
    let s2 := (s1.handOutcome e o reported).free i e.robot
    s2.setRobotState e.robot (robotAfter e o (s2.robot e.robot).state)

/-! ## Offers -/

/-- Sends PROG_SELECT for the entry at an index with a new issue number, starts its select timer with the select timeout of
its station, and counts OFFERS (R65, R72, R77). A point of R171 stands before the telegram. -/
def State.sendSelect (s : State) (i : Fin 128) : State :=
  match s.entry? i with
  | none => s
  | some e =>
    let s1 := (s.setPlace i { s.place i with issue := (s.place i).issue + 1 }).comparePoint
    let s2 := s1.issueToRobot e.robot (.progSelect · (s1.tag i) e.program e.expected e.body e.kind)
    let timeout := (s.station e.station).config.selectTimeout
    (s2.modEntry i (fun e => { e with selectTimer := some (timeout + 1) })).count .offers 1 (s2.entryAttributes e)

/-- The offer of a QUEUED head: PROG_SELECT is sent, the entry becomes OFFERED and its robot BUSY (R72). -/
def State.offer (s : State) (i : Fin 128) (r : Fin 64) : State :=
  ((s.modEntry i (fun e => { e with state := .offered })).setRobotState r .busy).sendSelect i

/-- A re-offer of an OFFERED entry, which spends its one re-offer (R76, R77, R78). -/
def State.reoffer (s : State) (i : Fin 128) : State :=
  (s.modEntry i (fun e => { e with reoffered := true })).sendSelect i

/-- Whether the head of a robot's list can be offered: QUEUED, its robot IDLE, its station not MANUAL and, for a WELD
entry, not DISABLED (R71). -/
def State.offerable (s : State) (r : Fin 64) (e : Entry) : Bool :=
  e.state == .queued && (s.robot r).state == .idle && !(s.panel e.station).manual
    && (e.kind != .weld || (s.station e.station).enabled)

/-- An offer attempt for a robot (R71). A WELD head whose robot is at its wear limit ends WEAR_LIMIT instead (R72); its
robot is then FAULTED, so that nothing more is offered. -/
def State.attemptOffer (s : State) (r : Fin 64) : State :=
  match (s.list r).head? with
  | none => s
  | some i =>
    match s.entry? i with
    | none => s
    | some e =>
      if s.offerable r e then
        if e.kind = .weld ∧ (s.robot r).worn then s.endCore i .wearLimit none [] else s.offer i r
      else s

/-- The end of an entry by all six steps of R69. -/
def State.endEntry (s : State) (i : Fin 128) (o : EntryOutcome) (reported : Option Nat) : State :=
  match s.entry? i with
  | none => s
  | some e => (s.endCore i o reported []).attemptOffer e.robot

/-- Offer attempts for robots in the order given. -/
def State.attemptOffers (s : State) (rs : List (Fin 64)) : State := rs.foldl State.attemptOffer s

/-! ## Aborts (R87) -/

/-- One entry of an abort set: DISPATCH_CANCEL where it is beyond QUEUED, then its end with the outcome ABORTED. -/
def State.abortEntry (s : State) (ban : List (Fin 128)) (i : Fin 128) : State :=
  match s.entry? i with
  | none => s
  | some e =>
    let s' := if e.beyondQueued then s.issueToRobot e.robot (.dispatchCancel · (s.tag i)) else s
    s'.endCore i .aborted none ban

/-- Whether a robot's head changed, or it became IDLE, between two states (R87). -/
def State.calledFrom (s before : State) (r : Fin 64) : Bool :=
  (s.list r).head? != (before.list r).head?
    || ((s.robot r).state == .idle && (before.robot r).state != .idle)

/-- The entries of an abort set end, in index order (R87). -/
def State.endSet (s : State) (set : List (Fin 128)) : State := set.foldl (fun s i => s.abortEntry set i) s

/-- The robots that an abort calls offers for: those whose heads changed or who became IDLE since `before`, in position
order, the stations in ascending order (R87, log entry 11). -/
def State.calledRobots (s before : State) : List (Fin 64) :=
  (allStations.flatMap s.stationRobots).filter (s.calledFrom before)

/-- The abort of a set of entries, given in index order: they end, and then offers are attempted for the robots whose heads
changed or who became IDLE (R87). -/
def State.abortSet (s : State) (set : List (Fin 128)) : State :=
  (s.endSet set).attemptOffers ((s.endSet set).calledRobots s)

/-- The entries that name a station, in index order. -/
def State.entriesOf (s : State) (st : Fin 16) : List (Fin 128) :=
  allIndices.filter (fun i => (s.entry? i).any (fun e => e.station == st))

/-- The entries that carry a body ID, of every station and in index order (R87, log entry 11). -/
def State.entriesOfBody (s : State) (body : Word) : List (Fin 128) :=
  allIndices.filter (fun i => (s.entry? i).any (·.body == body))

/-! ## Creation and insertion -/

/-- A new entry at the lowest free index, and that index; the issue number is carried over (R64, R65). Where no index is
free nothing is created. -/
def State.create (s : State) (e : Entry) : State × Option (Fin 128) :=
  match s.lowestFree? with
  | none => (s, none)
  | some i => (s.setEntry i (some e), some i)

/-- A new entry at the tail of its robot's list (R66). -/
def State.append (s : State) (e : Entry) : State :=
  match s.create e with
  | (s', some i) => s'.setList e.robot (s'.list e.robot ++ [i])
  | (s', none) => s'

/-- The withdrawal of a later body's WELD head beyond QUEUED: DISPATCH_CANCEL, back to QUEUED, its robot IDLE (R68). -/
def State.withdraw (s : State) (i : Fin 128) (r : Fin 64) : State :=
  ((s.issueToRobot r (.dispatchCancel · (s.tag i))).modEntry i
    (fun e => { e with state := .queued, reoffered := false, selectTimer := none, supply := .none, holdTimer := none })
    ).setRobotState r .idle

/-- A new WELD entry at the head of its robot's list, or directly behind a DRESS or MAINT head beyond QUEUED; a WELD head
beyond QUEUED is withdrawn first (R68). -/
def State.insertHead (s : State) (e : Entry) : State :=
  match s.create e with
  | (s', none) => s'
  | (s', some i) =>
    match s'.list e.robot with
    | [] => s'.setList e.robot [i]
    | h :: rest =>
      match s'.entry? h with
      | none => s'.setList e.robot (i :: h :: rest)
      | some x =>
        if !x.beyondQueued then s'.setList e.robot (i :: h :: rest)
        else if x.kind = .weld then (s'.withdraw h e.robot).setList e.robot (i :: h :: rest)
        else s'.setList e.robot (h :: i :: rest)

end Sys2Proof.Machine
end

