-- ==== Sys2Proof/Machine/Arrivals.lean ====
section
/-! DEFINITION. The Arrival Queue (chapter 3): the allocation pass, acceptance and removal. -/

namespace Sys2Proof.Machine

/-! ## Judging an arrival -/

/-- The plan of a position at allocation: its work and the robot that serves it, where one does (R53). -/
structure Plan where
  position : Fin 8
  work     : Work
  robot    : Option (Fin 64)
  deriving DecidableEq, Repr

/-- The plans of the positions with work, in position order (R53). -/
def State.plans (s : State) (st : Fin 16) (works : Vector (Option Work) 8) : List Plan :=
  allPositions.filterMap (fun p => (works[p]).map (fun w => ⟨p, w, s.servingRobot? st p⟩))

/-- The serving robots of the plans, in position order. -/
def servingRobots (plans : List Plan) : List (Fin 64) := plans.filterMap (·.robot)

/-- The entries that a body adds to a serving robot's list: one, or two with a dress (R54). -/
def State.additions (s : State) (r : Fin 64) : Nat := if s.dressDue r then 2 else 1

/-- The need of an arrival: an entry for each serving robot and one for each dress insertion (R54). -/
def State.need (s : State) (plans : List Plan) : Nat := ((servingRobots plans).map s.additions).sum

/-- Whether every serving robot has room (R54). -/
def State.hasRoom (s : State) (plans : List Plan) : Bool :=
  (servingRobots plans).all (fun r => decide ((s.list r).length + s.additions r ≤ Config.maxList))

/-- Whether an arrival is eligible, `ahead` being the arrivals that stand ahead of it (R52). -/
def State.eligible (s : State) (ahead : List Arrival) (a : Arrival) : Bool :=
  let x := s.station a.station
  x.state != .disabled && (x.current.isNone || x.next.isNone) && !x.bodyLost
    && ahead.all (fun b => b.station != a.station)

/-- The full resolution of an arrival in its stamped bank (R53). -/
def State.resolveArrival (s : State) (a : Arrival) : Resolution :=
  resolve (s.station a.station).config (s.bank a.stamp) a.station a.build

/-- Whether an eligible arrival is allocated: free entries for its need, room on its robots' lists, and no STARVED arrival
ahead of it (R55). -/
def State.allocatable (s : State) (ahead : List Arrival) (plans : List Plan) : Bool :=
  decide (s.need plans ≤ s.freeEntries) && s.hasRoom plans && !ahead.any (·.starved)

/-! ## Allocation -/

/-- The position record that a position's plan gives at allocation or at a retry (R56, R152). -/
def Plan.record (x : Plan) : Position :=
  match x.robot with
  | some _ => ⟨x.work.program, x.work.expected, .pending, none, 0⟩
  | none => ⟨x.work.program, x.work.expected, .bypassed, none, x.work.expected⟩

/-- The reason that a position's plan enters: a BYPASSED position under the short policy HOLD (R56, R141). -/
def Plan.reason? (x : Plan) (policy : Policy) : Option Reason :=
  if x.robot.isNone then blockingReason? policy .bypassed else none

/-- A slot with the position records of plans written into it. -/
def writePlans (positions : Vector (Option Position) 8) (plans : List Plan) : Vector (Option Position) 8 :=
  plans.foldl (fun v x => v.set x.position (some x.record)) positions

/-- A blocking reason set with the reasons of plans entered. -/
def ReasonSet.enterPlans (x : ReasonSet) (policy : Policy) (plans : List Plan) : ReasonSet :=
  plans.foldl (fun x p => x.enter? (p.reason? policy)) x

/-- The slot record of an allocated arrival (R56). -/
def newSlot (policy : Policy) (a : Arrival) (style : Option (Fin 64)) (plans : List Plan) : Slot where
  state := .announced
  body := a.body
  build := a.build
  style := style
  stamp := a.stamp
  reasons := ({} : ReasonSet).enterPlans policy plans
  abortMark := false
  positions := writePlans (Vector.replicate 8 none) plans

/-- Writes an allocated body's slot record: into CURRENT where that is EMPTY, met by the no-style policy, and into NEXT
otherwise (R56, R142). -/
def State.writeSlot (s : State) (st : Fin 16) (slot : Slot) : State :=
  let x := s.station st
  if x.current.isNone then s.updateStation st { x with current := some (slot.meetPolicy x.config.noStyle) }
  else s.updateStation st { x with next := some slot }

/-- A new WELD entry of a body (R56, R152). -/
def weldEntry (st : Fin 16) (body : Word) (x : Plan) (r : Fin 64) : Entry where
  kind := .weld
  robot := r
  station := st
  body := body
  position := x.position
  program := x.work.program
  expected := x.work.expected

/-- The DRESS entry ahead of a body's WELD entry: the robot's dress program with E = 0 (R56, R105). -/
def State.dressEntry (s : State) (st : Fin 16) (body : Word) (x : Plan) (r : Fin 64) : Entry where
  kind := .dress
  robot := r
  station := st
  body := body
  position := x.position
  program := (s.robot r).dress
  expected := 0

/-- Creates a position's entries: a DRESS entry where one is due, then the WELD entry (R56). -/
def State.createFor (st : Fin 16) (body : Word) (x : Plan) (s : State) : State :=
  match x.robot with
  | none => s
  | some r =>
    let s' := if s.dressDue r then s.append (s.dressEntry st body x r) else s
    s'.append (weldEntry st body x r)

/-- Allocates an arrival: its slot, its entries in position order, its removal from the queue, which becomes `queue`, and
the offer attempts for its robots in position order (R56, R57). -/
def State.allocate (s : State) (a : Arrival) (style : Option (Fin 64)) (plans : List Plan) (queue : List Arrival) :
    State :=
  let s1 := s.writeSlot a.station (newSlot (s.station a.station).config.short a style plans)
  let s2 := forAll plans (State.createFor a.station a.body) s1
  let s3 := (s2.setQueue queue).dropStamp a.stamp
  s3.attemptOffers (servingRobots plans)

/-! ## Skips -/

/-- An arrival after a skip (R58). -/
def Arrival.skipped (a : Arrival) : Arrival :=
  if a.skips < Config.starvation then
    { a with skips := a.skips + 1, starved := a.starved || a.skips + 1 == Config.starvation }
  else a

/-- The events of a skip: TRACKER_STARVED where the arrival becomes STARVED, and ALLOC_SKIPS (R58). -/
def State.skipEvents (s : State) (a : Arrival) (style : Option (Fin 64)) : State :=
  let s' := if !a.starved && a.skipped.starved then s.deviceEvent .trackerStarved ⟨some a.station, none, some a.body⟩
    else s
  s'.count .allocSkips 1 ⟨some a.station, none, style⟩

/-! ## The pass -/

/-- The walk of a pass: `ahead` are the arrivals already judged and still queued, and the list is those not yet judged;
the queue of the state is always the first followed by the second (R51). -/
def passWalk (ahead : List Arrival) : List Arrival → State → State
  | [], s => s
  | a :: rest, s =>
    if s.eligible ahead a then
      let res := s.resolveArrival a
      let plans := s.plans a.station res.works
      if s.allocatable ahead plans then
        passWalk ahead rest (s.allocate a res.style plans (ahead ++ rest))
      else
        passWalk (ahead ++ [a.skipped]) rest ((s.setQueue (ahead ++ a.skipped :: rest)).skipEvents a res.style)
    else passWalk (ahead ++ [a]) rest s

/-- The allocation pass of an event, where the event has called for one; it runs once (R50, R64). -/
def State.runPass (s : State) : State :=
  if s.passDue then { passWalk [] s.arq.queue s with passDue := false } else s

/-! ## Acceptance -/

/-- Whether a body ID duplicates one held at a station (R48). -/
def State.duplicates (s : State) (st : Fin 16) (body : Word) : Bool :=
  s.arq.queue.any (fun a => a.station == st && a.body == body)
    || (s.station st).current.any (·.body = body) || (s.station st).next.any (·.body = body)

/-- The refusal of a BODY_ARRIVE: ARRIVAL_ACK, then ARRIVAL_REFUSED and ARRIVALS_REFUSED (R47, R179). -/
def State.refuseArrival (s : State) (seq : Half) (st : Option (Fin 16)) (body : Word) (reason : AckReason) : State :=
  ((s.issueToLine (.arrivalAck · seq body (some reason))).deviceEvent .arrivalRefused ⟨st, none, some body⟩).count
    .arrivalsRefused 1 { station := st }

/-- The acceptance of a BODY_ARRIVE: a new arrival at the tail, stamped with the ACTIVE bank and answered; a pass is called
(R49). -/
def State.acceptArrival (s : State) (seq : Half) (st : Fin 16) (body build : Word) : State :=
  let id := s.tbs.active
  let s1 := (s.setQueue (s.arq.queue ++ [{ station := st, body := body, build := build, stamp := id }])).addStamp id
  ((s1.issueToLine (.arrivalAck · seq body none)).count .arrivalsAccepted 1 { station := some st }).callPass

/-- A BODY_ARRIVE that has passed the form checks: dropped where its source is not the line node, else checked in the order
of R47 (R46 to R49). -/
def State.bodyArrive (s : State) (sender : Sender) (station : Byte) (body build : Word) : State :=
  if s.mge.lineNode = 0 ∨ sender.node ≠ s.mge.lineNode then s.deviceEvent .badTelegram {}
  else match below? 16 station with
    | none => s.refuseArrival sender.seq none body .station
    | some st =>
      if (s.station st).state = .disabled then s.refuseArrival sender.seq (some st) body .station
      else if body = 0 then s.refuseArrival sender.seq (some st) body .body
      else if s.duplicates st body then s.refuseArrival sender.seq (some st) body .duplicate
      else if Config.maxArrivals ≤ s.arq.queue.length then s.refuseArrival sender.seq (some st) body .full
      else s.acceptArrival sender.seq st body build

/-! ## Removal -/

/-- The removal of one arrival whose station has become DISABLED: it leaves the queue, is answered refused STATION, its
events are set and its stamp is dropped (R60). -/
def State.removeArrival (a : Arrival) (s : State) : State :=
  ((s.setQueue (s.arq.queue.erase a)).refuseArrival 0 (some a.station) a.body .station).dropStamp a.stamp

/-- The removal of every arrival of a station, in queue order (R60). -/
def State.removeArrivals (s : State) (st : Fin 16) : State :=
  forAll (s.arq.queue.filter (·.station = st)) State.removeArrival s

end Sys2Proof.Machine
end

