-- ==== Sys2Proof/Machine/Cleanup.lean ====
section
/-! DEFINITION. Taking a station out of service (R138), the loss of a body (R149), departures and seat edges (R143, R148), the
input side of the process image (8.2), and the expiry of the seat and cycle timers. -/

namespace Sys2Proof.Machine

/-! ## Station disable -/

/-- Every FAULTED robot of a station becomes IDLE (R115, R151). -/
def State.returnFaulted (s : State) (st : Fin 16) : State :=
  forAll (s.stationRobots st) (fun r s => if (s.robot r).state = .faulted then s.setRobotState r .idle else s) s

/-- The cleanup of a station that becomes DISABLED, in the order of R138; the pass is called and runs at the end of the
event's own work. -/
def State.cleanup (s : State) (st : Fin 16) : State :=
  let s1 := (s.setStation st { s.station st with enabled := false }).removeArrivals st
  let s2 := s1.abortSet (s1.entriesOf st)
  let faulted := (s2.stationRobots st).filter (fun r => (s2.robot r).state == .faulted)
  let s3 := (s2.returnFaulted st).attemptOffers faulted
  (s3.setStation st
    { s3.station st with
      bodyLost := false, seatTimer := none, cycleTimer := none, current := none, next := none }).callPass

/-! ## Departures and seat edges -/

/-- The loss of the body in the CURRENT slot (R149). -/
def State.loseBody (s : State) (st : Fin 16) (c : Slot) : State :=
  let s1 := s.stationEvent st .bodyLost none (some c.body)
  let s2 := s1.updateStation st { s1.station st with bodyLost := true, seatTimer := none, cycleTimer := none }
  (s2.abortSet (s2.entriesOfBody c.body)).promote st

/-- A departure edge (R148, R149); it is ignored at a DISABLED station (R139). -/
def State.departure (s : State) (st : Fin 16) : State :=
  if (s.station st).state = .disabled then s
  else match (s.station st).current with
    | none => s
    | some c => if c.state = .released then s.promote st else s.loseBody st c

/-- A seat edge (R143); it is ignored at a DISABLED station (R139). -/
def State.seatEdge (s : State) (st : Fin 16) : State :=
  let x := s.station st
  if x.state = .disabled then s
  else match x.current with
    | none => s.stationEvent st .clampNoBody none none
    | some c =>
      if c.state = .announced then
        s.setStation st
          { x with current := some { c with state := .seating }, seatTimer := some (x.config.seatDelay + 1) }
      else s

/-! ## Taking in STATION_INPUTS -/

/-- Whether an edge mode selects a change of level (R162). -/
def EdgeMode.selects : EdgeMode → Bool → Bool → Bool
  | .none, _, _ => false
  | .rising, old, new => !old && new
  | .falling, old, new => old && !new
  | .both, old, new => old != new

/-- The robots of a station whose list head names it, in position order (R73). -/
def State.headsNaming (s : State) (st : Fin 16) : List (Fin 64) :=
  (s.stationRobots st).filter
    (fun r => ((s.list r).head?.bind s.entry?).any (fun e => e.station == st))

/-- One station of a STATION_INPUTS: the MANUAL level, then the departure edge, then the seat edge (R161, R163, R164). -/
def State.stationInput (st : Fin 16) (input : Byte) (s : State) : State :=
  let old := s.panel st
  let config := (s.station st).config
  let s1 := s.setPanel st
    { old with present := input.getLsbD 0, clamped := input.getLsbD 1, manual := input.getLsbD 2 }
  let s2 := if old.manual && !input.getLsbD 2 then s1.attemptOffers (s1.headsNaming st) else s1
  let s3 := if config.departureEdge.selects old.present (input.getLsbD 0) then s2.departure st else s2
  if config.seatEdge.selects old.clamped (input.getLsbD 1) then s3.seatEdge st else s3

/-- A STATION_INPUTS that has passed the form checks: dropped where its source is not the line node, else handled station
by station in ascending order (R160, R163). -/
def State.stationInputs (s : State) (node : Byte) (inputs : Vector Byte 16) : State :=
  if s.mge.lineNode = 0 ∨ node ≠ s.mge.lineNode then s.deviceEvent .badTelegram {}
  else forAll allStations (fun st => State.stationInput st inputs[st]) s

/-! ## The station timers -/

/-- The expiry of a seat timer: SEATED, the cycle timer started, completion checked (R144). -/
def State.seatExpiry (s : State) (st : Fin 16) : State :=
  let x := s.station st
  if x.seatTimer = some 0 then
    (s.setStation st
      { x with
        current := x.current.map (fun c => { c with state := .seated })
        seatTimer := none
        cycleTimer := some (10 * x.config.cycleLimit + 1) }).checkCompletion st
  else s

/-- The expiry of a cycle timer: CYCLE_OVERRUN and nothing else (R145). -/
def State.cycleExpiry (s : State) (st : Fin 16) : State :=
  let x := s.station st
  if x.cycleTimer = some 0 then
    (s.setStation st { x with cycleTimer := none }).stationEvent st .cycleOverrun none (x.current.map (·.body))
  else s

end Sys2Proof.Machine
end

