-- ==== Sys2Proof/Machine/Handshake.lean ====
section
/-! DEFINITION. The telegrams of the robots and the timers of their entries (4.5 to 4.10, 6.1 to 6.3). -/

namespace Sys2Proof.Machine

/-! ## Stale telegrams (4.10) -/

/-- The drop of a stale telegram: STALE_TELEGRAM and STALE, with the robot at its source node and the body of the entry
that its tag still names (R91). -/
def State.dropStale (s : State) (node : Byte) (tag : Tag) : State :=
  let robot := s.robotAtNode? node
  let station := robot.map (fun r => (s.robot r).station)
  let body := (below? 128 tag.index).bind
    (fun i => if (s.place i).issue = tag.issue then (s.entry? i).bind (·.bodyAttr) else none)
  (s.deviceEvent .staleTelegram ⟨station, robot, body⟩).count .stale 1 ⟨station, robot, none⟩

/-- The live entry that a robot telegram names: in use at the tag's index, with its issue number, the telegram from the
node of its robot, and its state fitting the telegram (R90). -/
def State.named? (s : State) (node : Byte) (tag : Tag) (fits : EntryState → Bool) : Option (Fin 128 × Entry) :=
  match below? 128 tag.index with
  | none => none
  | some i =>
    match s.entry? i with
    | none => none
    | some e =>
      if (s.place i).issue = tag.issue ∧ (s.robot e.robot).node = node ∧ fits e.state then some (i, e) else none

/-! ## Echo and cycle start -/

/-- The handling of a failed expectation: the one re-offer where it is unused, else the end given (R76, R78). -/
def State.failOffer (s : State) (i : Fin 128) (e : Entry) (o : EntryOutcome) : State :=
  if e.reoffered then s.endEntry i o none else s.reoffer i

/-- SEL_ECHO (R75, R76): verdict 1 is ACCEPT and any other is taken as REJECT (R207). -/
def State.selEcho (s : State) (node : Byte) (tag : Tag) (program verdict : Byte) : State :=
  match s.named? node tag (· == .offered) with
  | none => s.dropStale node tag
  | some (i, e) =>
    if verdict = 1 ∧ program = e.program then
      s.setEntry i (some { e with state := .selected, selectTimer := none })
    else s.failOffer i e .rejected

/-- Whether the slot holding an entry's body at its station is SEATED (R80). -/
def State.bodySeated (s : State) (e : Entry) : Bool :=
  ((s.station e.station).slotOf? e.body).any (·.state = .seated)

/-- CYCLE_START (R80, R81). -/
def State.cycleStart (s : State) (node : Byte) (tag : Tag) : State :=
  match s.named? node tag (· == .selected) with
  | none => s.dropStale node tag
  | some (i, e) =>
    if e.kind ≠ .weld ∨ s.bodySeated e then s.setEntry i (some { e with state := .welding })
    else (s.issueToRobot e.robot (.cycleHold · (s.tag i))).stationEvent e.station .earlyStart (some e.robot)
      (some e.body)

/-! ## Weld supply -/

/-- WELD_REQ (R118, R119). -/
def State.weldReq (s : State) (node : Byte) (tag : Tag) : State :=
  match s.named? node tag (· == .welding) with
  | none => s.dropStale node tag
  | some (i, e) =>
    if e.supply ≠ .none then s.dropStale node tag
    else match s.groupOf? e with
      | none =>
        (s.setEntry i (some { e with supply := .holding })).issueToRobot e.robot (.weldGrant · (s.tag i) false)
      | some g =>
        if 0 < s.freeCredits g ∧ s.waiters g = [] then s.grant g i
        else s.setEntry i (some { e with supply := .waiting })

/-- WELD_FREE (R119, R120). -/
def State.weldFree (s : State) (node : Byte) (tag : Tag) : State :=
  match s.named? node tag (· == .welding) with
  | none => s.dropStale node tag
  | some (i, e) => if e.supply = .none then s.dropStale node tag else s.releaseSupply i []

/-! ## The weld report -/

/-- WELD_DONE (R83): the count is clamped, the credit returned, the gun wear raised, the report counted, and the entry ends
with its outcome. Status 0 is ok and any other is fault (R207). -/
def State.weldDone (s : State) (node : Byte) (tag : Tag) (count : Half) (status : Byte) : State :=
  match s.named? node tag (fun x => x == .selected || x == .welding) with
  | none => s.dropStale node tag
  | some (i, e) =>
    let d := clampReport count.toNat
    let a := s.entryAttributes e
    let s1 := if Config.maxCount < count.toNat then s.count .clampedReports 1 a else s
    let s2 := s1.releaseSupply i []
    let s3 := s2.setRobot e.robot { s2.robot e.robot with wear := addWear (s2.robot e.robot).wear d }
    let s4 := s3.count .weldsReported d a
    s4.endEntry i (reportOutcome e.kind e.expected d (status != 0)) (some d)

/-! ## The timers of entries -/

/-- The expiry of a select timer (R78). -/
def State.selectExpiry (s : State) (i : Fin 128) : State :=
  match s.entry? i with
  | none => s
  | some e =>
    if e.selectTimer = some 0 ∧ e.state = .offered then
      (s.count .expiries 1 (s.entryAttributes e)).failOffer i e .expired
    else s

/-- The expiry of a hold timer (R89, R125): the revoke, the handing-on, SUPPLY_RECLAIMED, and the end SUPPLY_HOLD. -/
def State.holdExpiry (s : State) (i : Fin 128) : State :=
  match s.entry? i with
  | none => s
  | some e =>
    if e.holdTimer = some 0 ∧ e.supply = .holding then
      let s1 := s.issueToRobot e.robot (.weldGrant · (s.tag i) true)
      let s2 := s1.releaseSupply i []
      let s3 := s2.deviceEvent .supplyReclaimed ⟨some e.station, some e.robot, e.bodyAttr⟩
      s3.endEntry i .supplyHold none
    else s

end Sys2Proof.Machine
end

