-- ==== Sys2Proof/Machine/Queries.lean ====
section
/-! DEFINITION. What QUERY returns (R43, R62, R93, R113, R132, R159, R175, R200), each item in the order its rule names it
and in the width R209 gives it (log entry 12). A `none` is the refusal that the docstring names. -/

namespace Sys2Proof.Machine

/-- The blocking reason set in two bytes, with BODY_LOST in bit 8 (R209). -/
def reasonBytes (x : ReasonSet) (bodyLost : Bool) : List Byte :=
  u16 (bitNumber x.rejected 1 + bitNumber x.expired 2 + bitNumber x.robotFault 4 + bitNumber x.supplyHold 8
    + bitNumber x.wearLimit 16 + bitNumber x.short 32 + bitNumber x.bypassed 64 + bitNumber x.noStyle 128
    + bitNumber bodyLost 256)

/-- A station's configuration in the layout of CONFIG_STATION (R208). -/
def configBytes (c : StationConfig) : List Byte :=
  [shiftKindCode c.shiftKind] ++ u8 c.shiftCount ++ wordBytes c.mask ++ u16 c.seatDelay ++ u16 c.cycleLimit
    ++ u16 c.selectTimeout ++ [policyCode c.noStyle, policyCode c.short, edgeModeCode c.seatEdge,
      edgeModeCode c.departureEdge]

/-- The state and body ID of a slot, 0 where it is EMPTY (R140). -/
def slotHead (x : Option Slot) : List Byte :=
  match x with
  | none => u8 0 ++ u32 0
  | some c => [slotStateCode c.state] ++ wordBytes c.body

/-- An output bit: its computed value, source, force value, protect flag and effective value (R175). -/
def State.bitBytes (s : State) (st : Fin 16) (b : Fin 4) : List Byte :=
  let x := (s.panel st).bits[b]
  flagByte (s.computedBit st b) ++ flagByte x.forced ++ flagByte x.value ++ flagByte x.protect
    ++ flagByte (s.effectiveBit st b)

/-- QUERY of a station (R159, R175). -/
def State.queryStation (s : State) (st : Fin 16) : List Byte :=
  let x := s.station st
  let p := s.panel st
  configBytes x.config ++ [stationStateCode x.state]
    ++ reasonBytes ((x.current.map (·.reasons)).getD {}) x.bodyLost
    ++ flagByte x.seatTimer.isSome ++ flagByte x.cycleTimer.isSome ++ flagByte p.manual
    ++ slotHead x.current ++ slotHead x.next
    ++ flagByte p.present ++ flagByte p.clamped ++ flagByte p.manual
    ++ (List.finRange 4).flatMap (s.bitBytes st) ++ [s.piu.reported[st]]

/-- A position: NONE as program 0 with its other fields 0 (R209). -/
def positionBytes : Option Position → List Byte
  | none => u8 0 ++ u16 0 ++ u8 0 ++ optional u16 (u16 0) none ++ u16 0
  | some x =>
    [x.program] ++ u16 x.expected ++ [positionOutcomeCode x.outcome] ++ optional u16 (u16 0) x.reported
      ++ u16 x.shortfall

/-- QUERY of a slot (R140, R159). -/
def querySlotBytes : Option Slot → List Byte
  | none =>
    u8 0 ++ u32 0 ++ u32 0 ++ u8 0 ++ u8 0 ++ u16 0 ++ u8 0
      ++ (List.replicate 8 (none : Option Position)).flatMap positionBytes
  | some x =>
    [slotStateCode x.state] ++ wordBytes x.body ++ wordBytes x.build ++ styleByte x.style ++ [bankCode x.stamp]
      ++ reasonBytes x.reasons false ++ flagByte x.abortMark ++ x.positions.toList.flatMap positionBytes

/-- QUERY of an entry: an in-use flag, then for an index in use the fields of R63 with the present tag, and for a free
index the issue number (R93). -/
def State.queryEntry (s : State) (i : Fin 128) : List Byte :=
  match s.entry? i with
  | none => flagByte false ++ [(s.place i).issue]
  | some e =>
    flagByte true ++ tagBytes (s.tag i) ++ [kindCode e.kind] ++ u8 e.robot ++ u8 e.station ++ wordBytes e.body
      ++ u8 e.position ++ [e.program] ++ u16 e.expected ++ [entryStateCode e.state] ++ flagByte e.reoffered
      ++ flagByte e.selectTimer.isSome ++ [supplyStateCode e.supply]

/-- A last maintenance outcome: the outcome, then the program and the count, each behind its presence byte; a NONE record has
neither (R97, R111, R113, R209, log entry 12). -/
def maintBytes : Option MaintRecord → List Byte
  | none => u8 0 ++ optional (fun p => [p]) (u8 0) none ++ optional u16 (u16 0) none
  | some m => [maintOutcomeCode m.outcome] ++ optional (fun p => [p]) (u8 0) (some m.program) ++ optional u16 (u16 0) m.count

/-- QUERY of a robot (R113). -/
def State.queryRobot (s : State) (r : Fin 64) : List Byte :=
  let x := s.robot r
  flagByte x.configured ++ [x.node] ++ u8 x.station ++ u8 x.position ++ u8 x.group ++ [x.dress] ++ u16 x.interval
    ++ u16 x.limit ++ [robotStateCode x.state] ++ u16 x.wear ++ maintBytes x.maint
    ++ listBytes (fun i => u8 (i : Fin 128)) (s.list r)

/-- The members of a group, in member order (R117). -/
def State.members (s : State) (g : Fin 8) : List (Fin 64) :=
  allRobots.filter (fun r => (s.robot r).configured && groupPlace? (s.robot r).group == some g)

/-- A holder or waiter: its robot number and its index (R132). -/
def State.standingBytes (s : State) (i : Fin 128) : List Byte := u8 (s.robotNumber i) ++ u8 i

/-- QUERY of a group (R132). -/
def State.queryGroup (s : State) (g : Fin 8) : List Byte :=
  let x := s.group g
  u8 x.capacity ++ u16 x.holdLimit ++ u8 (s.freeCredits g) ++ filterByte x.pointer
    ++ listBytes (fun r => u8 (r : Fin 64)) (s.members g)
    ++ listBytes s.standingBytes (s.byRobot (s.holders g)) ++ listBytes s.standingBytes (s.byRobot (s.waiters g))

/-- QUERY of a style entry (R43). -/
def stylePlaceBytes (x : StylePlace) : List Byte :=
  flagByte x.valid ++ wordBytes x.value ++ wordBytes x.care ++ u8 x.style ++ u16 x.stations.toNat

/-- QUERY of a program record (R43). -/
def recordBytes (x : ProgramRecord) : List Byte :=
  [x.program] ++ u16 x.expected
    ++ optional (fun o => [shiftKindCode o.kind] ++ u8 o.count ++ [o.mask]) [0, 0, 0] x.overlay
    ++ listBytes (fun a => u8 a.bit ++ [BitVec.ofInt 8 a.delta]) x.adders

/-- A bank in a QUERY of the banks: role, valid entries, records and stamps (R43). -/
def State.bankBytes (s : State) (id : BankId) : List Byte :=
  [roleCode (s.tbs.role id)] ++ u8 (s.bank id).validEntries ++ u16 (s.bank id).recordCount ++ u8 (s.bank id).stamps

/-- An arrival in a QUERY of the queue (R62). -/
def arrivalBytes (a : Arrival) : List Byte :=
  u8 a.station ++ wordBytes a.body ++ wordBytes a.build ++ [bankCode a.stamp] ++ u8 a.skips ++ flagByte a.starved

/-- QUERY of the device (R200). -/
def State.queryDevice (s : State) : List Byte :=
  [s.lif.node?.getD 0] ++ u16 s.lif.typeValue.toNat ++ [s.mge.lineNode, s.mge.reportNode] ++ u8 s.mge.queue.length
    ++ flagByte s.mge.job.isSome ++ flagByte s.lif.p1.up ++ flagByte s.lif.p2.up

/-- An answer that a QUERY gives where its selector is in range, and RANGE otherwise. -/
def orRange {α : Type} (x : Option α) (f : α → List Byte) : Result × List Byte :=
  match x with
  | none => (.range, [])
  | some a => (.ok, f a)

/-- The slot that a QUERY of a slot names: 0 CURRENT, 1 NEXT (R159). -/
def State.slotNamed? (s : State) (st slot : Byte) : Option (Option Slot) :=
  (below? 16 st).bind (fun st =>
    if slot = 0 then some (s.station st).current else if slot = 1 then some (s.station st).next else none)

/-- The place that a group number 1..8 names (R127, R132). -/
def groupNamed? (g : Byte) : Option (Fin 8) := (below? 9 g).bind groupPlace?

/-- The result and response payload of a QUERY (R200). -/
def State.answerQuery (s : State) : Query → Result × List Byte
  | .station st => orRange (below? 16 st) s.queryStation
  | .slot st sl => orRange (s.slotNamed? st sl) querySlotBytes
  | .entry i => orRange (below? 128 i) s.queryEntry
  | .robot r => orRange (below? 64 r) s.queryRobot
  | .group g => orRange (groupNamed? g) s.queryGroup
  | .styleEntry b i =>
    match bank? b, below? 128 i with
    | some id, some i => (.ok, stylePlaceBytes (s.bank id).styles[i])
    | _, _ => (.range, [])
  | .programRecord b st p sy =>
    match bank? b, below? 16 st, below? 8 p, below? 64 sy with
    | some id, some st, some p, some sy =>
      match (s.bank id).record? (programKey st p sy) with
      | none => (.notFound, [])
      | some x => (.ok, recordBytes x)
    | _, _, _, _ => (.range, [])
  | .banks => (.ok, s.bankBytes .a ++ s.bankBytes .b)
  | .queue => (.ok, listBytes arrivalBytes s.arq.queue)
  | .device => (.ok, s.queryDevice)

end Sys2Proof.Machine
end

