-- ==== Sys2Proof/Machine/Resolve.lean ====
section
/-! DEFINITION. RESOLVE (7.7): what each action does to the CURRENT slot, and the steps around it (R151). -/

namespace Sys2Proof.Machine

/-- What an action gives: the state, the reasons that its own writes enter afresh at the third step of R151, and the robots
that its abort calls offers for. -/
structure ActionResult where
  state   : State
  reasons : ReasonSet := {}
  called  : List (Fin 64) := []

/-- The recomputation of a retry for a blocking position: its new work in the slot's bank, with its serving robot; NONE
where it has no work (R15, R152). -/
def State.replan (s : State) (st : Fin 16) (x : Slot) (p : Fin 8) : Option Plan :=
  (x.style.bind (fun sy => (s.bank x.stamp).work? st p sy x.build)).map (fun w => ⟨p, w, s.servingRobot? st p⟩)

/-- Whether a retry of these plans has no room: too few free entries, or a list that would hold more than 3 (R152). -/
def State.retryFull (s : State) (plans : List Plan) : Bool :=
  decide (s.freeEntries < (servingRobots plans).length)
    || (servingRobots plans).any (fun r => decide (Config.maxList < (s.list r).length + 1))

/-- Creates the retry entries of plans, in position order, at the heads of their robots' lists (R68, R152). -/
def State.insertPlans (s : State) (st : Fin 16) (body : Word) (plans : List Plan) : State :=
  forAll plans (fun x s => x.robot.elim s (fun r => s.insertHead (weldEntry st body x r))) s

/-- RETRY of a slot that holds a style: each blocking position is recomputed and rewritten (R152). `none` is FULL. -/
def State.retryStyle (s : State) (st : Fin 16) (x : Slot) : Option ActionResult :=
  let plans := x.blockingPositions.filterMap (s.replan st x)
  if s.retryFull plans then none
  else
    let emptied := x.blockingPositions.foldl (fun v p => v.set p none) x.positions
    let y := s.station st
    let s1 := s.setStation st { y with current := some { x with positions := writePlans emptied plans } }
    some ⟨s1.insertPlans st x.body plans, ({} : ReasonSet).enterPlans y.config.short plans, []⟩

/-- RETRY of a NO_STYLE slot: a full resolution against the ACTIVE bank, whose stamp the slot takes (R16, R153). `none` is
FULL. -/
def State.retryNoStyle (s : State) (st : Fin 16) (x : Slot) : Option ActionResult :=
  let y := s.station st
  let id := s.tbs.active
  let res := resolve y.config (s.bank id) st x.build
  let plans := s.plans st res.works
  if s.retryFull plans then none
  else
    let x' : Slot :=
      { x with
        style := res.style, stamp := id
        positions := if res.style.isNone then x.positions else writePlans (Vector.replicate 8 none) plans }
    let again := if res.style.isNone ∧ y.config.noStyle = .hold then ({} : ReasonSet).enter .noStyle else {}
    some ⟨(s.setStation st { y with current := some x' }).insertPlans st x.body plans,
      again.enterPlans y.config.short plans, []⟩

/-- RETRY (R152, R153); a station held on BODY_LOST alone has nothing to retry. `none` is FULL. -/
def State.retry (s : State) (st : Fin 16) : Option ActionResult :=
  match (s.station st).current with
  | none => some ⟨s, {}, []⟩
  | some x =>
    if x.reasons.isEmpty then some ⟨s, {}, []⟩
    else if x.style.isNone then s.retryNoStyle st x
    else s.retryStyle st x

/-- ACCEPT: each blocking position becomes ACCEPTED and keeps its other fields (R154). -/
def State.accept (s : State) (st : Fin 16) : ActionResult :=
  let y := s.station st
  let mark (x : Slot) : Slot :=
    { x with
      positions := x.blockingPositions.foldl
        (fun v (p : Fin 8) => v.set p ((v[p]).map (fun z => { z with outcome := .accepted }))) x.positions }
  ⟨s.setStation st { y with current := y.current.map mark }, {}, []⟩

/-- ABORT: where the CURRENT slot's own set holds a reason, the abort mark is set and the body's entries are aborted
(R155). The offers that the abort calls for wait until the completion check has been made (R69, R146, log entry 24). -/
def State.abort (s : State) (st : Fin 16) : ActionResult :=
  let y := s.station st
  match y.current with
  | none => ⟨s, {}, []⟩
  | some x =>
    if x.reasons.isEmpty then ⟨s, {}, []⟩
    else
      let s1 := s.setStation st { y with current := some { x with abortMark := true } }
      let s2 := s1.endSet (s1.entriesOfBody x.body)
      ⟨s2, {}, s2.calledRobots s1⟩

/-- The action of a RESOLVE; `none` is FULL. -/
def State.act (s : State) (st : Fin 16) : Action → Option ActionResult
  | .retry => s.retry st
  | .accept => some (s.accept st)
  | .abort => some (s.abort st)

/-- The second to sixth steps of R151, after an action; the pass is called and runs ahead of the response. The offers that an
abort called for are attempted between the fourth step and the fifth (log entry 24). -/
def State.afterAction (x : ActionResult) (st : Fin 16) : State :=
  let s := x.state
  let y := s.station st
  let s2 := s.setStation st { y with bodyLost := false, current := y.current.map (fun c => { c with reasons := {} }) }
  let z := s2.station st
  let s3 := s2.updateStation st { z with current := z.current.map (fun c => { c with reasons := x.reasons }) }
  let s4 := ((s3.checkCompletion st).attemptOffers x.called).returnFaulted st
  (s4.attemptOffers (s4.stationRobots st)).callPass

/-- RESOLVE (R151). -/
def State.resolveStation (s : State) (station action : Byte) : State × Result :=
  match below? 16 station, action? action with
  | some st, some a =>
    if (s.station st).state = .held then
      match s.act st a with
      | none => (s, .full)
      | some x => (State.afterAction x st, .ok)
    else (s, .state)
  | _, _ => (s, .range)

end Sys2Proof.Machine
end

