-- ==== Sys2Proof/Machine/Management.lean ====
section
/-! DEFINITION. The management requests of the chapters' blocks, the management queue (10.4) and DEVICE_RESET (10.6). A
request's operation answers the new state, the result and the response payload; the requests that give no payload answer a
state and a result. -/

namespace Sys2Proof.Machine

/-! ## Configuration -/

/-- CONFIG_LINE (R172, R196): both nodes are written at once and the present image goes to the new line node; what else the
event sends, for the requests executed behind it, goes to the nodes that the event began with (log entry 23). -/
def State.configLine (s : State) (line report : Byte) : State × Result :=
  if line = Config.broadcast ∨ report = Config.broadcast ∨ some line = s.lif.node? ∨ some report = s.lif.node? then
    (s, .range)
  else
    let s1 : State :=
      { s with
        mge := { s.mge with lineNode := line, reportNode := report }, formerNodes := some (s.lineInUse, s.reportInUse) }
    (if line = 0 then s1 else (s1.issue (.stationOutputs line s1.image)).imageReported, .ok)

/-- The configuration that CONFIG_STATION writes, where every field is in range (R134). -/
def stationConfig? (f : StationFields) : Option StationConfig :=
  match shiftKind? f.shiftKind, policy? f.noStyle, policy? f.short, edgeMode? f.seatEdge, edgeMode? f.departureEdge with
  | some k, some n, some sh, some se, some de =>
    if f.shiftCount.toNat ≤ 31 ∧ f.seatDelay.toNat ≤ 10000 ∧ f.cycleLimit ≠ 0 ∧ 10 ≤ f.selectTimeout.toNat
        ∧ f.selectTimeout.toNat ≤ 5000 then
      some ⟨k, f.shiftCount.toNat, f.mask, f.seatDelay.toNat, f.cycleLimit.toNat, f.selectTimeout.toNat, n, sh, se, de⟩
    else none
  | _, _, _, _, _ => none

/-- CONFIG_STATION (R134). -/
def State.configStation (s : State) (f : StationFields) : State × Result :=
  match below? 16 f.station, stationConfig? f with
  | some st, some c =>
    if (s.station st).enabled then (s, .state) else (s.setStation st { s.station st with config := c }, .ok)
  | _, _ => (s, .range)

/-- CONFIG_ROBOT (R95). -/
def State.configRobot (s : State) (f : RobotFields) : State × Result :=
  match below? 64 f.robot, below? 16 f.station, below? 8 f.position, below? 9 f.group with
  | some r, some st, some p, some g =>
    if f.node = 0 ∨ f.node = Config.broadcast ∨ some f.node = s.lif.node? ∨ f.dress = 0 ∨ f.interval = 0
        ∨ 60000 < f.interval.toNat ∨ f.limit.toNat < f.interval.toNat then (s, .range)
    else if (s.robot r).enabled then (s, .state)
    else
      (s.setRobot r
        { s.robot r with
          configured := true, node := f.node, station := st, position := p, group := g, dress := f.dress
          interval := f.interval.toNat, limit := f.limit.toNat }, .ok)
  | _, _, _, _ => (s, .range)

/-- CONFIG_GROUP (R127). -/
def State.configGroup (s : State) (group capacity : Byte) (holdLimit : Half) : State × Result :=
  match groupNamed? group with
  | none => (s, .range)
  | some g =>
    if capacity = 0 ∨ 4 < capacity.toNat ∨ holdLimit.toNat < 100 then (s, .range)
    else if s.holders g ≠ [] ∨ s.waiters g ≠ [] then (s, .state)
    else (s.setGroup g { s.group g with capacity := capacity.toNat, holdLimit := holdLimit.toNat }, .ok)

/-! ## Tables -/

/-- STYLE_WRITE (R30, R31). -/
def State.styleWrite (s : State) (f : StyleFields) : State × Result :=
  match styleWrite? f with
  | none => (s, .range)
  | some (i, p) =>
    match s.tbs.shadow? with
    | none => (s, .draining)
    | some id => (s.setBank id ((s.bank id).setStyle i p), .ok)

/-- STYLE_ERASE (R30, R32). -/
def State.styleErase (s : State) (index : Byte) : State × Result :=
  match below? 128 index with
  | none => (s, .range)
  | some i =>
    match s.tbs.shadow? with
    | none => (s, .draining)
    | some id =>
      if ((s.bank id).styles[i]).valid then (s.setBank id ((s.bank id).setStyle i {}), .ok) else (s, .notFound)

/-- PROGRAM_WRITE (R30, R34, R35). -/
def State.programWrite (s : State) (f : ProgramFields) : State × Result :=
  match programWrite? f with
  | none => (s, .range)
  | some (k, x) =>
    match s.tbs.shadow? with
    | none => (s, .draining)
    | some id =>
      let b := s.bank id
      if (b.record? k).isNone ∧ Config.maxRecords ≤ b.recordCount then (s, .full)
      else (s.setBank id { b with programs := insertRecord k x b.programs }, .ok)

/-- PROGRAM_ERASE (R30, R36). -/
def State.programErase (s : State) (station position style : Byte) : State × Result :=
  match below? 16 station, below? 8 position, below? 64 style with
  | some st, some p, some sy =>
    match s.tbs.shadow? with
    | none => (s, .draining)
    | some id =>
      let b := s.bank id
      if (b.record? (programKey st p sy)).isNone then (s, .notFound)
      else (s.setBank id { b with programs := eraseRecord (programKey st p sy) b.programs }, .ok)
  | _, _, _ => (s, .range)

/-- TABLE_COMMIT answers the bank now ACTIVE and the drain flag (R41). -/
def State.tableCommit (s : State) : State × Result × List Byte :=
  if s.tbs.draining then (s, .draining, [])
  else (s.commit, .ok, [bankCode s.tbs.active.other] ++ flagByte (decide (0 < (s.bank s.tbs.active).stamps)))

/-! ## Stations and robots -/

/-- STATION_ENABLE (R137). -/
def State.stationEnable (s : State) (station : Byte) : State × Result :=
  match below? 16 station with
  | none => (s, .range)
  | some st =>
    if (s.station st).enabled then (s, .state)
    else
      ((s.setStation st
        { s.station st with
          enabled := true, bodyLost := false, seatTimer := none, cycleTimer := none, current := none
          next := none }).callPass, .ok)

/-- STATION_DISABLE (R138). -/
def State.stationDisable (s : State) (station : Byte) : State × Result :=
  match below? 16 station with
  | none => (s, .range)
  | some st => if (s.station st).enabled then (s.cleanup st, .ok) else (s, .ok)

/-- Whether another enabled robot holds a robot's station and position, or its node (R101). -/
def State.clashes (s : State) (r : Fin 64) : Bool :=
  let x := s.robot r
  allRobots.any (fun q =>
    q != r && (s.robot q).enabled
      && (((s.robot q).station == x.station && (s.robot q).position == x.position) || (s.robot q).node == x.node))

/-- ROBOT_ENABLE (R101). -/
def State.robotEnable (s : State) (robot : Byte) : State × Result :=
  match below? 64 robot with
  | none => (s, .range)
  | some r =>
    if ¬ (s.robot r).configured ∨ (s.robot r).enabled ∨ s.clashes r then (s, .state)
    else (s.setRobotState r .idle, .ok)

/-- Ends or removes one entry of a robot that is disabled: a WELD entry ends BYPASSED, a DRESS or MAINT entry is removed
without an outcome (R88). -/
def State.bypassEntry (i : Fin 128) (s : State) : State :=
  match s.entry? i with
  | none => s
  | some e => if e.kind = .weld then s.endCore i .bypassed none [] else s.free i e.robot

/-- ROBOT_DISABLE (R88, R102). -/
def State.robotDisable (s : State) (robot : Byte) : State × Result :=
  match below? 64 robot with
  | none => (s, .range)
  | some r =>
    match (s.robot r).state with
    | .disabled => (s, .ok)
    | .busy => (s, .state)
    | .idle | .faulted => ((forAll (s.list r) State.bypassEntry s).setRobotState r .disabled, .ok)

/-- FORCE_PROGRAM answers the entry's index (R109). -/
def State.forceProgram (s : State) (robot program : Byte) : State × Result × List Byte :=
  match below? 64 robot with
  | none => (s, .range, [])
  | some r =>
    if program = 0 then (s, .range, [])
    else if (s.robot r).state ≠ .idle ∨ s.list r ≠ [] then (s, .collision, [])
    else
      match s.lowestFree? with
      | none => (s, .full, [])
      | some i =>
        let x := s.robot r
        let e : Entry :=
          { kind := .maint, robot := r, station := x.station, body := 0, position := x.position, program := program
            expected := 0 }
        ((s.append e).attemptOffer r, .ok, u8 i)

/-- WEAR_SET (R108). -/
def State.wearSet (s : State) (robot : Byte) (value : Half) : State × Result :=
  match below? 64 robot with
  | none => (s, .range)
  | some r => (s.setRobot r { s.robot r with wear := value.toNat }, .ok)

/-! ## Output bits -/

/-- Writes an output bit's record. -/
def State.setBit (s : State) (st : Fin 16) (b : Fin 4) (x : OutputBit) : State :=
  s.setPanel st { s.panel st with bits := (s.panel st).bits.set b x }

/-- OUTPUT_FORCE (R168). -/
def State.outputForce (s : State) (station bit value : Byte) : State × Result :=
  match below? 16 station, below? 4 bit, flag? value with
  | some st, some b, some v =>
    let x := (s.panel st).bits[b]
    if x.protect then (s, .protectedBit) else (s.setBit st b { x with forced := true, value := v }, .ok)
  | _, _, _ => (s, .range)

/-- OUTPUT_RELEASE (R169). -/
def State.outputRelease (s : State) (station bit : Byte) : State × Result :=
  match below? 16 station, below? 4 bit with
  | some st, some b => (s.setBit st b { (s.panel st).bits[b] with forced := false, value := false }, .ok)
  | _, _ => (s, .range)

/-- OUTPUT_UNPROTECT (R170). -/
def State.outputUnprotect (s : State) (station bit : Byte) : State × Result :=
  match below? 16 station, below? 4 bit with
  | some st, some b => (s.setBit st b { (s.panel st).bits[b] with protect := false }, .ok)
  | _, _ => (s, .range)

/-! ## Events and counters -/

/-- The items with their group instances, where each names a station below 16 or the device group (R180, R181). -/
def readItems (items : List (Byte × Byte)) : Option (List (Option (Fin 16) × Byte)) :=
  items.mapM (fun p => (groupInstance? p.1).map (·, p.2))

/-- Clears the statuses of one EVENT_ACK item, with their captures; masks are kept (R180). -/
def State.ackItem (item : Option (Fin 16) × Byte) (s : State) : State :=
  forAll allPositions
    (fun n s =>
      if item.2.getLsbD n then
        match item.1 with
        | some st => s.setStationStatus st n { s.stationStatus st n with set := false, capture := {} }
        | none => s.setDeviceStatus n { s.deviceStatus n with set := false, capture := {} }
      else s) s

/-- A group instance's statuses as a byte, then its masks (R209). -/
def statusBytes (v : Vector Status 8) : List Byte := [flagsByte (fun n => (v[n]).set), flagsByte (fun n => (v[n]).mask)]

/-- The statuses and masks of all group instances: stations 0..15, then the device group (R180, R209). -/
def State.allStatusBytes (s : State) : List Byte := s.emu.stations.toList.flatMap statusBytes ++ statusBytes s.emu.device

/-- EVENT_ACK (R180). -/
def State.eventAck (s : State) (items : List (Byte × Byte)) : State × Result × List Byte :=
  match readItems items with
  | none => (s, .range, [])
  | some l =>
    let s' := forAll l State.ackItem s
    (s', .ok, s'.allStatusBytes)

/-- Applies one EVENT_MASK item in event number order: a mask that goes from set to clear while its status is set reports
(R178, R181). -/
def State.maskItem (item : Option (Fin 16) × Byte) (s : State) : State :=
  forAll allPositions
    (fun n s =>
      let m := item.2.getLsbD n
      match item.1 with
      | some st =>
        let x := s.stationStatus st n
        let s' := s.setStationStatus st n { x with mask := m }
        if x.mask && !m && x.set then s'.report false n x.capture else s'
      | none =>
        let x := s.deviceStatus n
        let s' := s.setDeviceStatus n { x with mask := m }
        if x.mask && !m && x.set then s'.report true n x.capture else s') s

/-- EVENT_MASK (R181). -/
def State.eventMask (s : State) (items : List (Byte × Byte)) : State × Result :=
  match readItems items with
  | none => (s, .range)
  | some l => (forAll l State.maskItem s, .ok)

/-- Whether a mode is allowed for an event select: COUNT with the count events, the others with the level events, any with
NONE (R188). -/
def modeFits (e : CounterEvent) (m : CounterMode) : Bool := e == .none || (e.isLevel == (m != .count))

/-- The configuration that COUNTER_SET writes, where every field is in range (R188, R208). -/
def counterConfig? (f : CounterFields) : Option CounterConfig :=
  match counterEvent? f.event, filter? 16 f.station, filter? 64 f.robot, filter? 64 f.style, counterMode? f.mode,
      flag? f.invert, flag? f.freezeEnable, flag? f.triggerPresent with
  | some e, some st, some r, some sy, some m, some inv, some fe, some tp =>
    if modeFits e m ∧ ¬ (tp ∧ f.trigger = 0) then
      some ⟨e, st, r, sy, m, f.threshold.toNat, inv, fe, if tp then some f.trigger else none⟩
    else none
  | _, _, _, _, _, _, _, _ => none

/-- COUNTER_SET (R188). -/
def State.counterSet (s : State) (f : CounterFields) : State × Result :=
  match below? 8 f.counter, counterConfig? f with
  | some k, some c => (s.setCounter k ⟨f.value, c, false⟩, .ok)
  | _, _ => (s, .range)

/-- A counter's configuration in the layout of COUNTER_SET (R208, R209). -/
def counterConfigBytes (c : CounterConfig) : List Byte :=
  [counterEventCode c.event] ++ filterByte c.station ++ filterByte c.robot ++ filterByte c.style
    ++ [counterModeCode c.mode] ++ u16 c.threshold ++ flagByte c.invert ++ flagByte c.freezeEnable
    ++ optional (fun t => u48 (t : Long).toNat) (u48 0) c.trigger

/-- COUNTER_READ (R189). -/
def State.counterRead (s : State) (counter : Byte) : Result × List Byte :=
  if counter = 255 then
    (.ok, s.emu.counters.toList.flatMap (fun x => u48 x.value.toNat) ++ flagByte s.emu.freeze)
  else orRange (below? 8 counter)
    (fun k => u48 (s.counter k).value.toNat ++ counterConfigBytes (s.counter k).config ++ flagByte s.emu.freeze)

/-- COUNTER_FREEZE and COUNTER_UNFREEZE write the freeze flag (R186). -/
def State.setFreeze (s : State) (b : Bool) : State := { s with emu := { s.emu with freeze := b } }

/-! ## DEVICE_RESET -/

/-- Step 1 of R201: DISPATCH_CANCEL for every entry beyond QUEUED in index order, and every entry freed; issue numbers are
kept (R92). -/
def State.resetTracker (s : State) : State :=
  let s' := forAll allIndices
    (fun i s =>
      match s.entry? i with
      | none => s
      | some e => if e.beyondQueued then s.issueToRobot e.robot (.dispatchCancel · (s.tag i)) else s) s
  { s' with
    dtr := { tracker := mapAll (fun p => { p with entry := none }) s'.dtr.tracker, lists := Vector.replicate 64 [] } }

/-- Steps 2 to 8 of R201, each block's records as its rule leaves them; the reported image is kept (R174). -/
def State.resetRecords (s : State) : State :=
  { s with
    spa := { s.spa with groups := mapAll (fun g => { g with pointer := none }) s.spa.groups }
    rbc := { s.rbc with robots := mapAll (fun r => { r with state := .disabled }) s.rbc.robots }
    stc := { s.stc with stations := mapAll (fun x => { config := x.config }) s.stc.stations }
    arq := { queue := [] }
    tbs := { s.tbs with
      bankA := { s.tbs.bankA with stamps := 0 }, bankB := { s.tbs.bankB with stamps := 0 }, draining := false }
    piu := { s.piu with panels := Vector.replicate 16 {} } }

/-- Step 8 of R201 at EMU: statuses, captures, counter values, last conditions and the freeze flag cleared; masks and
configurations kept (R182, R190). -/
def State.resetEvents (s : State) : State :=
  { s with
    emu := {
      stations := mapAll (mapAll (fun x => { mask := x.mask })) s.emu.stations
      device := mapAll (fun x => { mask := x.mask }) s.emu.device
      counters := mapAll (fun c => { config := c.config }) s.emu.counters
      freeze := false } }

/-- The response payload of DEVICE_RESET: the entries that were in use, and the arrivals dropped with their stations and
body IDs (R201). -/
def State.resetPayload (s : State) : List Byte :=
  u8 (128 - s.freeEntries) ++ listBytes (fun a => u8 a.station ++ wordBytes a.body) s.arq.queue

/-- DEVICE_RESET up to its response (R201). The point of R171 stands at step 7, ahead of EMU's. -/
def State.deviceReset (s : State) : State :=
  (s.resetTracker.resetRecords.comparePoint).resetEvents

/-! ## The management queue -/

/-- A request's state, result and response payload. -/
abbrev Answer := State × Result × List Byte

/-- An answer without a response payload. -/
def bare (x : State × Result) : Answer := (x.1, x.2, [])

/-- The execution of a request at the head of the queue, but for a copy or clear that begins (R198, R199). -/
def State.run (s : State) : Request → Answer
  | .configLine l r => bare (s.configLine l r)
  | .configStation f => bare (s.configStation f)
  | .configRobot f => bare (s.configRobot f)
  | .configGroup g c h => bare (s.configGroup g c h)
  | .styleWrite f => bare (s.styleWrite f)
  | .styleErase i => bare (s.styleErase i)
  | .programWrite f => bare (s.programWrite f)
  | .programErase st p sy => bare (s.programErase st p sy)
  | .tableCopy | .tableClear => bare (s, .draining)
  | .tableCommit => s.tableCommit
  | .stationEnable st => bare (s.stationEnable st)
  | .stationDisable st => bare (s.stationDisable st)
  | .robotEnable r => bare (s.robotEnable r)
  | .robotDisable r => bare (s.robotDisable r)
  | .resolve st a => bare (s.resolveStation st a)
  | .forceProgram r p => s.forceProgram r p
  | .wearSet r v => bare (s.wearSet r v)
  | .outputForce st b v => bare (s.outputForce st b v)
  | .outputRelease st b => bare (s.outputRelease st b)
  | .outputUnprotect st b => bare (s.outputUnprotect st b)
  | .eventAck items => s.eventAck items
  | .eventMask items => bare (s.eventMask items)
  | .counterSet f => bare (s.counterSet f)
  | .counterRead c => (s, s.counterRead c)
  | .counterFreeze => bare (s.setFreeze true, .ok)
  | .counterUnfreeze => bare (s.setFreeze false, .ok)
  | .query q => (s, s.answerQuery q)
  | .deviceReset => (s.deviceReset, .ok, s.resetPayload)
  | .bad _ => bare (s, .badRequest)

/-- The copy or clear that a request begins, where no bank is DRAINING (R37, R38). -/
def State.jobOf? (s : State) : Request → Option TableJob
  | .tableCopy => if s.tbs.draining then none else some ⟨false, Config.copyTicks⟩
  | .tableClear => if s.tbs.draining then none else some ⟨true, Config.clearTicks⟩
  | _ => none

/-- Writes the management queue. -/
def State.setRequests (s : State) (q : List MgmtEntry) : State := { s with mge := { s.mge with queue := q } }

/-- Sends MGMT_RESPONSE to the source of a request; a response other than OK has an empty payload (R198, R208). -/
def State.respond (s : State) (m : MgmtEntry) (result : Result) (payload : List Byte) : State :=
  s.issue (.mgmtResponse m.sender.node m.sender.seq (requestCode m.request) result
    (if result = .ok then payload else []))

/-- The completion of a request at the head: the pass that it called for, the point of R171, its response, and its leaving
the queue, which becomes `rest` (R198). -/
def State.complete (s : State) (m : MgmtEntry) (a : Result × List Byte) (rest : List MgmtEntry) : State :=
  ((s.runPass.comparePoint).respond m a.1 a.2).setRequests rest

/-- The requests executed from the head, one after another, until the queue is empty or a copy or clear begins; a
DEVICE_RESET drops those behind it (R198, R201). The first argument bounds their number. -/
def State.drain : Nat → State → State
  | 0, s => s
  | n + 1, s =>
    match s.mge.queue with
    | [] => s
    | m :: rest =>
      match s.jobOf? m.request with
      | some job => { s with mge := { s.mge with job := some job } }
      | none =>
        let a := s.run m.request
        (a.1.complete m a.2 (if m.request = .deviceReset then [] else rest)).drain n

/-- A request handed to the MGE: taken into the queue and executed where it is at the head at once, or answered BUSY where
the queue holds four (R197). -/
def State.take (s : State) (sender : Sender) (request : Request) : State :=
  let m : MgmtEntry := ⟨sender, request⟩
  if Config.maxRequests ≤ s.mge.queue.length then (s.comparePoint.respond m .busy []).deviceEvent .mgmtBusy {}
  else
    let s' := s.setRequests (s.mge.queue ++ [m])
    if s.mge.queue = [] then s'.drain 1 else s'

/-- The end of a copy or clear (R37, R38): the SHADOW bank's new contents, the response, and the requests behind it. -/
def State.tableEnd (s : State) (clear : Bool) : State :=
  if s.mge.job = some ⟨clear, 0⟩ then
    let shadow := s.tbs.active.other
    let source := s.bank s.tbs.active
    let x := if clear then (s.bank shadow).cleared else (s.bank shadow).copyFrom source
    let s1 : State := s.setBank shadow x
    let s2 : State := { s1 with mge := { s1.mge with job := none } }
    let payload := if clear then [] else u8 x.validEntries ++ u16 x.recordCount
    match s2.mge.queue with
    | [] => s2
    | m :: rest => (s2.complete m (.ok, payload) rest).drain rest.length
  else s

end Sys2Proof.Machine
end

