-- ==== Sys2Proof/Machine/Link.lean ====
section
/-! DEFINITION. The Link Interface (10.1, 10.2): the ports' transmitters and stores, the ownership watch (R157, R158), the
form checks, and the handing of a telegram to the block that acts on its kind. -/

namespace Sys2Proof

/-! ## The header (R204)

In a frame that ends inside its header the bytes it does not have read as 0 (log entry 25): without a destination byte it is
not for the part. -/

/-- The kind byte of a telegram. -/
def Frame.kind (f : Frame) : Nat := (Machine.byteAt f.bytes 1).toNat
/-- The source node of a telegram. -/
def Frame.source (f : Frame) : Byte := Machine.byteAt f.bytes 2
/-- The destination node of a telegram. -/
def Frame.destination (f : Frame) : Byte := Machine.byteAt f.bytes 3
/-- The sequence of a telegram. -/
def Frame.sequence (f : Frame) : Half := Machine.halfAt f.bytes 4
/-- The payload length that the header gives. -/
def Frame.payloadLength (f : Frame) : Nat := (Machine.halfAt f.bytes 6).toNat
/-- The payload: the bytes after it are not read (R204). -/
def Frame.payload (f : Frame) : List Byte := (f.bytes.drop 8).take f.payloadLength
/-- Whether the frame carries the payload length that its header gives (R204, R205). -/
def Frame.holdsPayload (f : Frame) : Bool := decide (8 + f.payloadLength ≤ f.bytes.length)

end Sys2Proof

namespace Sys2Proof.Machine

/-! ## Ports -/

/-- A port's record. -/
def Lif.port (l : Lif) : PortId → Port
  | .p1 => l.p1
  | .p2 => l.p2

/-- Writes a port's record. -/
def Lif.setPort (l : Lif) (id : PortId) (x : Port) : Lif :=
  match id with
  | .p1 => { l with p1 := x }
  | .p2 => { l with p2 := x }

/-- The port by which a frame received on a port leaves (R191). -/
def otherPort : PortId → PortId
  | .p1 => .p2
  | .p2 => .p1

/-- A frame given to its outgoing port: kept in the forwarding store, or discarded where the port is down (R191, R193). -/
def Port.forwards (x : Port) (f : Frame) : Port := if x.up then { x with forward := x.forward ++ [f] } else x

/-- The forwarding of a received frame: it leaves by the other port (R191). -/
def State.forwardFrame (s : State) (id : PortId) (f : Frame) : State :=
  { s with lif := s.lif.setPort (otherPort id) ((s.lif.port (otherPort id)).forwards f) }

/-- A transmitter that becomes free: where both claimants wait, the forwarded frame goes first and then they take turns
(R193). The frame given for an own telegram is the one `build` makes. -/
def Port.transmit (x : Port) (build : Telegram → Frame) : Port :=
  match x.forward, x.own with
  | [], [] => { x with sending := none, ownTurn := false }
  | f :: fs, [] => { x with sending := some f, forward := fs, ownTurn := false }
  | [], t :: ts => { x with sending := some (build t), own := ts, ownTurn := false }
  | f :: fs, t :: ts =>
    if x.ownTurn then { x with sending := some (build t), own := ts, ownTurn := false }
    else { x with sending := some f, forward := fs, ownTurn := true }

/-- The end of the frame that a port sends, and the begin of the next (R193). -/
def State.portTransmit (s : State) (id : PortId) : State :=
  let node := s.lif.node?.getD 0
  { s with lif := s.lif.setPort id ((s.lif.port id).transmit (Telegram.toFrame s.lif.typeValue node)) }

/-- A port's record after a change of its link-up state. A port that is down sends and keeps nothing (R191, R193). -/
def Port.linkChange (x : Port) (up : Bool) : Port := if up then { x with up := true } else { up := false }

/-- A change of a port's link-up state (R191). -/
def State.linkUpChange (s : State) (id : PortId) (up : Bool) : State :=
  { s with lif := s.lif.setPort id ((s.lif.port id).linkChange up) }

/-! ## The ownership watch (R157, R158) -/

/-- The station and robot of an ownership conflict, where a telegram is one: a PROG_SELECT or DISPATCH_CANCEL to the node of
an enabled robot, or a STATION_RELEASE of a station that is not DISABLED. A telegram too short to carry the field
concerned is not examined (R157). -/
def State.conflict? (s : State) (f : Frame) : Option (Fin 16 × Option (Fin 64)) :=
  if f.kind = 0x11 ∨ f.kind = 0x14 then
    if 4 ≤ f.bytes.length then (s.robotAtNode? f.destination).map (fun r => ((s.robot r).station, some r)) else none
  else if f.kind = 0x04 then
    if 9 ≤ f.bytes.length ∧ 1 ≤ f.payloadLength then
      (below? 16 (byteAt f.bytes 8)).bind (fun st => if (s.station st).state = .disabled then none else some (st, none))
    else none
  else none

/-- The ownership watch over a telegram of the part's type: a conflict sets OWNERSHIP and disables an owning station that
is RUNNING or HELD (R158). -/
def State.watch (s : State) (node : Byte) (f : Frame) : State :=
  if f.source ≠ node ∧ byteAt f.bytes 0 = 1 then
    match s.conflict? f with
    | none => s
    | some (st, r) =>
      let s' := s.stationEvent st .ownership r none
      if (s'.station st).state = .disabled then s' else s'.cleanup st
  else s

/-! ## Taking in (R194, R195) -/

/-- The payload lengths that check 6 accepts, for the kinds taken in (R205). -/
def inLengths? (kind : Nat) : Option (Nat × Nat) :=
  match kind with
  | 0x01 => some (9, 9)
  | 0x02 => some (16, 16)
  | 0x21 => some (5, 5)
  | 0x22 | 0x23 | 0x24 => some (2, 2)
  | 0x25 => some (5, 5)
  | 0x31 => some (1, 36)
  | _ => none

/-- The kinds that the part sends and does not take in (R195, R205). -/
def isOutKind (kind : Nat) : Bool := kind ∈ [0x03, 0x04, 0x05, 0x11, 0x12, 0x13, 0x14, 0x32, 0x33]

/-- What the form checks of R195 give. -/
inductive FormCheck where
  | silent | bad | passes
  deriving DecidableEq, Repr

/-- The form checks, in their order (R195). -/
def formCheck (node : Byte) (f : Frame) : FormCheck :=
  if f.source = node then .silent
  else if f.source = 0 ∨ f.source = Config.broadcast then .bad
  else if byteAt f.bytes 0 ≠ 1 then .bad
  else
    match inLengths? f.kind with
    | none => if isOutKind f.kind ∧ f.destination ≠ node then .silent else .bad
    | some (lo, hi) => if lo ≤ f.payloadLength ∧ f.payloadLength ≤ hi ∧ f.holdsPayload then .passes else .bad

/-- The tag at the start of a robot telegram's payload (R207). -/
def tagAt (p : List Byte) : Tag := ⟨byteAt p 0, byteAt p 1⟩

/-- A telegram that has passed the form checks is handed to the block that acts on its kind (R195). -/
def State.hand (s : State) (f : Frame) : State :=
  let p := f.payload
  match f.kind with
  | 0x01 => s.bodyArrive ⟨f.source, f.sequence⟩ (byteAt p 0) (wordAt p 1) (wordAt p 5)
  | 0x02 => s.stationInputs f.source (tabulate 16 (fun st => byteAt p st))
  | 0x21 => s.selEcho f.source (tagAt p) (byteAt p 2) (byteAt p 3)
  | 0x22 => s.cycleStart f.source (tagAt p)
  | 0x23 => s.weldReq f.source (tagAt p)
  | 0x24 => s.weldFree f.source (tagAt p)
  | 0x25 => s.weldDone f.source (tagAt p) (halfAt p 2) (byteAt p 4)
  | 0x31 => s.take ⟨f.source, f.sequence⟩ (readRequest p)
  | _ => s

/-- The taking in of a telegram of the part's type: one for the part is checked and handed on (R194, R195). -/
def State.takeIn (s : State) (node : Byte) (f : Frame) : State :=
  if f.destination = node ∨ f.destination = Config.broadcast then
    match formCheck node f with
    | .silent => s
    | .bad => s.deviceEvent .badTelegram {}
    | .passes => s.hand f
  else s

/-- A frame received whole: forwarded whatever it carries; a telegram of the part's type with a correct frame check
sequence is watched and taken in (R191, R194). A part without a node does neither (R192). -/
def State.receiveFrame (s : State) (id : PortId) (f : Frame) : State :=
  let s' := s.forwardFrame id f
  match s.lif.node? with
  | none => s'
  | some node => if f.fcsOk ∧ f.frameType = s.lif.typeValue then (s'.watch node f).takeIn node f else s'

end Sys2Proof.Machine
end

