-- ==== Sys2Proof/Machine/Tick.lean ====
section
/-! DEFINITION. What every event of the part shares (the node and reset conditions, the pass and the last point of R171), and
the tick (R185) with the running of the timers. -/

namespace Sys2Proof.Machine

/-! ## Events -/

/-- The begin of an event: the telegrams of the last one are no longer its own, no pass is called for, and the nodes in use
are those of CONFIG_LINE. -/
def State.begin (s : State) : State := { s with issued := [], passDue := false, formerNodes := none }

/-- The end of an event: the allocation pass that it called for (R50), the last point of R171, and from then on the nodes of
the last CONFIG_LINE (R196). -/
def State.finish (s : State) : State := { s.runPass.comparePoint with formerNodes := none }

/-- An event of the part. While the reset input is asserted there is none (R191). -/
def State.event (s : State) (work : State → State) : State := if s.lif.inReset then s else (work s.begin).finish

/-- The event of a telegram taken in: a part without a node takes nothing in (R192). -/
def State.telegram (s : State) (work : State → State) : State := if s.lif.node?.isSome then s.event work else s

/-- The event of a management request handed to the MGE (R197). -/
def State.request (s : State) (sender : Sender) (r : Request) : State := s.telegram (·.take sender r)

/-! ## Timers -/

/-- A running timer, one tick later. -/
def countDown (t : Option Nat) : Option Nat := t.map (· - 1)

/-- A station's timers, one tick later. -/
def Station.tick (x : Station) : Station :=
  { x with seatTimer := countDown x.seatTimer, cycleTimer := countDown x.cycleTimer }

/-- An entry's timers, one tick later. -/
def Entry.tick (e : Entry) : Entry :=
  { e with selectTimer := countDown e.selectTimer, holdTimer := countDown e.holdTimer }

/-- A copy or clear in progress, one tick later (R37, R38). -/
def TableJob.tick (j : TableJob) : TableJob := { j with ticks := j.ticks - 1 }

/-- Every running timer, one tick later. -/
def State.runTimers (s : State) : State :=
  { s with
    stc := { s.stc with stations := mapAll Station.tick s.stc.stations }
    dtr := { s.dtr with tracker := mapAll (fun p => { p with entry := p.entry.map Entry.tick }) s.dtr.tracker }
    mge := { s.mge with job := s.mge.job.map TableJob.tick } }

/-- The expiries that the last tick brought and no command has taken, each an event of its own, in a fixed order: stations,
then entries, then the copy or clear (log entry 8). -/
def State.takeDue (s : State) : State :=
  let s1 := forAll allStations (fun st s => ((s.seatExpiry st).finish.cycleExpiry st).finish) s
  let s2 := forAll allIndices (fun i s => ((s.selectExpiry i).finish.holdExpiry i).finish) s1
  ((s2.tableEnd false).finish.tableEnd true).finish

/-- A 1 ms tick: what is due from the last tick, the timers, and EMU's sample of the records as they stand (R185). -/
def State.tick (s : State) : State := s.takeDue.runTimers.sample

end Sys2Proof.Machine
end

