-- ==== Sys2Proof/Machine/LinkCommands.lean ====
section
/-! DEFINITION. The meanings of the commands of the link, of power and reset, and of the tick. -/

namespace Sys2Proof.Machine

/-- What a command answers. -/
abbrev Out := Host.Outcome State Fault Refusal

/-- POWER_ON (R203): every record at its power-on value, the straps read once (R192), and the ports with the link-up state
that they find (R191). The commands that wait are kept. -/
def State.powerOn (s : State) (nodeStraps : Byte) (typeStraps : Half) (p1Up p2Up : Bool) : State :=
  { State.reset with
    lif := { nodeStraps := nodeStraps, typeValue := typeStraps, p1 := { up := p1Up }, p2 := { up := p2Up } }
    pending := s.pending }

/-- POWER_ON (R203). -/
def execPowerOn (nodeStraps : Byte) (typeStraps : Half) (p1Up p2Up : Bool) (s : State) : Out :=
  .next (s.powerOn nodeStraps typeStraps p1Up p2Up)

/-- RESET_INPUT_ASSERT: neither port forwards and nothing is sent until POWER_ON (R191, log entry 7). -/
def execResetInputAssert (s : State) : Out := .next { s with lif := { s.lif with inReset := true }, issued := [] }

/-- LINK_UP_CHANGE: it sets no event and is not counted (R191). -/
def execLinkUpChange (port : PortId) (up : Bool) (s : State) : Out := .next (s.event (·.linkUpChange port up))

/-- FRAME_RECEIVE (R191, R194, R195, R157). -/
def execFrameReceive (port : PortId) (frame : Frame) (s : State) : Out := .next (s.event (·.receiveFrame port frame))

/-- PORT_TRANSMIT (R193). -/
def execPortTransmit (port : PortId) (s : State) : Out := .next (s.event (·.portTransmit port))

/-- TICK (R185, and the timers of R37, R38, R78, R124, R143, R144). -/
def execTick (s : State) : Out := .next (s.event State.tick)

end Sys2Proof.Machine
end

