-- ==== Sys2Proof/Machine/EventCommands.lean ====
section
/-! DEFINITION. The meanings of the telegrams of the line and of the robots that have passed the form checks of R195, and of
the timer expiries. An expiry acts where its timer is due (log entry 8). -/

namespace Sys2Proof.Machine

/-! ## Line telegrams -/

/-- BODY_ARRIVE (R46 to R49). -/
def execBodyArrive (sender : Sender) (station : Byte) (body build : Word) (s : State) : Out :=
  .next (s.telegram (·.bodyArrive sender station body build))

/-- STATION_INPUTS (R160, R163). -/
def execStationInputs (node : Byte) (inputs : Vector Byte 16) (s : State) : Out :=
  .next (s.telegram (·.stationInputs node inputs))

/-! ## Robot telegrams -/

/-- SEL_ECHO (R75, R76); the reason byte is not acted on (R207). -/
def execSelEcho (node : Byte) (tag : Tag) (program verdict _reason : Byte) (s : State) : Out :=
  .next (s.telegram (·.selEcho node tag program verdict))

/-- CYCLE_START (R80, R81). -/
def execCycleStart (node : Byte) (tag : Tag) (s : State) : Out := .next (s.telegram (·.cycleStart node tag))

/-- WELD_REQ (R118, R119). -/
def execWeldReq (node : Byte) (tag : Tag) (s : State) : Out := .next (s.telegram (·.weldReq node tag))

/-- WELD_FREE (R119, R120). -/
def execWeldFree (node : Byte) (tag : Tag) (s : State) : Out := .next (s.telegram (·.weldFree node tag))

/-- WELD_DONE (R83). -/
def execWeldDone (node : Byte) (tag : Tag) (count : Half) (status : Byte) (s : State) : Out :=
  .next (s.telegram (·.weldDone node tag count status))

/-! ## Timer expiries -/

/-- SELECT_TIMER_EXPIRY (R78). -/
def execSelectTimerExpiry (index : Fin 128) (s : State) : Out := .next (s.event (·.selectExpiry index))

/-- SEAT_TIMER_EXPIRY (R144). -/
def execSeatTimerExpiry (station : Fin 16) (s : State) : Out := .next (s.event (·.seatExpiry station))

/-- CYCLE_TIMER_EXPIRY (R145). -/
def execCycleTimerExpiry (station : Fin 16) (s : State) : Out := .next (s.event (·.cycleExpiry station))

/-- HOLD_TIMER_EXPIRY (R89, R125). -/
def execHoldTimerExpiry (index : Fin 128) (s : State) : Out := .next (s.event (·.holdExpiry index))

/-- TABLE_COPY_END (R37). -/
def execTableCopyEnd (s : State) : Out := .next (s.event (·.tableEnd false))

/-- TABLE_CLEAR_END (R38). -/
def execTableClearEnd (s : State) : Out := .next (s.event (·.tableEnd true))

end Sys2Proof.Machine
end

