-- ==== Sys2Proof/Machine/RequestCommands.lean ====
section
/-! DEFINITION. The meanings of the management requests: each hands its request to the MGE with its source node and sequence
number (R197, log entry 4). -/

namespace Sys2Proof.Machine

/-- MGMT_REQUEST (R197 to R199): the payload as the telegram carries it. -/
def execMgmtRequest (sender : Sender) (payload : List Byte) (s : State) : Out :=
  .next (s.request sender (readRequest payload))

/-- BAD_REQUEST: a request that fails the envelope check (R199). -/
def execBadRequest (sender : Sender) (code : Byte) (s : State) : Out := .next (s.request sender (.bad code))

/-- CONFIG_LINE (R196). -/
def execConfigLine (sender : Sender) (line report : Byte) (s : State) : Out :=
  .next (s.request sender (.configLine line report))

/-- CONFIG_STATION (R134). -/
def execConfigStation (sender : Sender) (f : StationFields) (s : State) : Out :=
  .next (s.request sender (.configStation f))

/-- CONFIG_ROBOT (R95). -/
def execConfigRobot (sender : Sender) (f : RobotFields) (s : State) : Out := .next (s.request sender (.configRobot f))

/-- CONFIG_GROUP (R127). -/
def execConfigGroup (sender : Sender) (group capacity : Byte) (holdLimit : Half) (s : State) : Out :=
  .next (s.request sender (.configGroup group capacity holdLimit))

/-- STYLE_WRITE (R31). -/
def execStyleWrite (sender : Sender) (f : StyleFields) (s : State) : Out := .next (s.request sender (.styleWrite f))

/-- STYLE_ERASE (R32). -/
def execStyleErase (sender : Sender) (index : Byte) (s : State) : Out := .next (s.request sender (.styleErase index))

/-- PROGRAM_WRITE (R34, R35). -/
def execProgramWrite (sender : Sender) (f : ProgramFields) (s : State) : Out :=
  .next (s.request sender (.programWrite f))

/-- PROGRAM_ERASE (R36). -/
def execProgramErase (sender : Sender) (station position style : Byte) (s : State) : Out :=
  .next (s.request sender (.programErase station position style))

/-- TABLE_COPY (R37). -/
def execTableCopy (sender : Sender) (s : State) : Out := .next (s.request sender .tableCopy)

/-- TABLE_CLEAR (R38). -/
def execTableClear (sender : Sender) (s : State) : Out := .next (s.request sender .tableClear)

/-- TABLE_COMMIT (R41). -/
def execTableCommit (sender : Sender) (s : State) : Out := .next (s.request sender .tableCommit)

/-- STATION_ENABLE (R137). -/
def execStationEnable (sender : Sender) (station : Byte) (s : State) : Out :=
  .next (s.request sender (.stationEnable station))

/-- STATION_DISABLE (R138). -/
def execStationDisable (sender : Sender) (station : Byte) (s : State) : Out :=
  .next (s.request sender (.stationDisable station))

/-- ROBOT_ENABLE (R101). -/
def execRobotEnable (sender : Sender) (robot : Byte) (s : State) : Out :=
  .next (s.request sender (.robotEnable robot))

/-- ROBOT_DISABLE (R88, R102). -/
def execRobotDisable (sender : Sender) (robot : Byte) (s : State) : Out :=
  .next (s.request sender (.robotDisable robot))

/-- RESOLVE with RETRY (R151 to R153); action code 0 (R205). -/
def execResolveRetry (sender : Sender) (station : Byte) (s : State) : Out :=
  .next (s.request sender (.resolve station 0))

/-- RESOLVE with ACCEPT (R151, R154); action code 1 (R205). -/
def execResolveAccept (sender : Sender) (station : Byte) (s : State) : Out :=
  .next (s.request sender (.resolve station 1))

/-- RESOLVE with ABORT (R151, R155); action code 2 (R205). -/
def execResolveAbort (sender : Sender) (station : Byte) (s : State) : Out :=
  .next (s.request sender (.resolve station 2))

/-- FORCE_PROGRAM (R109). -/
def execForceProgram (sender : Sender) (robot program : Byte) (s : State) : Out :=
  .next (s.request sender (.forceProgram robot program))

/-- WEAR_SET (R108). -/
def execWearSet (sender : Sender) (robot : Byte) (value : Half) (s : State) : Out :=
  .next (s.request sender (.wearSet robot value))

/-- OUTPUT_FORCE (R168). -/
def execOutputForce (sender : Sender) (station bit value : Byte) (s : State) : Out :=
  .next (s.request sender (.outputForce station bit value))

/-- OUTPUT_RELEASE (R169). -/
def execOutputRelease (sender : Sender) (station bit : Byte) (s : State) : Out :=
  .next (s.request sender (.outputRelease station bit))

/-- OUTPUT_UNPROTECT (R170). -/
def execOutputUnprotect (sender : Sender) (station bit : Byte) (s : State) : Out :=
  .next (s.request sender (.outputUnprotect station bit))

/-- EVENT_ACK (R180); more than 17 items fail the envelope check (R208). -/
def execEventAck (sender : Sender) (items : List (Byte × Byte)) (s : State) : Out :=
  .next (s.request sender (if itemsFit items then .eventAck items else .bad 22))

/-- EVENT_MASK (R181); more than 17 items fail the envelope check (R208). -/
def execEventMask (sender : Sender) (items : List (Byte × Byte)) (s : State) : Out :=
  .next (s.request sender (if itemsFit items then .eventMask items else .bad 23))

/-- COUNTER_SET (R188). -/
def execCounterSet (sender : Sender) (f : CounterFields) (s : State) : Out := .next (s.request sender (.counterSet f))

/-- COUNTER_READ (R189). -/
def execCounterRead (sender : Sender) (counter : Byte) (s : State) : Out :=
  .next (s.request sender (.counterRead counter))

/-- COUNTER_FREEZE (R186). -/
def execCounterFreeze (sender : Sender) (s : State) : Out := .next (s.request sender .counterFreeze)

/-- COUNTER_UNFREEZE (R186). -/
def execCounterUnfreeze (sender : Sender) (s : State) : Out := .next (s.request sender .counterUnfreeze)

/-- QUERY of a station (R159, R175). -/
def execQueryStation (sender : Sender) (station : Byte) (s : State) : Out :=
  .next (s.request sender (.query (.station station)))

/-- QUERY of a slot (R159). -/
def execQuerySlot (sender : Sender) (station slot : Byte) (s : State) : Out :=
  .next (s.request sender (.query (.slot station slot)))

/-- QUERY of an entry (R93). -/
def execQueryEntry (sender : Sender) (index : Byte) (s : State) : Out :=
  .next (s.request sender (.query (.entry index)))

/-- QUERY of a robot (R113). -/
def execQueryRobot (sender : Sender) (robot : Byte) (s : State) : Out :=
  .next (s.request sender (.query (.robot robot)))

/-- QUERY of a group (R132). -/
def execQueryGroup (sender : Sender) (group : Byte) (s : State) : Out :=
  .next (s.request sender (.query (.group group)))

/-- QUERY of a style entry (R43). -/
def execQueryStyleEntry (sender : Sender) (bank index : Byte) (s : State) : Out :=
  .next (s.request sender (.query (.styleEntry bank index)))

/-- QUERY of a program record (R43). -/
def execQueryProgramRecord (sender : Sender) (bank station position style : Byte) (s : State) : Out :=
  .next (s.request sender (.query (.programRecord bank station position style)))

/-- QUERY of the banks (R43). -/
def execQueryBanks (sender : Sender) (s : State) : Out := .next (s.request sender (.query .banks))

/-- QUERY of the queue (R62). -/
def execQueryQueue (sender : Sender) (s : State) : Out := .next (s.request sender (.query .queue))

/-- QUERY of the device (R200). -/
def execQueryDevice (sender : Sender) (s : State) : Out := .next (s.request sender (.query .device))

/-- DEVICE_RESET (R201, R202). -/
def execDeviceReset (sender : Sender) (s : State) : Out := .next (s.request sender .deviceReset)

end Sys2Proof.Machine
end

