-- ==== Sys2Proof/Machine/Dispatch.lean ====
section
/-! DEFINITION. The meaning of every command: one arm per constructor of `Instr`, each one direct call. -/

namespace Sys2Proof.Machine

/-- The effect of a command on everything but the queue of waiting commands. -/
def exec (i : Instr) (s : State) : Host.Outcome State Fault Refusal :=
  match i with
  | .powerOn nodeStraps typeStraps p1Up p2Up => Sys2Proof.Machine.execPowerOn nodeStraps typeStraps p1Up p2Up s
  | .linkUpChange port up => Sys2Proof.Machine.execLinkUpChange port up s
  | .frameReceive port frame => Sys2Proof.Machine.execFrameReceive port frame s
  | .portTransmit port => Sys2Proof.Machine.execPortTransmit port s
  | .tick => Sys2Proof.Machine.execTick s
  | .bodyArrive sender station body build => Sys2Proof.Machine.execBodyArrive sender station body build s
  | .stationInputs node inputs => Sys2Proof.Machine.execStationInputs node inputs s
  | .selEcho node tag program verdict reason => Sys2Proof.Machine.execSelEcho node tag program verdict reason s
  | .cycleStart node tag => Sys2Proof.Machine.execCycleStart node tag s
  | .weldReq node tag => Sys2Proof.Machine.execWeldReq node tag s
  | .weldFree node tag => Sys2Proof.Machine.execWeldFree node tag s
  | .weldDone node tag count status => Sys2Proof.Machine.execWeldDone node tag count status s
  | .selectTimerExpiry index => Sys2Proof.Machine.execSelectTimerExpiry index s
  | .seatTimerExpiry station => Sys2Proof.Machine.execSeatTimerExpiry station s
  | .cycleTimerExpiry station => Sys2Proof.Machine.execCycleTimerExpiry station s
  | .holdTimerExpiry index => Sys2Proof.Machine.execHoldTimerExpiry index s
  | .mgmtRequest sender payload => Sys2Proof.Machine.execMgmtRequest sender payload s
  | .badRequest sender code => Sys2Proof.Machine.execBadRequest sender code s
  | .configLine sender line report => Sys2Proof.Machine.execConfigLine sender line report s
  | .configStation sender f => Sys2Proof.Machine.execConfigStation sender f s
  | .configRobot sender f => Sys2Proof.Machine.execConfigRobot sender f s
  | .configGroup sender group capacity holdLimit => Sys2Proof.Machine.execConfigGroup sender group capacity holdLimit s
  | .styleWrite sender f => Sys2Proof.Machine.execStyleWrite sender f s
  | .styleErase sender index => Sys2Proof.Machine.execStyleErase sender index s
  | .programWrite sender f => Sys2Proof.Machine.execProgramWrite sender f s
  | .programErase sender station position style => Sys2Proof.Machine.execProgramErase sender station position style s
  | .tableCopy sender => Sys2Proof.Machine.execTableCopy sender s
  | .tableCopyEnd => Sys2Proof.Machine.execTableCopyEnd s
  | .tableClear sender => Sys2Proof.Machine.execTableClear sender s
  | .tableClearEnd => Sys2Proof.Machine.execTableClearEnd s
  | .tableCommit sender => Sys2Proof.Machine.execTableCommit sender s
  | .stationEnable sender station => Sys2Proof.Machine.execStationEnable sender station s
  | .stationDisable sender station => Sys2Proof.Machine.execStationDisable sender station s
  | .robotEnable sender robot => Sys2Proof.Machine.execRobotEnable sender robot s
  | .robotDisable sender robot => Sys2Proof.Machine.execRobotDisable sender robot s
  | .resolveRetry sender station => Sys2Proof.Machine.execResolveRetry sender station s
  | .resolveAccept sender station => Sys2Proof.Machine.execResolveAccept sender station s
  | .resolveAbort sender station => Sys2Proof.Machine.execResolveAbort sender station s
  | .forceProgram sender robot program => Sys2Proof.Machine.execForceProgram sender robot program s
  | .wearSet sender robot value => Sys2Proof.Machine.execWearSet sender robot value s
  | .outputForce sender station bit value => Sys2Proof.Machine.execOutputForce sender station bit value s
  | .outputRelease sender station bit => Sys2Proof.Machine.execOutputRelease sender station bit s
  | .outputUnprotect sender station bit => Sys2Proof.Machine.execOutputUnprotect sender station bit s
  | .eventAck sender items => Sys2Proof.Machine.execEventAck sender items s
  | .eventMask sender items => Sys2Proof.Machine.execEventMask sender items s
  | .counterSet sender f => Sys2Proof.Machine.execCounterSet sender f s
  | .counterRead sender counter => Sys2Proof.Machine.execCounterRead sender counter s
  | .counterFreeze sender => Sys2Proof.Machine.execCounterFreeze sender s
  | .counterUnfreeze sender => Sys2Proof.Machine.execCounterUnfreeze sender s
  | .queryStation sender station => Sys2Proof.Machine.execQueryStation sender station s
  | .querySlot sender station slot => Sys2Proof.Machine.execQuerySlot sender station slot s
  | .queryEntry sender index => Sys2Proof.Machine.execQueryEntry sender index s
  | .queryRobot sender robot => Sys2Proof.Machine.execQueryRobot sender robot s
  | .queryGroup sender group => Sys2Proof.Machine.execQueryGroup sender group s
  | .queryStyleEntry sender bank index => Sys2Proof.Machine.execQueryStyleEntry sender bank index s
  | .queryProgramRecord sender bank station position style => Sys2Proof.Machine.execQueryProgramRecord sender bank station position style s
  | .queryBanks sender => Sys2Proof.Machine.execQueryBanks sender s
  | .queryQueue sender => Sys2Proof.Machine.execQueryQueue sender s
  | .queryDevice sender => Sys2Proof.Machine.execQueryDevice sender s
  | .deviceReset sender => Sys2Proof.Machine.execDeviceReset sender s
  | .resetInputAssert => Sys2Proof.Machine.execResetInputAssert s

end Sys2Proof.Machine
end

