-- ==== Sys2Proof/Safety.lean ====
section
/-! DEFINITION. What the statements about the part speak of: when it takes telegrams, what an answered request leaves, and
the conditions that hold between events. All of them can be decided on a state. -/

namespace Sys2Proof.Machine

/-! ## Taking telegrams and requests -/

/-- The part takes telegrams: its reset input is not asserted and its straps gave it a node (R191, R192). -/
def State.ready (s : State) : Bool := !s.lif.inReset && s.lif.node?.isSome

/-- The reported image is the effective image, as it is between events (R171). -/
def State.settled (s : State) : Bool := decide (s.piu.reported = s.image)

/-- The part takes requests and no request waits, so that one handed to the MGE is executed at once (R197). -/
def State.quiet (s : State) : Bool := s.ready && s.mge.queue.isEmpty && s.settled

/-- A state with the MGMT_RESPONSE of a request sent: its code, its result and its payload, to its source node with its
sequence number (R198, R208). -/
def State.answered (s : State) (f : Sender) (code : Byte) (result : Result) (payload : List Byte) : State :=
  s.issue (.mgmtResponse f.node f.seq code result payload)

/-- A state with the answer of a QUERY sent: its items where it is answered OK. The queue that the device form counts holds
the QUERY itself (R200). -/
def State.queryAnswered (s : State) (f : Sender) (q : Query) : State :=
  let a := (s.setRequests [⟨f, .query q⟩]).answerQuery q
  s.begin.answered f 28 a.1 (if a.1 = .ok then a.2 else [])

/-- The entry at an index is the one that a robot telegram names: in use, with the telegram's tag, from its robot's node,
and in one of the states given (R90). -/
abbrev State.live (s : State) (node : Byte) (tag : Tag) (i : Fin 128) (e : Entry) (states : List EntryState) : Prop :=
  s.entry? i = some e ∧ tag = s.tag i ∧ (s.robot e.robot).node = node ∧ e.state ∈ states

/-- The code of a value that is coded by its place in a list of the values. -/
def codeIn {α : Type} [DecidableEq α] (l : List α) (a : α) : Byte := BitVec.ofNat 8 (l.idxOf a)

/-- A telegram of the part's type is an ownership conflict over a station: its source is not the part's node, its version is
1, and it is a PROG_SELECT or DISPATCH_CANCEL to the node of an enabled robot whose record names the station, or a
STATION_RELEASE of the station, which is not DISABLED. One too short to carry the field concerned is none (R157). -/
abbrev State.conflictOver (s : State) (node : Byte) (f : Frame) (st : Fin 16) : Prop :=
  f.source ≠ node ∧ byteAt f.bytes 0 = 1
    ∧ (((f.kind = 0x11 ∨ f.kind = 0x14) ∧ 4 ≤ f.bytes.length
        ∧ ∃ r, s.robotAtNode? f.destination = some r ∧ (s.robot r).station = st)
      ∨ (f.kind = 0x04 ∧ 9 ≤ f.bytes.length ∧ 1 ≤ f.payloadLength ∧ (byteAt f.bytes 8).toNat = st
        ∧ (s.station st).state ≠ .disabled))

/-! ## What a command leaves unchanged -/

/-- The blocks whose records a statement's frame names. -/
inductive Block where
  | lif | mge | tbs | arq | dtr | rbc | spa | stc | piu | emu
  deriving DecidableEq, Repr

/-- A block's records are the same in two states. -/
def Block.same (s t : State) : Block → Prop
  | .lif => t.lif = s.lif
  | .mge => t.mge = s.mge
  | .tbs => t.tbs = s.tbs
  | .arq => t.arq = s.arq
  | .dtr => t.dtr = s.dtr
  | .rbc => t.rbc = s.rbc
  | .spa => t.spa = s.spa
  | .stc => t.stc = s.stc
  | .piu => t.piu = s.piu
  | .emu => t.emu = s.emu

/-- Every block but those named keeps its records, and the waiting commands are kept. -/
def State.keeps (s t : State) (but : List Block) : Prop :=
  t.pending = s.pending ∧ ∀ b : Block, b ∉ but → b.same s t

/-! ## Conditions between events -/

/-- No timer is due, and no copy or clear. -/
def State.nothingDue (s : State) : Bool :=
  s.stc.stations.toList.all (fun x => x.seatTimer != some 0 && x.cycleTimer != some 0)
    && s.dtr.tracker.toList.all
      (fun p => p.entry.all (fun e => e.selectTimer != some 0 && e.holdTimer != some 0))
    && s.mge.job.all (fun j => j.ticks != 0)

/-- The number of queued arrivals that carry a bank's stamp (R40). -/
def State.stamped (s : State) (id : BankId) : Nat := s.arq.queue.countP (fun a => a.stamp == id)

/-- The stamp counts are those of the queue, and the bank that is not ACTIVE is DRAINING while and only while an arrival
carries its stamp (R40, R42). -/
def State.stampsAgree (s : State) : Bool :=
  decide ((s.bank .a).stamps = s.stamped .a) && decide ((s.bank .b).stamps = s.stamped .b)
    && (s.tbs.draining == decide (0 < (s.bank s.tbs.active.other).stamps))

/-- The key numbers of a program table rise, so that no key is held twice (R33). -/
def keysRise : List (Nat × ProgramRecord) → Bool
  | [] => true
  | [_] => true
  | p :: q :: rest => decide (p.1 < q.1) && keysRise (q :: rest)

/-- Both program tables hold rising keys, and at most 1024 of them (R33). -/
def State.tablesWf (s : State) : Bool :=
  [BankId.a, BankId.b].all (fun id =>
    keysRise (s.bank id).programs && decide ((s.bank id).recordCount ≤ Config.maxRecords))

/-- The bounds of the queues: 32 arrivals, 4 requests, 256 own telegrams a port (R45, R193, R197). -/
def State.queuesBounded (s : State) : Bool :=
  decide (s.arq.queue.length ≤ Config.maxArrivals) && decide (s.mge.queue.length ≤ Config.maxRequests)
    && decide (s.lif.p1.own.length ≤ Config.ownStore) && decide (s.lif.p2.own.length ≤ Config.ownStore)

/-- Each robot's list names indices in use by entries of that robot, none of them twice and at most 3, and every entry in use
stands on the list of its robot (R64, R66). -/
def State.listsAgree (s : State) : Bool :=
  allRobots.all (fun r =>
    decide ((s.list r).length ≤ Config.maxList) && decide (s.list r).Nodup
      && (s.list r).all (fun i => (s.entry? i).any (·.robot == r)))
    && allIndices.all (fun i => (s.entry? i).all (fun e => (s.list e.robot).contains i))

/-- A DISABLED robot's list is empty (R98), and no supply group has more holders than its capacity (R116). -/
def State.creditsBounded (s : State) : Bool :=
  allRobots.all (fun r => (s.robot r).enabled || (s.list r).isEmpty)
    && (List.finRange 8).all (fun g => decide ((s.holders g).length ≤ (s.group g).capacity))

/-- A station's NEXT slot is occupied only while its CURRENT slot is (R140). -/
def State.slotsInOrder (s : State) : Bool := s.stc.stations.toList.all (fun x => x.next.isNone || x.current.isSome)

/-- Every gun wear counter lies in 0..65535 (R21). -/
def State.wearBounded (s : State) : Bool := s.rbc.robots.toList.all (fun r => decide (r.wear ≤ Config.maxWear))

/-- A station that is DISABLED holds no slot, runs no timer and has its body-lost flag clear (R138, R139). -/
def State.disabledClear (s : State) : Bool :=
  s.stc.stations.toList.all (fun x =>
    x.enabled || (!x.bodyLost && x.seatTimer.isNone && x.cycleTimer.isNone && x.current.isNone && x.next.isNone))

end Sys2Proof.Machine
end

