-- ==== Sys2Proof/Certificates/Slice0/Obligations.lean ====
section
/-! DEFINITION. The statements about the part for the provers, in the order of OBLIGATIONS.json. The spec's sections that each
rests on stand in its docstring; a rule is cited in OBLIGATIONS.json where the statement says all of it. -/

open Sys2Proof Sys2Proof.Machine

/-! ## The step, reset and the conditions that every step keeps -/

/-- A step runs the command at the front of the queue of waiting commands with the queue's rest, and where none waits it
leaves the state as it is (the model's choice, log entries 3 and 5). -/
def Obligations.StepRunsFrontCommand : Prop :=
  (∀ (c : Instr) (rest : List Instr) (s : State),
    step { s with pending := c :: rest } = exec c { s with pending := rest })
  ∧ ∀ s : State, step { s with pending := [] } = .next { s with pending := [] }

/-- The values that power-on gives the records (10.7, and the reset rules of each chapter), and that the conditions of the
invariants below hold there. The straps and link states of `State.reset` are the model's choice (log entries 1 and 2). -/
def Obligations.ResetValues : Prop :=
  (State.reset.tbs.active = .a ∧ State.reset.tbs.draining = false
   ∧ (∀ id, (State.reset.bank id).stamps = 0 ∧ (State.reset.bank id).programs = []
       ∧ ∀ i : Fin 128, (State.reset.bank id).styles[i] = ⟨false, 0, 0, 0, 0⟩)
   ∧ State.reset.arq.queue = []
   ∧ (∀ i : Fin 128, State.reset.place i = ⟨0, none⟩) ∧ (∀ r : Fin 64, State.reset.list r = [])
   ∧ (∀ r : Fin 64, State.reset.robot r = ⟨false, 0, 0, 0, 0, 0, 0, 0, .disabled, 0, none⟩)
   ∧ (∀ g : Fin 8, State.reset.group g = ⟨1, 65535, none⟩)
   ∧ (∀ st : Fin 16, State.reset.station st
       = ⟨⟨.rl, 0, 0, 0, 65535, 5000, .hold, .hold, .none, .none⟩, false, false, none, none, none, none⟩)
   ∧ (∀ st : Fin 16, (State.reset.panel st).present = false ∧ (State.reset.panel st).clamped = false
       ∧ (State.reset.panel st).manual = false ∧ State.reset.piu.reported[st] = 8
       ∧ ∀ b : Fin 4, (State.reset.panel st).bits[b] = ⟨false, false, true⟩)
   ∧ (∀ (st : Fin 16) (n : Fin 8), State.reset.stationStatus st n = ⟨false, true, {}⟩)
   ∧ (∀ n : Fin 8, State.reset.deviceStatus n = ⟨false, true, {}⟩)
   ∧ (∀ k : Fin 8, State.reset.counter k = ⟨0, ⟨.none, none, none, none, .count, 0, false, false, none⟩, false⟩)
   ∧ State.reset.emu.freeze = false ∧ State.reset.mge.queue = [] ∧ State.reset.mge.job = none
   ∧ State.reset.mge.lineNode = 0 ∧ State.reset.mge.reportNode = 0)
  ∧ (State.reset.settled ∧ State.reset.stampsAgree ∧ State.reset.tablesWf ∧ State.reset.queuesBounded
   ∧ State.reset.wearBounded ∧ State.reset.disabledClear ∧ State.reset.listsAgree ∧ State.reset.creditsBounded
   ∧ State.reset.slotsInOrder)

/-- After every step the reported image is the effective image (8.4): what an event changed has been reported at its end,
or has become the reported image where no line node is set. -/
def Obligations.ImageReportedKept : Prop :=
  ∀ s t : State, s.settled → step s = .next t → t.settled

/-- Every step keeps the stamp counts those of the queue, and the bank that is not ACTIVE DRAINING while and only while a
queued arrival carries its stamp (2.6). -/
def Obligations.StampsAgreeKept : Prop :=
  ∀ s t : State, s.stampsAgree → step s = .next t → t.stampsAgree

/-- Every step keeps the program tables' keys distinct and their number at most 1024 (2.4). -/
def Obligations.TablesWfKept : Prop :=
  ∀ s t : State, s.tablesWf → step s = .next t → t.tablesWf

/-- Every step keeps the bounds of the queues: 32 arrivals, 4 requests, 256 own telegrams a port (3.1, 10.1, 10.4); that every
entry in use stands once on the list of its robot and on no other, and no list holds more than 3 (4.1, 4.2); and, with that,
that a DISABLED robot's list is empty and the holders of a supply group never exceed its capacity (5.2, 6.1). -/
def Obligations.QueuesBoundedKept : Prop :=
  (∀ s t : State, s.queuesBounded → step s = .next t → t.queuesBounded)
  ∧ (∀ s t : State, s.listsAgree → step s = .next t → t.listsAgree)
  ∧ ∀ s t : State, s.listsAgree → s.creditsBounded → step s = .next t → t.creditsBounded

/-- Every step keeps every DISABLED station without slots, timers and body-lost flag (7.2), and every NEXT slot EMPTY while its
CURRENT slot is (7.3). -/
def Obligations.DisabledClearKept : Prop :=
  (∀ s t : State, s.disabledClear → step s = .next t → t.disabledClear)
  ∧ ∀ s t : State, s.slotsInOrder → step s = .next t → t.slotsInOrder

/-- A DISABLED robot leaves that state only by a management request (5.2): the telegrams of the line and of the robots and
the timers of stations and entries leave it DISABLED (log entry 17). -/
def Obligations.DisabledRobotStays : Prop :=
  ∀ (s t : State) (r : Fin 64), (s.robot r).state = .disabled →
    ∀ c : Instr,
      (match c with
        | .bodyArrive .. | .stationInputs .. | .selEcho .. | .cycleStart .. | .weldReq .. | .weldFree .. | .weldDone ..
        | .selectTimerExpiry _ | .seatTimerExpiry _ | .cycleTimerExpiry _ | .holdTimerExpiry _ => True
        | _ => False) →
      exec c s = .next t → (t.robot r).state = .disabled

/-! ## Program resolution (chapter 1) -/

/-- R3 and R4: the linear and the circular shifts. -/
def Obligations.Shifts : Prop :=
  (∀ (b : Word) (k : Nat), k ≤ 31 →
     (shift .rl k b).toNat = b.toNat / 2 ^ k ∧ (shift .ll k b).toNat = b.toNat * 2 ^ k % 2 ^ 32
     ∧ (∀ n, k ≤ n → n < 32 → (shift .rl k b).getLsbD (n - k) = b.getLsbD n)
     ∧ (∀ n, 32 - k ≤ n → n < 32 → (shift .rl k b).getLsbD n = false)
     ∧ (∀ n, n + k < 32 → (shift .ll k b).getLsbD (n + k) = b.getLsbD n)
     ∧ ∀ n, n < k → (shift .ll k b).getLsbD n = false)
  ∧ (∀ (b : Word) (k : Nat), k ≤ 31 →
     (∀ n, n < 32 → (shift .rc k b).getLsbD ((n + 32 - k) % 32) = b.getLsbD n)
     ∧ (∀ n, n < 32 → (shift .lc k b).getLsbD ((n + k) % 32) = b.getLsbD n)
     ∧ (1 ≤ k → shift .rc k b = shift .lc (32 - k) b)
     ∧ (∀ kind, shift kind 0 b = b)
     ∧ (∀ n, n + k < 32 → (shift .rc k b).getLsbD n = (shift .rl k b).getLsbD n)
     ∧ (∀ n, k ≤ n → n < 32 → (shift .lc k b).getLsbD n = (shift .ll k b).getLsbD n)
     ∧ (∀ n, 32 - k ≤ n → n < 32 → (shift .rc k b).getLsbD n = b.getLsbD (n + k - 32))
     ∧ ∀ n, n < k → (shift .lc k b).getLsbD n = b.getLsbD (n + 32 - k))

/-- The key of a template (1.2), and R11: the option field of a record. -/
def Obligations.KeyAndOptionField : Prop :=
  (∀ (c : StationConfig) (b : Word), c.shiftCount ≤ 31 →
    (∀ n, n < 32 → (key c b).getLsbD n = ((shift c.shiftKind c.shiftCount b).getLsbD n && c.mask.getLsbD n))
    ∧ (c.mask = 0 → key c b = 0)
    ∧ (c.shiftKind = .rl → ∀ n, 32 - c.shiftCount ≤ n → (key c b).getLsbD n = false)
    ∧ (c.shiftKind = .ll → ∀ n, n < c.shiftCount → (key c b).getLsbD n = false))
  ∧ ∀ (x : ProgramRecord) (b : Word),
    (∀ o, x.overlay = some o →
      x.mask = o.mask ∧ ∀ n, n < 8 →
        (x.options b).getLsbD n = ((shift o.kind o.count b).getLsbD n && o.mask.getLsbD n))
    ∧ (x.overlay = none → x.options b = 0 ∧ x.mask = 0)
    ∧ x.options b &&& ~~~x.mask = 0

/-- The program number and the expected count of a position (1.5). -/
def Obligations.Composition : Prop :=
  (∀ (x : ProgramRecord) (b : Word),
     (∀ n, n < 8 → (x.compose b).getLsbD n = if x.mask.getLsbD n then (x.options b).getLsbD n else x.program.getLsbD n)
     ∧ (x.compose b = 0 → x.work? b = none)
     ∧ (x.compose b ≠ 0 → ∃ w, x.work? b = some w ∧ w.program = x.compose b)
     ∧ (x.overlay = none → x.compose b = x.program)
     ∧ (x.compose b = 0 ↔ (∀ n, n < 8 → x.program.getLsbD n → x.mask.getLsbD n) ∧ x.options b = 0))
  ∧ (∀ (x : ProgramRecord) (b : Word) (total : Int),
     total = (x.expected : Int) + ((x.adders.filter (fun a => (x.options b).getLsbD a.bit)).map (·.delta)).sum →
     (total < 0 → x.expectedFor b = 0) ∧ (1023 < total → x.expectedFor b = 1023)
     ∧ (0 ≤ total → total ≤ 1023 → (x.expectedFor b : Int) = total)
     ∧ (x.adders = [] → x.expected ≤ 1023 → x.expectedFor b = x.expected)
     ∧ (x.expected ≤ 1023 → x.adders.length ≤ 4 → (∀ a ∈ x.adders, -64 ≤ a.delta ∧ a.delta ≤ 63) →
         -256 ≤ total ∧ total ≤ 1275)
     ∧ ∀ w, x.work? b = some w → w.expected = x.expectedFor b)

/-- The style match gives the lowest valid place that matches, or NO_STYLE where none does (1.3), and a full resolution
reads the program records of that style, or none (1.1, 1.4). -/
def Obligations.StyleMatchAndRecords : Prop :=
  (∀ (x : Bank) (k : Word) (st : Fin 16) (i : Fin 128),
    ((x.styles[i]).valid ∧ k &&& (x.styles[i]).care = (x.styles[i]).value ∧ (x.styles[i]).stations.getLsbD st) →
    (∀ j : Fin 128, j < i →
      ¬ ((x.styles[j]).valid ∧ k &&& (x.styles[j]).care = (x.styles[j]).value ∧ (x.styles[j]).stations.getLsbD st)) →
    x.styleMatch k st = some (x.styles[i]).style)
  ∧ (∀ (x : Bank) (k : Word) (st : Fin 16),
    (∀ j : Fin 128,
      ¬ ((x.styles[j]).valid ∧ k &&& (x.styles[j]).care = (x.styles[j]).value ∧ (x.styles[j]).stations.getLsbD st)) →
    x.styleMatch k st = none)
  ∧ (∀ (c : StationConfig) (x : Bank) (st : Fin 16) (b : Word), x.styleMatch (key c b) st = none →
    (resolve c x st b).style = none ∧ ∀ p : Fin 8, (resolve c x st b).works[p] = none)
  ∧ ∀ (c : StationConfig) (x : Bank) (st : Fin 16) (b : Word) (sy : Fin 64), x.styleMatch (key c b) st = some sy →
    (resolve c x st b).style = some sy
    ∧ ∀ p : Fin 8, (resolve c x st b).works[p] = (x.record? (st * 512 + p * 64 + sy)).bind (·.work? b)

/-! ## Tables (chapter 2) -/

/-- STYLE_WRITE replaces the place at its index in the SHADOW bank and nothing else; STYLE_ERASE empties a valid place and is
refused NOT_FOUND at an invalid one (2.3). -/
def Obligations.StyleTableWritten : Prop :=
  ∀ (s : State) (f : Sender) (id : BankId), s.quiet → s.tbs.draining = false → id = s.tbs.active.other →
    (∀ (x : StyleFields) (i : Fin 128) (sy : Fin 64),
      x.index.toNat = i → x.style.toNat = sy → x.value &&& ~~~x.care = 0 →
      exec (.styleWrite f x) s = .next
        ((s.begin.setBank id
          { s.bank id with styles := (s.bank id).styles.set i ⟨true, x.value, x.care, sy, x.stations⟩ }).answered
          f 5 .ok []))
    ∧ (∀ x : StyleFields, (128 ≤ x.index.toNat ∨ 64 ≤ x.style.toNat ∨ x.value &&& ~~~x.care ≠ 0) →
      exec (.styleWrite f x) s = .next (s.begin.answered f 5 .range []))
    ∧ (∀ (n : Byte) (i : Fin 128), n.toNat = i → ((s.bank id).styles[i]).valid →
      exec (.styleErase f n) s = .next
        ((s.begin.setBank id { s.bank id with styles := (s.bank id).styles.set i ⟨false, 0, 0, 0, 0⟩ }).answered
          f 6 .ok []))
    ∧ (∀ (n : Byte) (i : Fin 128), n.toNat = i → (s.bank id).styles[i].valid = false →
      exec (.styleErase f n) s = .next (s.begin.answered f 6 .notFound []))
    ∧ ∀ n : Byte, 128 ≤ n.toNat → exec (.styleErase f n) s = .next (s.begin.answered f 6 .range [])

/-- PROGRAM_WRITE puts its record at its key of the SHADOW bank and leaves every other key, place and bank as it was; a new
key into a full table is refused FULL, and a field out of range RANGE (2.4). The last two clauses spell out the ranges and
the record: with overlay present 0 the overlay fields are not read and no adder is allowed; with 1 the adder places up to the
count name distinct bits of the mask with deltas -64 to 63, and the places after them are not read (2.4, 11.6). -/
def Obligations.ProgramWritten : Prop :=
  (∀ (s : State) (f : Sender) (x : ProgramFields) (id : BankId), s.quiet → s.tbs.draining = false →
    id = s.tbs.active.other →
    (∀ (k : Nat) (y : ProgramRecord), programWrite? x = some (k, y) →
      ((s.bank id).record? k ≠ none ∨ (s.bank id).recordCount < 1024) →
      ∃ t : State, exec (.programWrite f x) s = .next t ∧ (t.bank id).record? k = some y
        ∧ (∀ k', k' ≠ k → (t.bank id).record? k' = (s.bank id).record? k')
        ∧ (t.bank id).styles = (s.bank id).styles ∧ (t.bank id).stamps = (s.bank id).stamps
        ∧ t.bank id.other = s.bank id.other ∧ t.tbs.active = s.tbs.active ∧ t.tbs.draining = false
        ∧ (s.tablesWf →
            (t.bank id).recordCount
              = (s.bank id).recordCount + if (s.bank id).record? k = none then 1 else 0)
        ∧ t.issued = [.mgmtResponse f.node f.seq 7 .ok []] ∧ s.keeps t [.tbs, .lif])
    ∧ (∀ (k : Nat) (y : ProgramRecord), programWrite? x = some (k, y) → (s.bank id).record? k = none →
      1024 ≤ (s.bank id).recordCount → exec (.programWrite f x) s = .next (s.begin.answered f 7 .full []))
    ∧ (programWrite? x = none → exec (.programWrite f x) s = .next (s.begin.answered f 7 .range [])))
  ∧ (∀ x : ProgramFields, programWrite? x ≠ none ↔
      (x.station.toNat < 16 ∧ x.position.toNat < 8 ∧ x.style.toNat < 64 ∧ x.program ≠ 0 ∧ x.expected.toNat ≤ 1023
      ∧ ((x.overlay = 0 ∧ x.adders = 0)
        ∨ (x.overlay = 1 ∧ x.kind.toNat < 4 ∧ x.count.toNat ≤ 31 ∧ x.mask ≠ 0 ∧ x.adders.toNat ≤ 4
          ∧ ∀ i : Fin 4, (i : Nat) < x.adders.toNat →
            (x.places[i]).1.toNat < 8 ∧ x.mask.getLsbD (x.places[i]).1.toNat = true
            ∧ -64 ≤ (x.places[i]).2.toInt ∧ (x.places[i]).2.toInt ≤ 63
            ∧ ∀ j : Fin 4, j < i → (x.places[j]).1 ≠ (x.places[i]).1))))
  ∧ ∀ (x : ProgramFields) (k : Nat) (y : ProgramRecord), programWrite? x = some (k, y) →
      k = x.station.toNat * 512 + x.position.toNat * 64 + x.style.toNat ∧ y.program = x.program
      ∧ y.expected = x.expected.toNat
      ∧ (x.overlay = 0 → y.overlay = none ∧ y.adders = [])
      ∧ (x.overlay = 1 → ∃ kind : ShiftKind, ([.rl, .rc, .ll, .lc] : List ShiftKind)[x.kind.toNat]? = some kind
          ∧ y.overlay = some ⟨kind, x.count.toNat, x.mask⟩
          ∧ y.adders = (x.places.toList.take x.adders.toNat).map (fun p => ⟨p.1.toNat, p.2.toInt⟩))

/-- R36: PROGRAM_ERASE. That the keys are distinct (`tablesWf`), so that the count falls by one, is an invariant stated above. -/
def Obligations.ProgramErased : Prop :=
  ∀ (s : State) (f : Sender) (b1 b2 b3 : Byte), s.quiet →
    (s.tbs.draining = false → ∀ id, id = s.tbs.active.other →
      ∀ (st : Fin 16) (p : Fin 8) (sy : Fin 64), b1.toNat = st → b2.toNat = p → b3.toNat = sy →
      ((s.bank id).record? (programKey st p sy) ≠ none →
        ∃ t : State, exec (.programErase f b1 b2 b3) s = .next t
          ∧ (t.bank id).record? (programKey st p sy) = none
          ∧ (∀ build, (t.bank id).work? st p sy build = none)
          ∧ (∀ k, k ≠ programKey st p sy → (t.bank id).record? k = (s.bank id).record? k)
          ∧ (t.bank id).styles = (s.bank id).styles ∧ (t.bank id).stamps = (s.bank id).stamps
          ∧ t.bank id.other = s.bank id.other ∧ t.tbs.active = s.tbs.active ∧ t.tbs.draining = false
          ∧ (s.tablesWf → (t.bank id).recordCount + 1 = (s.bank id).recordCount)
          ∧ t.issued = [.mgmtResponse f.node f.seq 8 .ok []] ∧ s.keeps t [.tbs, .lif])
      ∧ ((s.bank id).record? (programKey st p sy) = none →
        exec (.programErase f b1 b2 b3) s = .next (s.begin.answered f 8 .notFound [])))
    ∧ ((16 ≤ b1.toNat ∨ 8 ≤ b2.toNat ∨ 64 ≤ b3.toNat) →
      exec (.programErase f b1 b2 b3) s = .next (s.begin.answered f 8 .range []))

/-- TABLE_COPY and TABLE_CLEAR begin where no bank is DRAINING, wait at the head of the queue with four and two ticks to
come, and change no bank; each end gives the SHADOW bank its new contents and is answered OK (2.5). That a job counts its
ticks to come and ends by its command at 0 is the model's choice (log entry 8); the bytes of the copy's answer are put together
as log entry 12 says. -/
def Obligations.CopyAndClear : Prop :=
  (∀ (s : State) (f : Sender), s.quiet → s.tbs.draining = false →
    exec (.tableCopy f) s = .next
      { s.begin with mge := { s.mge with queue := [⟨f, .tableCopy⟩], job := some ⟨false, 4⟩ } }
    ∧ exec (.tableClear f) s = .next
      { s.begin with mge := { s.mge with queue := [⟨f, .tableClear⟩], job := some ⟨true, 2⟩ } })
  ∧ (∀ (s : State) (f : Sender) (id : BankId), s.ready → s.settled → id = s.tbs.active.other →
    s.mge.queue = [⟨f, .tableCopy⟩] → s.mge.job = some ⟨false, 0⟩ →
    exec .tableCopyEnd s = .next
      ((({ s.begin with mge := { s.mge with queue := [], job := none } } : State).setBank id
        { s.bank id with
          styles := (s.bank s.tbs.active).styles, programs := (s.bank s.tbs.active).programs }).answered f 9 .ok
        (u8 (s.bank s.tbs.active).validEntries ++ u16 (s.bank s.tbs.active).recordCount)))
  ∧ ∀ (s : State) (f : Sender) (id : BankId), s.ready → s.settled → id = s.tbs.active.other →
    s.mge.queue = [⟨f, .tableClear⟩] → s.mge.job = some ⟨true, 0⟩ →
    exec .tableClearEnd s = .next
      ((({ s.begin with mge := { s.mge with queue := [], job := none } } : State).setBank id
        { s.bank id with styles := Vector.replicate 128 ⟨false, 0, 0, 0, 0⟩, programs := [] }).answered f 10 .ok [])

/-- TABLE_COMMIT makes the SHADOW bank ACTIVE, and the old ACTIVE bank DRAINING where its stamp count is above 0, else
SHADOW with COMMIT_DONE; the answer names the ACTIVE bank and the drain flag (2.6). -/
def Obligations.Committed : Prop :=
  ∀ (s : State) (f : Sender), s.quiet → s.tbs.draining = false →
    (0 < (s.bank s.tbs.active).stamps →
      exec (.tableCommit f) s = .next
        (({ s.begin with tbs := { s.tbs with active := s.tbs.active.other, draining := true } } : State).answered
          f 11 .ok [bankCode s.tbs.active.other, 1]))
    ∧ ((s.bank s.tbs.active).stamps = 0 →
      ∃ t : State, exec (.tableCommit f) s = .next t
        ∧ t.tbs = { s.tbs with active := s.tbs.active.other, draining := false }
        ∧ (t.deviceStatus 1).set
        ∧ t.issued.getLast? = some (.mgmtResponse f.node f.seq 11 .ok [bankCode s.tbs.active.other, 0])
        ∧ s.keeps t [.tbs, .emu, .lif])

/-- While a bank is DRAINING every request that writes a table, and TABLE_COMMIT, is refused DRAINING, where its fields are
in range, and changes nothing (2.2, 2.5, 2.6). The ranges of PROGRAM_WRITE, named here by `programWrite?`, are spelled out in
the statement ProgramWritten. -/
def Obligations.WritesRefusedDraining : Prop :=
  ∀ (s : State) (f : Sender), s.quiet → s.tbs.draining = true →
    (∀ x : StyleFields, x.index.toNat < 128 → x.style.toNat < 64 → x.value &&& ~~~x.care = 0 →
      exec (.styleWrite f x) s = .next (s.begin.answered f 5 .draining []))
    ∧ (∀ n : Byte, n.toNat < 128 → exec (.styleErase f n) s = .next (s.begin.answered f 6 .draining []))
    ∧ (∀ x, programWrite? x ≠ none → exec (.programWrite f x) s = .next (s.begin.answered f 7 .draining []))
    ∧ (∀ b1 b2 b3 : Byte, b1.toNat < 16 → b2.toNat < 8 → b3.toNat < 64 →
      exec (.programErase f b1 b2 b3) s = .next (s.begin.answered f 8 .draining []))
    ∧ exec (.tableCopy f) s = .next (s.begin.answered f 9 .draining [])
    ∧ exec (.tableClear f) s = .next (s.begin.answered f 10 .draining [])
    ∧ exec (.tableCommit f) s = .next (s.begin.answered f 11 .draining [])

/-! ## Configuration (chapters 5 to 7 and 10) -/

/-- CONFIG_LINE writes both nodes at once, and a line node other than 0 is sent the present image ahead of the answer; the
event that executes it goes on using the nodes that it began with, and from the next event on the new ones are used (10.3;
that this holds for what the event sends to requests executed behind it is the model's reading, log entry 23). CONFIG_GROUP
writes the capacity and hold limit of a group without holders and waiters and keeps its pointer; with their refusals (6.4,
8.4, 10.3). -/
def Obligations.LineAndGroupConfigured : Prop :=
  (∀ (s : State) (f : Sender) (l r : Byte), s.quiet →
     ((l = 255 ∨ r = 255 ∨ l = s.lif.nodeStraps ∨ r = s.lif.nodeStraps) →
       exec (.configLine f l r) s = .next (s.begin.answered f 1 .range []))
     ∧ (l ≠ 255 → r ≠ 255 → l ≠ s.lif.nodeStraps → r ≠ s.lif.nodeStraps →
       (l = 0 → exec (.configLine f l r) s = .next
         (({ s.begin with mge := { s.mge with lineNode := l, reportNode := r } } : State).answered f 1 .ok []))
       ∧ (l ≠ 0 → exec (.configLine f l r) s = .next
         ((({ s.begin with mge := { s.mge with lineNode := l, reportNode := r } } : State).issue
           (.stationOutputs l s.image)).answered f 1 .ok []))))
  ∧ (∀ (s : State) (l r : Byte),
     ((s.configLine l r).2 = .ok → (s.configLine l r).1.mge = { s.mge with lineNode := l, reportNode := r })
     ∧ (s.configLine l r).1.lineInUse = s.lineInUse ∧ (s.configLine l r).1.reportInUse = s.reportInUse
     ∧ (s.formerNodes = none → s.lineInUse = s.mge.lineNode ∧ s.reportInUse = s.mge.reportNode)
     ∧ s.begin.formerNodes = none ∧ s.finish.formerNodes = none)
  ∧ (∀ (s : State) (f : Sender) (b c : Byte) (h : Half), s.quiet →
     (∀ g : Fin 8, b.toNat = g + 1 → 1 ≤ c.toNat → c.toNat ≤ 4 → 100 ≤ h.toNat →
       (s.holders g = [] → s.waiters g = [] →
         exec (.configGroup f b c h) s = .next
           ((s.begin.setGroup g ⟨c.toNat, h.toNat, (s.group g).pointer⟩).answered f 4 .ok []))
       ∧ ((s.holders g ≠ [] ∨ s.waiters g ≠ []) →
         exec (.configGroup f b c h) s = .next (s.begin.answered f 4 .state [])))
     ∧ ((b = 0 ∨ 8 < b.toNat ∨ c = 0 ∨ 4 < c.toNat ∨ h.toNat < 100) →
       exec (.configGroup f b c h) s = .next (s.begin.answered f 4 .range [])))

/-- CONFIG_STATION writes the configuration of a DISABLED station and nothing else; it is refused STATE at any other, and
RANGE first (7.1). -/
def Obligations.StationConfigured : Prop :=
  ∀ (s : State) (f : Sender) (x : StationFields), s.quiet →
    (∀ (st : Fin 16) (k : ShiftKind) (n sh : Policy) (se de : EdgeMode),
      x.station.toNat = st → shiftKind? x.shiftKind = some k → x.shiftCount.toNat ≤ 31 → x.seatDelay.toNat ≤ 10000 →
      x.cycleLimit ≠ 0 → 10 ≤ x.selectTimeout.toNat → x.selectTimeout.toNat ≤ 5000 → policy? x.noStyle = some n →
      policy? x.short = some sh → edgeMode? x.seatEdge = some se → edgeMode? x.departureEdge = some de →
      ((s.station st).state = .disabled →
        exec (.configStation f x) s = .next
          ((s.begin.setStation st
            { s.station st with
              config := ⟨k, x.shiftCount.toNat, x.mask, x.seatDelay.toNat, x.cycleLimit.toNat, x.selectTimeout.toNat, n,
                sh, se, de⟩ }).answered f 2 .ok []))
      ∧ ((s.station st).state ≠ .disabled → exec (.configStation f x) s = .next (s.begin.answered f 2 .state [])))
    ∧ ((16 ≤ x.station.toNat ∨ 4 ≤ x.shiftKind.toNat ∨ 31 < x.shiftCount.toNat ∨ 10000 < x.seatDelay.toNat
        ∨ x.cycleLimit = 0 ∨ x.selectTimeout.toNat < 10 ∨ 5000 < x.selectTimeout.toNat ∨ 2 ≤ x.noStyle.toNat
        ∨ 2 ≤ x.short.toNat ∨ 4 ≤ x.seatEdge.toNat ∨ 4 ≤ x.departureEdge.toNat) →
      exec (.configStation f x) s = .next (s.begin.answered f 2 .range []))

/-- CONFIG_ROBOT writes the seven configuration fields of a DISABLED robot and its configured flag, and keeps its state,
gun wear and last maintenance outcome; it is refused STATE at any other, and RANGE first (5.1). -/
def Obligations.RobotConfigured : Prop :=
  ∀ (s : State) (f : Sender) (x : RobotFields), s.quiet →
    (∀ (r : Fin 64) (st : Fin 16) (p : Fin 8) (g : Fin 9),
      x.robot.toNat = r → x.station.toNat = st → x.position.toNat = p → x.group.toNat = g →
      x.node ≠ 0 → x.node ≠ 255 → x.node ≠ s.lif.nodeStraps → x.dress ≠ 0 → x.interval ≠ 0 →
      x.interval.toNat ≤ 60000 → x.interval.toNat ≤ x.limit.toNat →
      ((s.robot r).state = .disabled →
        exec (.configRobot f x) s = .next
          ((s.begin.setRobot r ⟨true, x.node, st, p, g, x.dress, x.interval.toNat, x.limit.toNat, .disabled,
            (s.robot r).wear, (s.robot r).maint⟩).answered f 3 .ok []))
      ∧ ((s.robot r).state ≠ .disabled → exec (.configRobot f x) s = .next (s.begin.answered f 3 .state [])))
    ∧ ((64 ≤ x.robot.toNat ∨ x.node = 0 ∨ x.node = 255 ∨ x.node = s.lif.nodeStraps ∨ 16 ≤ x.station.toNat
        ∨ 8 ≤ x.position.toNat ∨ 9 ≤ x.group.toNat ∨ x.dress = 0 ∨ x.interval = 0 ∨ 60000 < x.interval.toNat
        ∨ x.limit.toNat < x.interval.toNat) →
      exec (.configRobot f x) s = .next (s.begin.answered f 3 .range []))

/-! ## Robots (chapter 5) -/

/-- WEAR_SET sets a robot's gun wear and nothing else, in every state of the robot; ROBOT_ENABLE makes a configured DISABLED
robot IDLE where no enabled robot has its station and position or its node, and is refused STATE otherwise (5.3, 5.4). -/
def Obligations.WearAndEnable : Prop :=
  (∀ (s : State) (f : Sender) (b : Byte) (v : Half), s.quiet →
     (∀ r : Fin 64, b.toNat = r →
       exec (.wearSet f b v) s = .next
         ((s.begin.setRobot r { s.robot r with wear := v.toNat }).answered f 18 .ok []))
     ∧ (64 ≤ b.toNat → exec (.wearSet f b v) s = .next (s.begin.answered f 18 .range [])))
  ∧ (∀ (s : State) (f : Sender) (b : Byte), s.quiet →
     (∀ r : Fin 64, b.toNat = r →
       ((s.robot r).configured → (s.robot r).state = .disabled →
         (∀ q : Fin 64, q ≠ r → (s.robot q).state ≠ .disabled →
           (s.robot q).node ≠ (s.robot r).node
           ∧ ¬ ((s.robot q).station = (s.robot r).station ∧ (s.robot q).position = (s.robot r).position)) →
         exec (.robotEnable f b) s = .next
           ((s.begin.setRobot r { s.robot r with state := .idle }).answered f 14 .ok []))
       ∧ (((s.robot r).configured = false ∨ (s.robot r).state ≠ .disabled
           ∨ ∃ q : Fin 64, q ≠ r ∧ (s.robot q).state ≠ .disabled
             ∧ ((s.robot q).node = (s.robot r).node
               ∨ ((s.robot q).station = (s.robot r).station ∧ (s.robot q).position = (s.robot r).position))) →
         exec (.robotEnable f b) s = .next (s.begin.answered f 14 .state [])))
     ∧ (64 ≤ b.toNat → exec (.robotEnable f b) s = .next (s.begin.answered f 14 .range [])))

/-- ROBOT_DISABLE: RANGE above 63, OK without change at a DISABLED robot, STATE at a BUSY one; at an IDLE or FAULTED one every
entry of its list is freed and the robot becomes DISABLED with its configuration, gun wear and maintenance outcome kept. The
slot position of each WELD entry, in CURRENT or in NEXT, becomes BYPASSED with shortfall E and no reported count, which
blocks under the short policy HOLD (a CURRENT slot then holds the station) and not under PASS (4.9, 5.3, 7.3). -/
def Obligations.RobotDisabled : Prop :=
  ∀ (s : State) (f : Sender) (b : Byte), s.quiet →
    (64 ≤ b.toNat → exec (.robotDisable f b) s = .next (s.begin.answered f 15 .range []))
    ∧ ∀ r : Fin 64, b.toNat = r →
    ((s.robot r).state = .disabled → exec (.robotDisable f b) s = .next (s.begin.answered f 15 .ok []))
    ∧ ((s.robot r).state = .busy → exec (.robotDisable f b) s = .next (s.begin.answered f 15 .state []))
    ∧ (((s.robot r).state = .idle ∨ (s.robot r).state = .faulted) → s.arq.queue = [] →
      (∀ i ∈ s.list r, ∃ e, s.entry? i = some e ∧ e.robot = r ∧ e.state = .queued ∧ e.supply = .none) →
      ∃ t : State, exec (.robotDisable f b) s = .next t
        ∧ t.robot r = { s.robot r with state := .disabled } ∧ (∀ q : Fin 64, q ≠ r → t.robot q = s.robot q)
        ∧ t.list r = [] ∧ (∀ q : Fin 64, q ≠ r → t.list q = s.list q)
        ∧ (∀ i ∈ s.list r, t.place i = ⟨(s.place i).issue, none⟩)
        ∧ (∀ i : Fin 128, i ∉ s.list r → t.place i = s.place i)
        ∧ (∀ i ∈ s.list r, ∀ e : Entry, s.entry? i = some e → e.kind = .weld →
          (∀ j ∈ s.list r, ∀ x : Entry, s.entry? j = some x →
            x.kind = .weld ∧ x.station = e.station ∧ x.body = e.body ∧ x.position = e.position → j = i) →
          (∀ c : Slot, (s.station e.station).current = some c → c.body = e.body →
            ∀ y : Position, c.positions[e.position] = some y →
            ∃ c', (t.station e.station).current = some c'
              ∧ c'.positions[e.position] = some { y with outcome := .bypassed, reported := none, shortfall := e.expected }
              ∧ ((s.station e.station).config.short = .hold →
                c'.reasons.bypassed = true ∧ ((s.station e.station).state ≠ .disabled → (t.station e.station).state = .held))
              ∧ ((s.station e.station).config.short = .pass → c'.reasons = c.reasons))
          ∧ ((∀ c : Slot, (s.station e.station).current = some c → c.body ≠ e.body) →
            ∀ n : Slot, (s.station e.station).next = some n → n.body = e.body →
            ∀ y : Position, n.positions[e.position] = some y →
            ∃ n', (t.station e.station).next = some n'
              ∧ n'.positions[e.position] = some { y with outcome := .bypassed, reported := none, shortfall := e.expected }
              ∧ ((s.station e.station).config.short = .hold → n'.reasons.bypassed = true)
              ∧ ((s.station e.station).config.short = .pass → n'.reasons = n.reasons)))
        ∧ t.issued.getLast? = some (.mgmtResponse f.node f.seq 15 .ok [])
        ∧ s.keeps t [.lif, .dtr, .rbc, .stc, .piu, .emu])

/-- FORCE_PROGRAM gives an IDLE robot with an empty list a MAINT entry at the lowest free index, which is offered at once
where its station is not MANUAL, and answers the index; its refusals change nothing (5.5). Timers as ticks to
come are the model's choice (log entry 8). -/
def Obligations.ProgramForced : Prop :=
  ∀ (s : State) (f : Sender) (b p : Byte), s.quiet →
    (∀ (r : Fin 64) (i : Fin 128), b.toNat = r → p ≠ 0 → (s.robot r).state = .idle → s.list r = [] →
      s.entry? i = none → (∀ j : Fin 128, j < i → s.entry? j ≠ none) →
      ∃ t : State, exec (.forceProgram f b p) s = .next t ∧ t.list r = [i]
        ∧ t.issued.getLast? = some (.mgmtResponse f.node f.seq 17 .ok (u8 i))
        ∧ (∀ j : Fin 128, j ≠ i → t.place j = s.place j) ∧ (∀ q : Fin 64, q ≠ r → t.list q = s.list q)
        ∧ (∀ q : Fin 64, q ≠ r → t.robot q = s.robot q)
        ∧ ((s.panel (s.robot r).station).manual = true →
          t.place i = ⟨(s.place i).issue, some
              { kind := .maint, robot := r, station := (s.robot r).station, body := 0, position := (s.robot r).position
                program := p, expected := 0 }⟩
          ∧ t.robot r = s.robot r)
        ∧ ((s.panel (s.robot r).station).manual = false →
          t.place i = ⟨(s.place i).issue + 1, some
              { kind := .maint, robot := r, station := (s.robot r).station, body := 0, position := (s.robot r).position
                program := p, expected := 0, state := .offered
                selectTimer := some ((s.station (s.robot r).station).config.selectTimeout + 1) }⟩
          ∧ t.robot r = { s.robot r with state := .busy }
          ∧ .progSelect (s.robot r).node ⟨BitVec.ofNat 8 i, (s.place i).issue + 1⟩ p 0 0 .maint ∈ t.issued)
        ∧ s.keeps t [.lif, .dtr, .rbc, .emu])
    ∧ ((64 ≤ b.toNat ∨ p = 0) → exec (.forceProgram f b p) s = .next (s.begin.answered f 17 .range []))
    ∧ (∀ r : Fin 64, b.toNat = r → p ≠ 0 → ((s.robot r).state ≠ .idle ∨ s.list r ≠ []) →
      exec (.forceProgram f b p) s = .next (s.begin.answered f 17 .collision []))
    ∧ ∀ r : Fin 64, b.toNat = r → p ≠ 0 → (s.robot r).state = .idle → s.list r = [] →
      (∀ j : Fin 128, s.entry? j ≠ none) → exec (.forceProgram f b p) s = .next (s.begin.answered f 17 .full [])

/-! ## Stations (chapter 7) -/

/-- STATION_ENABLE makes a DISABLED station RUNNING with empty slots, and the changed image is reported ahead of the answer;
it is refused STATE at any other (7.2). -/
def Obligations.StationEnabled : Prop :=
  ∀ (s : State) (f : Sender) (b : Byte), s.quiet →
    (∀ st : Fin 16, b.toNat = st →
      ((s.station st).state = .disabled → s.arq.queue = [] →
        ∃ t : State, exec (.stationEnable f b) s = .next t
          ∧ t.station st = ⟨(s.station st).config, true, false, none, none, none, none⟩
          ∧ (t.station st).state = .running ∧ (∀ q : Fin 16, q ≠ st → t.station q = s.station q)
          ∧ t.piu.reported = t.image ∧ t.piu.panels = s.piu.panels
          ∧ t.issued = (if t.image = s.image ∨ s.mge.lineNode = 0 then []
              else [.stationOutputs s.mge.lineNode t.image]) ++ [.mgmtResponse f.node f.seq 12 .ok []]
          ∧ s.keeps t [.lif, .stc, .piu])
      ∧ ((s.station st).state ≠ .disabled → exec (.stationEnable f b) s = .next (s.begin.answered f 12 .state [])))
    ∧ (16 ≤ b.toNat → exec (.stationEnable f b) s = .next (s.begin.answered f 12 .range []))

/-- After an accepted STATION_DISABLE the station holds no slot, no queued arrival and no tracker entry, its timers are
stopped and its configuration is kept; each removed arrival is answered refused STATION with sequence number 0, and the
robot of each entry beyond QUEUED is sent DISPATCH_CANCEL; at a DISABLED station nothing changes (3.5, 4.9, 7.2). -/
def Obligations.StationDisabled : Prop :=
  ∀ (s : State) (f : Sender) (b : Byte), s.quiet →
    (∀ st : Fin 16, b.toNat = st →
      ((s.station st).state ≠ .disabled →
        ∃ t : State, exec (.stationDisable f b) s = .next t
          ∧ t.station st = ⟨(s.station st).config, false, false, none, none, none, none⟩
          ∧ (∀ a ∈ t.arq.queue, a.station ≠ st)
          ∧ (∀ (i : Fin 128) (e : Entry), t.entry? i = some e → e.station ≠ st)
          ∧ (∀ q : Fin 64, ((s.robot q).state = .disabled ↔ (t.robot q).state = .disabled))
          ∧ (s.mge.lineNode ≠ 0 → ∀ a ∈ s.arq.queue, a.station = st →
              .arrivalAck s.mge.lineNode 0 a.body (some .station) ∈ t.issued)
          ∧ (∀ (i : Fin 128) (e : Entry), s.entry? i = some e → e.station = st → e.state ≠ .queued →
              .dispatchCancel (s.robot e.robot).node (s.tag i) ∈ t.issued)
          ∧ t.issued.getLast? = some (.mgmtResponse f.node f.seq 13 .ok []))
      ∧ ((s.station st).state = .disabled → exec (.stationDisable f b) s = .next (s.begin.answered f 13 .ok [])))
    ∧ (16 ≤ b.toNat → exec (.stationDisable f b) s = .next (s.begin.answered f 13 .range []))

/-- RESOLVE with ACCEPT: the blocking positions of the CURRENT slot become ACCEPTED with their other fields kept, the reasons
and the body-lost flag are cleared and the station is RUNNING (7.7). The lists of its robots are taken as empty, so that
no offer of the fifth step adds to the slot. -/
def Obligations.ResolvedAccept : Prop :=
  ∀ (s : State) (f : Sender) (b : Byte) (st : Fin 16), s.quiet → b.toNat = st → (s.station st).state = .held →
    s.arq.queue = [] → (∀ r ∈ s.stationRobots st, s.list r = []) →
    ∃ t : State, exec (.resolveAccept f b) s = .next t ∧ (t.station st).state = .running
      ∧ (t.station st).bodyLost = false ∧ (t.station st).next = (s.station st).next
      ∧ (∀ c, (s.station st).current = some c → ∃ c', (t.station st).current = some c' ∧ c'.reasons = {}
          ∧ c'.body = c.body ∧ c'.style = c.style ∧ c'.abortMark = c.abortMark
          ∧ (∀ p : Fin 8, c.blocking p → ∀ y, c.positions[p] = some y →
              c'.positions[p] = some { y with outcome := .accepted })
          ∧ (∀ p : Fin 8, ¬ c.blocking p → c'.positions[p] = c.positions[p])
          ∧ (c.state = .seated → (∀ (p : Fin 8) y, c'.positions[p] = some y → y.outcome ≠ .pending) →
              c'.state = .released))
      ∧ (∀ r ∈ s.stationRobots st, (s.robot r).state = .faulted → (t.robot r).state = .idle)
      ∧ t.issued.getLast? = some (.mgmtResponse f.node f.seq 16 .ok [])
      ∧ s.keeps t [.lif, .stc, .rbc, .piu]

/-- RESOLVE with RETRY of one blocking position. With work and a serving robot, the position is rewritten PENDING and a new
WELD entry at the lowest free index, at the head of its robot's list, is offered (the robots' lists are taken as empty and the
robot as FAULTED, as after the outcome that held the station); with no room on that robot's list, or no free index, the
request is refused FULL and changes nothing. With work and no serving robot the position becomes BYPASSED, which blocks
afresh under the short policy HOLD; without work it becomes NONE (7.7). Timers as ticks to come are the model's choice
(log entry 8). -/
def Obligations.ResolvedRetry : Prop :=
  ∀ (s : State) (f : Sender) (b : Byte) (st : Fin 16) (c : Slot) (p : Fin 8) (sy : Fin 64),
    s.quiet → b.toNat = st → (s.station st).state = .held → (s.station st).current = some c → c.style = some sy →
    c.blockingPositions = [p] →
    (∀ (w : Work) (r : Fin 64) (i : Fin 128),
      s.arq.queue = [] → (∀ q ∈ s.stationRobots st, s.list q = []) →
      (s.bank c.stamp).work? st p sy c.build = some w → s.servingRobot? st p = some r →
      (s.robot r).state = .faulted → (s.robot r).wear < (s.robot r).limit → (s.panel st).manual = false →
      s.entry? i = none → (∀ j : Fin 128, j < i → s.entry? j ≠ none) →
      ∃ t : State, exec (.resolveRetry f b) s = .next t ∧ (t.station st).state = .running ∧ t.list r = [i]
        ∧ (∃ c', (t.station st).current = some c' ∧ c'.reasons = {} ∧ c'.state = c.state
            ∧ c'.positions = c.positions.set p (some ⟨w.program, w.expected, .pending, none, 0⟩))
        ∧ t.place i = ⟨(s.place i).issue + 1, some
            { kind := .weld, robot := r, station := st, body := c.body, position := p, program := w.program
              expected := w.expected, state := .offered
              selectTimer := some ((s.station st).config.selectTimeout + 1) }⟩
        ∧ (∀ j : Fin 128, j ≠ i → t.place j = s.place j) ∧ (t.robot r).state = .busy
        ∧ .progSelect (s.robot r).node ⟨BitVec.ofNat 8 i, (s.place i).issue + 1⟩ w.program w.expected c.body .weld
            ∈ t.issued
        ∧ t.issued.getLast? = some (.mgmtResponse f.node f.seq 16 .ok [])
        ∧ s.keeps t [.lif, .dtr, .stc, .rbc, .piu, .emu])
    ∧ (∀ (w : Work) (r : Fin 64), (s.bank c.stamp).work? st p sy c.build = some w → s.servingRobot? st p = some r →
      (3 ≤ (s.list r).length ∨ ∀ j : Fin 128, s.entry? j ≠ none) →
      exec (.resolveRetry f b) s = .next (s.begin.answered f 16 .full []))
    ∧ (∀ w : Work, (s.bank c.stamp).work? st p sy c.build = some w → s.servingRobot? st p = none →
      s.arq.queue = [] → (∀ q ∈ s.stationRobots st, s.list q = []) →
      ∃ t : State, exec (.resolveRetry f b) s = .next t
        ∧ (∃ c', (t.station st).current = some c'
            ∧ c'.positions = c.positions.set p (some ⟨w.program, w.expected, .bypassed, none, w.expected⟩)
            ∧ ((s.station st).config.short = .hold → c'.reasons = { bypassed := true } ∧ (t.station st).state = .held)
            ∧ ((s.station st).config.short = .pass → c'.reasons = {} ∧ (t.station st).state = .running))
        ∧ t.issued.getLast? = some (.mgmtResponse f.node f.seq 16 .ok [])
        ∧ s.keeps t [.lif, .stc, .rbc, .piu, .emu])
    ∧ ((s.bank c.stamp).work? st p sy c.build = none → s.arq.queue = [] → (∀ q ∈ s.stationRobots st, s.list q = []) →
      ∃ t : State, exec (.resolveRetry f b) s = .next t ∧ (t.station st).state = .running
        ∧ (∃ c', (t.station st).current = some c' ∧ c'.reasons = {} ∧ c'.positions = c.positions.set p none)
        ∧ t.issued.getLast? = some (.mgmtResponse f.node f.seq 16 .ok [])
        ∧ s.keeps t [.lif, .stc, .rbc, .piu])

/-- RESOLVE with ABORT of a CURRENT slot that holds a reason: the abort mark is set, no entry of the body is left at any
station (4.9; the entries of every station that carry the body ID are taken, log entry 11), and the station is RUNNING; where
the slot is SEATED with nothing pending it is released REJECTED, and its STATION_RELEASE leaves ahead of every PROG_SELECT
(4.3, 7.5; the place of the offers after the completion check is read from those sections, log entry 24). Where BODY_LOST is
the only reason the flag is cleared and the slot kept. The refusals of RESOLVE with any action: STATE at a station that is not
HELD and RANGE above 15 (7.7). -/
def Obligations.ResolvedAbort : Prop :=
  (∀ (s : State) (f : Sender) (b : Byte) (st : Fin 16), s.quiet → b.toNat = st → (s.station st).state = .held →
     s.arq.queue = [] →
     (∀ c : Slot, (s.station st).current = some c → c.reasons ≠ {} →
       ∃ t c', exec (.resolveAbort f b) s = .next t ∧ (t.station st).current = some c' ∧ c'.abortMark = true
         ∧ c'.body = c.body ∧ c'.reasons = {} ∧ (t.station st).state = .running
         ∧ (∀ (i : Fin 128) (e : Entry), t.entry? i = some e → e.body ≠ c.body)
         ∧ (s.mge.lineNode ≠ 0 → c.state = .seated → (∀ (p : Fin 8) y, c.positions[p] = some y → y.outcome ≠ .pending) →
             c'.state = .released
             ∧ ∃ before pairs after,
                 t.issued = before ++ .stationRelease s.mge.lineNode st c.body .rejected pairs :: after
                 ∧ ∀ x ∈ before, ∀ dst tag program expected body kind,
                     x ≠ .progSelect dst tag program expected body kind)
         ∧ t.issued.getLast? = some (.mgmtResponse f.node f.seq 16 .ok [])
         ∧ s.keeps t [.lif, .dtr, .stc, .spa, .rbc, .piu, .emu])
     ∧ ((∀ c : Slot, (s.station st).current = some c → c.reasons = {}) → (∀ r ∈ s.stationRobots st, s.list r = []) →
       ∃ t, exec (.resolveAbort f b) s = .next t ∧ (t.station st).state = .running
         ∧ (t.station st).bodyLost = false
         ∧ (∀ c, (s.station st).current = some c → ∃ c', (t.station st).current = some c' ∧ c'.abortMark = c.abortMark
             ∧ c'.positions = c.positions)
         ∧ t.issued.getLast? = some (.mgmtResponse f.node f.seq 16 .ok [])
         ∧ s.keeps t [.lif, .stc, .rbc, .piu]))
  ∧ (∀ (s : State) (f : Sender) (b : Byte) (r : Result), s.quiet →
     ((r = .range ∧ 16 ≤ b.toNat)
       ∨ (r = .state ∧ ∃ st : Fin 16, b.toNat = st ∧ (s.station st).state ≠ .held)) →
     exec (.resolveRetry f b) s = .next (s.begin.answered f 16 r [])
     ∧ exec (.resolveAccept f b) s = .next (s.begin.answered f 16 r [])
     ∧ exec (.resolveAbort f b) s = .next (s.begin.answered f 16 r []))

/-! ## Process image (chapter 8) -/

/-- The computed and effective values of the four output bits and their places in the image, and a point of the comparison of
images: STATION_OUTPUTS goes to the line node in use where the images differ, none where they are equal or that node is 0,
and the effective image becomes the reported image (8.3, 8.4). The node in use is that of CONFIG_LINE but within the event
that writes it (10.3, log entry 23). -/
def Obligations.OutputImage : Prop :=
  (∀ (s : State) (st : Fin 16),
     (s.computedBit st 0 = true ↔ ∃ c, (s.station st).current = some c ∧ c.state = .released)
     ∧ (s.computedBit st 1 = true ↔ (s.station st).state = .held)
     ∧ (s.computedBit st 2 = true ↔
         ∃ (i : Fin 128) (e : Entry), s.entry? i = some e ∧ e.kind = .dress ∧ e.state = .welding ∧ e.station = st)
     ∧ (s.computedBit st 3 = true ↔ (s.station st).state = .disabled)
     ∧ (∀ b : Fin 4, (s.panel st).bits[b].forced = false → s.effectiveBit st b = s.computedBit st b)
     ∧ (∀ b : Fin 4, (s.panel st).bits[b].forced = true → s.effectiveBit st b = (s.panel st).bits[b].value)
     ∧ (∀ b : Fin 4, (s.image[st]).getLsbD b = s.effectiveBit st b)
     ∧ ∀ n, 4 ≤ n → (s.image[st]).getLsbD n = false)
  ∧ (∀ s : State,
     (s.image = s.piu.reported → s.comparePoint = s)
     ∧ (s.image ≠ s.piu.reported → s.lineInUse = 0 →
       s.comparePoint = { s with piu := { s.piu with reported := s.image } })
     ∧ (s.image ≠ s.piu.reported → s.lineInUse ≠ 0 →
       s.comparePoint = { s.issue (.stationOutputs s.lineInUse s.image) with
         piu := { s.piu with reported := s.image } }))

/-- OUTPUT_FORCE, OUTPUT_RELEASE and OUTPUT_UNPROTECT write one bit's record; where the image changes it is reported ahead of
the answer (8.3, 8.4). -/
def Obligations.OutputsWritten : Prop :=
  ∀ (s : State) (f : Sender) (b1 b2 b3 : Byte), s.quiet →
    (∀ (st : Fin 16) (b : Fin 4), b1.toNat = st → b2.toNat = b →
      (b3.toNat ≤ 1 → (s.panel st).bits[b].protect = false →
        exec (.outputForce f b1 b2 b3) s = .next
          ((s.begin.setPanel st { s.panel st with bits := (s.panel st).bits.set b ⟨true, b3 = 1, false⟩ }).comparePoint.answered
            f 19 .ok []))
      ∧ (b3.toNat ≤ 1 → (s.panel st).bits[b].protect = true →
        exec (.outputForce f b1 b2 b3) s = .next (s.begin.answered f 19 .protectedBit []))
      ∧ exec (.outputRelease f b1 b2) s = .next
          ((s.begin.setPanel st
            { s.panel st with
              bits := (s.panel st).bits.set b ⟨false, false, (s.panel st).bits[b].protect⟩ }).comparePoint.answered
            f 20 .ok [])
      ∧ exec (.outputUnprotect f b1 b2) s = .next
          ((s.begin.setPanel st
            { s.panel st with
              bits := (s.panel st).bits.set b { (s.panel st).bits[b] with protect := false } }).answered f 21 .ok []))
    ∧ ((16 ≤ b1.toNat ∨ 4 ≤ b2.toNat) →
      exec (.outputForce f b1 b2 b3) s = .next (s.begin.answered f 19 .range [])
      ∧ exec (.outputRelease f b1 b2) s = .next (s.begin.answered f 20 .range [])
      ∧ exec (.outputUnprotect f b1 b2) s = .next (s.begin.answered f 21 .range []))
    ∧ (2 ≤ b3.toNat → exec (.outputForce f b1 b2 b3) s = .next (s.begin.answered f 19 .range []))

/-- A STATION_INPUTS from the line node becomes every station's history, whatever the station's state; one from another
node is dropped with BAD_TELEGRAM and changes nothing else (8.2). Where MANUAL falls, a QUEUED head of the station is offered to
its IDLE robot (4.4, 8.2), but a WELD head of a robot at its wear limit ends WEAR_LIMIT: no PROG_SELECT is sent, the issue
number is kept, the robot is FAULTED, and the position takes WEAR_LIMIT with shortfall E and holds the station (1.9, 4.4,
5.4, 7.3). Every other level is as its history has it, the head is the only one of the station and no arrival waits. Timers
as ticks to come are the model's choice (log entry 8). -/
def Obligations.InputsTaken : Prop :=
  (∀ (s : State) (node : Byte) (v : Vector Byte 16), s.ready →
    (s.mge.lineNode ≠ 0 → node = s.mge.lineNode →
      ∃ t : State, exec (.stationInputs node v) s = .next t
        ∧ ∀ st : Fin 16, t.panel st = ⟨(v[st]).getLsbD 0, (v[st]).getLsbD 1, (v[st]).getLsbD 2, (s.panel st).bits⟩)
    ∧ ((s.mge.lineNode = 0 ∨ node ≠ s.mge.lineNode) → s.settled →
      ∃ t : State, exec (.stationInputs node v) s = .next t ∧ (t.deviceStatus 5).set ∧ s.keeps t [.emu, .lif]))
  ∧ ∀ (s : State) (v : Vector Byte 16) (st : Fin 16) (r : Fin 64) (i : Fin 128) (rest : List (Fin 128)) (e : Entry),
    s.ready → s.settled → s.mge.lineNode ≠ 0 → s.arq.queue = [] →
    (∀ q : Fin 16, (v[q]).getLsbD 0 = (s.panel q).present ∧ (v[q]).getLsbD 1 = (s.panel q).clamped
      ∧ (q ≠ st → (v[q]).getLsbD 2 = (s.panel q).manual)) →
    (s.panel st).manual = true → (v[st]).getLsbD 2 = false →
    r ∈ s.stationRobots st → (∀ q ∈ s.stationRobots st, q ≠ r → s.list q = []) →
    s.list r = i :: rest → i ∉ rest → s.entry? i = some e → e.robot = r → e.station = st →
    ((s.robot r).state = .idle → e.state = .queued →
      (e.kind ≠ .weld ∨ ((s.station st).state ≠ .disabled ∧ (s.robot r).wear < (s.robot r).limit)) →
      ∃ t : State, exec (.stationInputs s.mge.lineNode v) s = .next t
        ∧ t.place i = ⟨(s.place i).issue + 1, some { e with
            state := .offered, selectTimer := some ((s.station st).config.selectTimeout + 1) }⟩
        ∧ (∀ j : Fin 128, j ≠ i → t.place j = s.place j) ∧ t.dtr.lists = s.dtr.lists
        ∧ t.robot r = { s.robot r with state := .busy } ∧ (∀ q : Fin 64, q ≠ r → t.robot q = s.robot q)
        ∧ .progSelect (s.robot r).node ⟨BitVec.ofNat 8 i, (s.place i).issue + 1⟩ e.program e.expected e.body e.kind
            ∈ t.issued
        ∧ s.keeps t [.lif, .dtr, .rbc, .piu, .emu])
    ∧ ((s.robot r).state = .idle → e.state = .queued → e.supply = .none → e.kind = .weld →
      (s.station st).state ≠ .disabled → (s.robot r).limit ≤ (s.robot r).wear →
      ∀ c : Slot, (s.station st).current = some c → c.body = e.body →
      ∀ y : Position, c.positions[e.position] = some y →
      ∃ t : State, exec (.stationInputs s.mge.lineNode v) s = .next t
        ∧ t.place i = ⟨(s.place i).issue, none⟩ ∧ (∀ j : Fin 128, j ≠ i → t.place j = s.place j) ∧ t.list r = rest
        ∧ t.robot r = { s.robot r with state := .faulted } ∧ (∀ q : Fin 64, q ≠ r → t.robot q = s.robot q)
        ∧ (∃ c', (t.station st).current = some c' ∧ c'.reasons = { c.reasons with wearLimit := true }
            ∧ c'.positions = c.positions.set e.position (some { y with
                outcome := .wearLimit, reported := none, shortfall := e.expected }))
        ∧ (t.station st).state = .held
        ∧ (∀ x ∈ t.issued, ∀ dst tag program expected body kind, x ≠ .progSelect dst tag program expected body kind)
        ∧ s.keeps t [.lif, .dtr, .rbc, .stc, .piu, .emu])
    ∧ (((s.robot r).state ≠ .idle ∨ e.state ≠ .queued ∨ (e.kind = .weld ∧ (s.station st).state = .disabled)) →
      ∃ t : State, exec (.stationInputs s.mge.lineNode v) s = .next t ∧ t.issued = [] ∧ s.keeps t [.piu])

/-- The edges that the four edge modes select; a seat edge of a CLAMPED input that the station's mode selects seats an
ANNOUNCED body, sets CLAMP_NO_BODY where no body stands there, and does nothing in any other slot state; an edge that the mode
does not select, a level without an edge, and any edge at a DISABLED station do nothing (7.2, 7.4, 8.2). Every other level is
as its history has it. The seat timer as seat delay + 1 ticks to come is the model's choice (log entry 8). -/
def Obligations.SeatEdge : Prop :=
  (∀ (m : EdgeMode) (old new : Bool), m.selects old new = true ↔
    (((m = .rising ∨ m = .both) ∧ old = false ∧ new = true) ∨ ((m = .falling ∨ m = .both) ∧ old = true ∧ new = false)))
  ∧ ∀ (s : State) (v : Vector Byte 16) (st : Fin 16), s.ready → s.settled → s.mge.lineNode ≠ 0 →
    (∀ q : Fin 16, (v[q]).getLsbD 0 = (s.panel q).present ∧ (v[q]).getLsbD 2 = (s.panel q).manual
      ∧ (q ≠ st → (v[q]).getLsbD 1 = (s.panel q).clamped)) →
    ((s.station st).config.seatEdge.selects (s.panel st).clamped ((v[st]).getLsbD 1) = true →
      (s.station st).state ≠ .disabled →
      (∀ c : Slot, (s.station st).current = some c → c.state = .announced →
        ∃ t : State, exec (.stationInputs s.mge.lineNode v) s = .next t
          ∧ t.station st = { s.station st with
              current := some { c with state := .seating }
              seatTimer := some ((s.station st).config.seatDelay + 1) }
          ∧ (∀ q : Fin 16, q ≠ st → t.station q = s.station q) ∧ s.keeps t [.stc, .piu])
      ∧ (∀ c : Slot, (s.station st).current = some c → c.state ≠ .announced →
        ∃ t : State, exec (.stationInputs s.mge.lineNode v) s = .next t ∧ t.issued = [] ∧ s.keeps t [.piu])
      ∧ ((s.station st).current = none →
        ∃ t : State, exec (.stationInputs s.mge.lineNode v) s = .next t ∧ (t.stationStatus st 3).set
          ∧ s.keeps t [.piu, .emu, .lif]))
    ∧ (((s.station st).config.seatEdge.selects (s.panel st).clamped ((v[st]).getLsbD 1) = false
        ∨ (s.station st).state = .disabled) →
      ∃ t : State, exec (.stationInputs s.mge.lineNode v) s = .next t ∧ t.issued = [] ∧ s.keeps t [.piu])

/-- A departure edge of a PRESENT input that the station's mode selects (the modes as the statement SeatEdge has them) empties
a RELEASED slot and promotes the NEXT body whole; any other body is lost, its entries of every station (log entry 11) are
aborted with DISPATCH_CANCEL for those beyond QUEUED, and the station is HELD; an EMPTY slot, an edge that the mode does not
select, a level without an edge and a DISABLED station make it do nothing (4.9, 7.2, 7.6, 8.2). Every other level is as its
history has it, and no arrival waits. -/
def Obligations.DepartureEdge : Prop :=
  ∀ (s : State) (v : Vector Byte 16) (st : Fin 16), s.ready → s.settled → s.mge.lineNode ≠ 0 →
    s.arq.queue = [] →
    (∀ q : Fin 16, (v[q]).getLsbD 1 = (s.panel q).clamped ∧ (v[q]).getLsbD 2 = (s.panel q).manual
      ∧ (q ≠ st → (v[q]).getLsbD 0 = (s.panel q).present)) →
    ((s.station st).config.departureEdge.selects (s.panel st).present ((v[st]).getLsbD 0) = true →
      (s.station st).state ≠ .disabled →
      (∀ c : Slot, (s.station st).current = some c → c.state = .released →
        ∃ t : State, exec (.stationInputs s.mge.lineNode v) s = .next t
          ∧ (t.station st).next = none
          ∧ ((s.station st).next = none → (t.station st).current = none)
          ∧ (∀ n : Slot, (s.station st).next = some n → ∃ n', (t.station st).current = some n' ∧ n'.state = .announced
              ∧ n'.body = n.body ∧ n'.build = n.build ∧ n'.style = n.style ∧ n'.stamp = n.stamp
              ∧ n'.abortMark = n.abortMark ∧ n'.positions = n.positions
              ∧ n'.reasons = { n.reasons with
                  noStyle := n.reasons.noStyle
                    || (n.style.isNone && decide ((s.station st).config.noStyle = .hold)) })
          ∧ (∀ q : Fin 16, q ≠ st → t.station q = s.station q) ∧ t.piu.reported = t.image
          ∧ s.keeps t [.lif, .stc, .piu, .emu])
      ∧ (∀ c : Slot, (s.station st).current = some c → c.state ≠ .released →
        ∃ t : State, exec (.stationInputs s.mge.lineNode v) s = .next t ∧ (t.stationStatus st 2).set
          ∧ (t.station st).bodyLost = true ∧ (t.station st).state = .held ∧ (t.station st).seatTimer = none
          ∧ (t.station st).cycleTimer = none ∧ (t.station st).next = none
          ∧ ((s.station st).next = none → (t.station st).current = none)
          ∧ (∀ (i : Fin 128) (e : Entry), t.entry? i = some e → e.body ≠ c.body)
          ∧ (∀ (i : Fin 128) (e : Entry), s.entry? i = some e → e.body = c.body → e.state ≠ .queued →
              .dispatchCancel (s.robot e.robot).node (s.tag i) ∈ t.issued))
      ∧ ((s.station st).current = none →
        ∃ t : State, exec (.stationInputs s.mge.lineNode v) s = .next t ∧ t.issued = [] ∧ s.keeps t [.piu]))
    ∧ (((s.station st).config.departureEdge.selects (s.panel st).present ((v[st]).getLsbD 0) = false
        ∨ (s.station st).state = .disabled) →
      ∃ t : State, exec (.stationInputs s.mge.lineNode v) s = .next t ∧ t.issued = [] ∧ s.keeps t [.piu])

/-! ## Events and monitor counters (chapter 9) -/

/-- An occurrence of a station event sets its status, with its capture and report where the status was clear; and an
occurrence of a count event increases a counter in COUNT mode that selects it and is not held, modulo 2^48, with its freeze
trigger (9.1 to 9.4). The report node in use is that of CONFIG_LINE but within the event that writes it (10.3, log entry 23). -/
def Obligations.Occurrence : Prop :=
  (∀ (s : State) (st : Fin 16) (e : StationEvent) (r : Option (Fin 64)) (b : Option Word) (n : Fin 8),
     n = stationEventNumber e →
     ((s.stationStatus st n).set → s.stationEvent st e r b = s)
     ∧ ((s.stationStatus st n).set = false → ((s.stationStatus st n).mask ∨ s.reportInUse = 0) →
       s.stationEvent st e r b
         = s.setStationStatus st n ⟨true, (s.stationStatus st n).mask, ⟨some st, r, b⟩⟩)
     ∧ ((s.stationStatus st n).set = false → (s.stationStatus st n).mask = false → s.reportInUse ≠ 0 →
       s.stationEvent st e r b
         = (s.setStationStatus st n ⟨true, false, ⟨some st, r, b⟩⟩).issue
             (.eventReport s.reportInUse false n ⟨some st, r, b⟩)))
  ∧ (∀ (s : State) (e : CounterEvent) (d : Nat) (a : Attributes) (k : Fin 8) (c : CounterConfig),
     c = (s.counter k).config →
     ((c.mode ≠ .count ∨ c.event ≠ e ∨ ¬ c.selects a) → s.offerCounter e d a k = s)
     ∧ (c.freezeEnable → s.emu.freeze → s.offerCounter e d a k = s)
     ∧ (c.mode = .count → c.event = e → c.selects a → (c.freezeEnable = false ∨ s.emu.freeze = false) →
       ((s.offerCounter e d a k).counter k).value.toNat = ((s.counter k).value.toNat + d) % 2 ^ 48
       ∧ ((s.offerCounter e d a k).counter k).config = c
       ∧ (∀ v : Long, c.trigger = some v → (s.counter k).value.toNat < v.toNat →
           v.toNat ≤ ((s.counter k).value.toNat + d) % 2 ^ 48 →
           (s.offerCounter e d a k).emu.freeze = true ∧ ((s.offerCounter e d a k).deviceStatus 7).set)
       ∧ (c.trigger = none → s.offerCounter e d a k
           = s.setCounter k { s.counter k with value := (s.counter k).value + BitVec.ofNat 48 d })))

/-- EVENT_ACK clears the statuses that its items name, with their captures, keeps every mask and every other status, and
answers all statuses and masks (9.2). -/
def Obligations.EventsAcknowledged : Prop :=
  ∀ (s : State) (f : Sender) (items : List (Byte × Byte)), s.quiet → items.length ≤ 17 →
    ((∀ x ∈ items, x.1.toNat < 16 ∨ x.1 = 255) →
      ∃ t : State, exec (.eventAck f items) s = .next t
        ∧ (∀ (st : Fin 16) (n : Fin 8), t.stationStatus st n
            = if ∃ x ∈ items, x.1.toNat = st ∧ x.2.getLsbD n then ⟨false, (s.stationStatus st n).mask, {}⟩
              else s.stationStatus st n)
        ∧ (∀ n : Fin 8, t.deviceStatus n
            = if ∃ x ∈ items, x.1 = 255 ∧ x.2.getLsbD n then ⟨false, (s.deviceStatus n).mask, {}⟩
              else s.deviceStatus n)
        ∧ t.emu.counters = s.emu.counters ∧ t.emu.freeze = s.emu.freeze
        ∧ t.issued = [.mgmtResponse f.node f.seq 22 .ok t.allStatusBytes] ∧ s.keeps t [.emu, .lif])
    ∧ ((∃ x ∈ items, 16 ≤ x.1.toNat ∧ x.1 ≠ 255) →
      exec (.eventAck f items) s = .next (s.begin.answered f 22 .range []))

/-- EVENT_MASK gives each group instance the masks of the last item that names it, keeps its statuses and captures and every
other group; an item of one group instance reports, in event number order, each status that is set and whose mask it takes
from set to clear, ahead of the answer; an item that names no group has the whole request refused RANGE (9.2). -/
def Obligations.EventsMasked : Prop :=
  ∀ (s : State) (f : Sender), s.quiet →
    (∀ items : List (Byte × Byte), items.length ≤ 17 →
      ((∀ x ∈ items, x.1.toNat < 16 ∨ x.1 = 255) →
        ∃ t : State, exec (.eventMask f items) s = .next t
          ∧ (∀ (st : Fin 16) (n : Fin 8), t.stationStatus st n
              = match (items.filter (fun x => x.1.toNat == (st : Nat))).getLast? with
                | none => s.stationStatus st n
                | some x => { s.stationStatus st n with mask := x.2.getLsbD n })
          ∧ (∀ n : Fin 8, t.deviceStatus n
              = match (items.filter (fun x => x.1 == 255)).getLast? with
                | none => s.deviceStatus n
                | some x => { s.deviceStatus n with mask := x.2.getLsbD n })
          ∧ t.emu.counters = s.emu.counters ∧ t.emu.freeze = s.emu.freeze
          ∧ t.issued.getLast? = some (.mgmtResponse f.node f.seq 23 .ok []) ∧ s.keeps t [.emu, .lif])
      ∧ ((∃ x ∈ items, 16 ≤ x.1.toNat ∧ x.1 ≠ 255) →
        exec (.eventMask f items) s = .next (s.begin.answered f 23 .range [])))
    ∧ ∀ (g m : Byte),
      (∀ st : Fin 16, g.toNat = st →
        ∃ t : State, exec (.eventMask f [(g, m)]) s = .next t
          ∧ t.issued = (List.finRange 8).filterMap (fun n =>
                if (s.stationStatus st n).set ∧ (s.stationStatus st n).mask ∧ m.getLsbD n = false ∧ s.mge.reportNode ≠ 0
                then some (.eventReport s.mge.reportNode false n (s.stationStatus st n).capture) else none)
              ++ [.mgmtResponse f.node f.seq 23 .ok []])
      ∧ (g = 255 →
        ∃ t : State, exec (.eventMask f [(g, m)]) s = .next t
          ∧ t.issued = (List.finRange 8).filterMap (fun n =>
                if (s.deviceStatus n).set ∧ (s.deviceStatus n).mask ∧ m.getLsbD n = false ∧ s.mge.reportNode ≠ 0
                then some (.eventReport s.mge.reportNode true n (s.deviceStatus n).capture) else none)
              ++ [.mgmtResponse f.node f.seq 23 .ok []])

/-- COUNTER_SET writes one counter's value and configuration and clears its last condition; COUNTER_READ changes nothing and
answers one counter or all; COUNTER_FREEZE and COUNTER_UNFREEZE write the freeze flag (9.4, 9.5). The last two clauses spell
out COUNTER_SET's ranges and its configuration (9.5, 11.5). The answers' bytes are put together as log entry 12 says. -/
def Obligations.CountersWritten : Prop :=
  (∀ (s : State) (f : Sender), s.quiet →
    (∀ (x : CounterFields) (k : Fin 8) (c : CounterConfig), x.counter.toNat = k → counterConfig? x = some c →
      exec (.counterSet f x) s = .next ((s.begin.setCounter k ⟨x.value, c, false⟩).answered f 24 .ok []))
    ∧ (∀ x : CounterFields, (8 ≤ x.counter.toNat ∨ counterConfig? x = none) →
      exec (.counterSet f x) s = .next (s.begin.answered f 24 .range []))
    ∧ (∀ (b : Byte) (k : Fin 8), b.toNat = k →
      exec (.counterRead f b) s = .next (s.begin.answered f 25 .ok
        (u48 (s.counter k).value.toNat ++ counterConfigBytes (s.counter k).config ++ flagByte s.emu.freeze)))
    ∧ exec (.counterRead f 255) s = .next (s.begin.answered f 25 .ok
        (s.emu.counters.toList.flatMap (fun x => u48 x.value.toNat) ++ flagByte s.emu.freeze))
    ∧ (∀ b : Byte, 8 ≤ b.toNat → b ≠ 255 →
      exec (.counterRead f b) s = .next (s.begin.answered f 25 .range []))
    ∧ exec (.counterFreeze f) s = .next
        (({ s.begin with emu := { s.emu with freeze := true } } : State).answered f 26 .ok [])
    ∧ exec (.counterUnfreeze f) s = .next
        (({ s.begin with emu := { s.emu with freeze := false } } : State).answered f 27 .ok []))
  ∧ (∀ x : CounterFields, counterConfig? x ≠ none ↔
      (x.event.toNat ≤ 15 ∧ (x.station.toNat < 16 ∨ x.station = 255) ∧ (x.robot.toNat < 64 ∨ x.robot = 255)
      ∧ (x.style.toNat < 64 ∨ x.style = 255) ∧ x.mode.toNat < 4
      ∧ (x.event = 0 ∨ (1 ≤ x.event.toNat ∧ x.event.toNat ≤ 12 ∧ x.mode = 0) ∨ (13 ≤ x.event.toNat ∧ x.mode ≠ 0))
      ∧ x.invert.toNat ≤ 1 ∧ x.freezeEnable.toNat ≤ 1 ∧ x.triggerPresent.toNat ≤ 1
      ∧ (x.triggerPresent = 1 → x.trigger ≠ 0)))
  ∧ ∀ (x : CounterFields) (c : CounterConfig), counterConfig? x = some c →
      ([.none, .arrivalsAccepted, .arrivalsRefused, .allocSkips, .offers, .done, .short, .rejects, .expiries, .dressCycles,
        .stale, .clampedReports, .weldsReported, .trackerInUse, .queueDepth, .supplyWaiters] : List CounterEvent)[x.event.toNat]?
        = some c.event
      ∧ c.station.map (·.val) = (if x.station = 255 then none else some x.station.toNat)
      ∧ c.robot.map (·.val) = (if x.robot = 255 then none else some x.robot.toNat)
      ∧ c.style.map (·.val) = (if x.style = 255 then none else some x.style.toNat)
      ∧ ([.count, .level, .threshold, .edge] : List CounterMode)[x.mode.toNat]? = some c.mode
      ∧ c.threshold = x.threshold.toNat ∧ c.invert = decide (x.invert = 1) ∧ c.freezeEnable = decide (x.freezeEnable = 1)
      ∧ c.trigger = if x.triggerPresent = 1 then some x.trigger else none

/-- A tick at which nothing is due: every running timer has one tick less to come, and a counter without freeze-enable adds
its sampled level by its mode (9.3 and the timer rules of 2.5, 4.6, 6.3, 7.4). The timers as ticks to come are
the model's (log entry 8). -/
def Obligations.Tick : Prop :=
  ∀ s : State, s.ready → s.settled → s.nothingDue →
    ∃ t : State, exec .tick s = .next t
      ∧ (∀ st : Fin 16, t.station st
          = { s.station st with
              seatTimer := (s.station st).seatTimer.map (· - 1), cycleTimer := (s.station st).cycleTimer.map (· - 1) })
      ∧ (∀ i : Fin 128, t.place i = ⟨(s.place i).issue, (s.entry? i).map (fun e =>
          { e with selectTimer := e.selectTimer.map (· - 1), holdTimer := e.holdTimer.map (· - 1) })⟩)
      ∧ t.mge = { s.mge with job := s.mge.job.map (fun j => { j with ticks := j.ticks - 1 }) }
      ∧ t.dtr.lists = s.dtr.lists ∧ s.keeps t [.stc, .dtr, .mge, .emu, .lif]
      ∧ ∀ (k : Fin 8) (x : Counter), s.counter k = x → x.config.event.isLevel → x.config.freezeEnable = false →
        (x.config.mode = .level → (t.counter k).value = x.value + BitVec.ofNat 48 (s.level x.config))
        ∧ (x.config.mode = .threshold → (t.counter k).value
            = x.value + if x.config.condition (s.level x.config) then 1 else 0)
        ∧ (x.config.mode = .edge →
            (t.counter k).value = x.value + (if x.config.condition (s.level x.config) ∧ x.last = false then 1 else 0)
            ∧ (t.counter k).last = x.config.condition (s.level x.config))

/-! ## Management (chapter 10) -/

/-- A request handed to the MGE waits behind others, and at a full queue is answered BUSY, sets MGMT_BUSY and leaves no trace in
the queue; a MGMT_REQUEST of each request code, action and form does what the command for it does, with the fields at the
places of their layouts, and one with an unknown code or form, or a payload whose length does not fit, is answered
BAD_REQUEST (10.4, 11.5, 11.6). That the request commands are MGMT_REQUESTs is the model's choice (log entry 4). -/
def Obligations.RequestTaken : Prop :=
  (∀ (s : State) (f : Sender) (p : List Byte), s.ready → s.settled →
     (4 ≤ s.mge.queue.length →
       ∃ t : State, exec (.mgmtRequest f p) s = .next t
         ∧ t.issued.head? = some (.mgmtResponse f.node f.seq (requestCode (readRequest p)) .busy [])
         ∧ (t.deviceStatus 6).set ∧ s.keeps t [.lif, .emu])
     ∧ (1 ≤ s.mge.queue.length → s.mge.queue.length < 4 →
       exec (.mgmtRequest f p) s
         = .next { s.begin with mge := { s.mge with queue := s.mge.queue ++ [⟨f, readRequest p⟩] } }))
  ∧ (∀ (s : State) (f : Sender) (a b c d : Byte),
     exec (.mgmtRequest f [1, a, b]) s = exec (.configLine f a b) s
     ∧ exec (.mgmtRequest f [4, a, b, c, d]) s = exec (.configGroup f a b (half c d)) s
     ∧ exec (.mgmtRequest f [6, a]) s = exec (.styleErase f a) s
     ∧ exec (.mgmtRequest f [8, a, b, c]) s = exec (.programErase f a b c) s
     ∧ exec (.mgmtRequest f [9]) s = exec (.tableCopy f) s
     ∧ exec (.mgmtRequest f [10]) s = exec (.tableClear f) s
     ∧ exec (.mgmtRequest f [11]) s = exec (.tableCommit f) s
     ∧ exec (.mgmtRequest f [12, a]) s = exec (.stationEnable f a) s
     ∧ exec (.mgmtRequest f [13, a]) s = exec (.stationDisable f a) s
     ∧ exec (.mgmtRequest f [14, a]) s = exec (.robotEnable f a) s
     ∧ exec (.mgmtRequest f [15, a]) s = exec (.robotDisable f a) s
     ∧ exec (.mgmtRequest f [16, a, 0]) s = exec (.resolveRetry f a) s
     ∧ exec (.mgmtRequest f [16, a, 1]) s = exec (.resolveAccept f a) s
     ∧ exec (.mgmtRequest f [16, a, 2]) s = exec (.resolveAbort f a) s
     ∧ exec (.mgmtRequest f [17, a, b]) s = exec (.forceProgram f a b) s
     ∧ exec (.mgmtRequest f [18, a, b, c]) s = exec (.wearSet f a (half b c)) s
     ∧ exec (.mgmtRequest f [19, a, b, c]) s = exec (.outputForce f a b c) s
     ∧ exec (.mgmtRequest f [20, a, b]) s = exec (.outputRelease f a b) s
     ∧ exec (.mgmtRequest f [21, a, b]) s = exec (.outputUnprotect f a b) s
     ∧ exec (.mgmtRequest f [25, a]) s = exec (.counterRead f a) s
     ∧ exec (.mgmtRequest f [26]) s = exec (.counterFreeze f) s
     ∧ exec (.mgmtRequest f [27]) s = exec (.counterUnfreeze f) s
     ∧ exec (.mgmtRequest f [28, 0, a]) s = exec (.queryStation f a) s
     ∧ exec (.mgmtRequest f [28, 1, a, b]) s = exec (.querySlot f a b) s
     ∧ exec (.mgmtRequest f [28, 2, a]) s = exec (.queryEntry f a) s
     ∧ exec (.mgmtRequest f [28, 3, a]) s = exec (.queryRobot f a) s
     ∧ exec (.mgmtRequest f [28, 4, a]) s = exec (.queryGroup f a) s
     ∧ exec (.mgmtRequest f [28, 5, a, b]) s = exec (.queryStyleEntry f a b) s
     ∧ exec (.mgmtRequest f [28, 6, a, b, c, d]) s = exec (.queryProgramRecord f a b c d) s
     ∧ exec (.mgmtRequest f [28, 7]) s = exec (.queryBanks f) s
     ∧ exec (.mgmtRequest f [28, 8]) s = exec (.queryQueue f) s
     ∧ exec (.mgmtRequest f [28, 9]) s = exec (.queryDevice f) s
     ∧ exec (.mgmtRequest f [29]) s = exec (.deviceReset f) s
     ∧ (∀ p : List Byte,
       (p.length = 17 → exec (.mgmtRequest f (2 :: p)) s = exec (.configStation f
         ⟨byteAt p 0, byteAt p 1, byteAt p 2, wordAt p 3, halfAt p 7, halfAt p 9, halfAt p 11, byteAt p 13, byteAt p 14,
           byteAt p 15, byteAt p 16⟩) s)
       ∧ (p.length = 10 → exec (.mgmtRequest f (3 :: p)) s = exec (.configRobot f
         ⟨byteAt p 0, byteAt p 1, byteAt p 2, byteAt p 3, byteAt p 4, byteAt p 5, halfAt p 6, halfAt p 8⟩) s)
       ∧ (p.length = 12 → exec (.mgmtRequest f (5 :: p)) s = exec (.styleWrite f
         ⟨byteAt p 0, wordAt p 1, wordAt p 5, byteAt p 9, halfAt p 10⟩) s)
       ∧ (p.length = 19 → exec (.mgmtRequest f (7 :: p)) s = exec (.programWrite f
         ⟨byteAt p 0, byteAt p 1, byteAt p 2, byteAt p 3, halfAt p 4, byteAt p 6, byteAt p 7, byteAt p 8, byteAt p 9,
           byteAt p 10, #v[(byteAt p 11, byteAt p 12), (byteAt p 13, byteAt p 14), (byteAt p 15, byteAt p 16),
             (byteAt p 17, byteAt p 18)]⟩) s)
       ∧ (p.length = 23 → exec (.mgmtRequest f (24 :: p)) s = exec (.counterSet f
         ⟨byteAt p 0, longAt p 1, byteAt p 7, byteAt p 8, byteAt p 9, byteAt p 10, byteAt p 11, halfAt p 12, byteAt p 14,
           byteAt p 15, byteAt p 16, longAt p 17⟩) s))
     ∧ (∀ items : List (Byte × Byte), items.length ≤ 17 → ∀ p : List Byte,
       p = BitVec.ofNat 8 items.length :: items.flatMap (fun x => [x.1, x.2]) →
       exec (.mgmtRequest f (22 :: p)) s = exec (.eventAck f items) s
       ∧ exec (.mgmtRequest f (23 :: p)) s = exec (.eventMask f items) s)
     ∧ (∀ p : List Byte, (a = 0 ∨ 29 < a.toNat) → exec (.mgmtRequest f (a :: p)) s = exec (.badRequest f a) s)
     ∧ (∀ (p : List Byte) (k n : Nat),
       (k, n) ∈ [(1, 2), (2, 17), (3, 10), (4, 4), (5, 12), (6, 1), (7, 19), (8, 3), (9, 0), (10, 0), (11, 0), (12, 1), (13, 1),
         (14, 1), (15, 1), (16, 2), (17, 2), (18, 3), (19, 3), (20, 2), (21, 2), (24, 23), (25, 1), (26, 0), (27, 0),
         (29, 0)] →
       a.toNat = k → p.length ≠ n → exec (.mgmtRequest f (a :: p)) s = exec (.badRequest f a) s)
     ∧ (∀ p : List Byte, (a = 22 ∨ a = 23) → (p = [] ∨ 17 < (byteAt p 0).toNat ∨ p.length ≠ 1 + 2 * (byteAt p 0).toNat) →
       exec (.mgmtRequest f (a :: p)) s = exec (.badRequest f a) s)
     ∧ (∀ p : List Byte, (p = [] ∨ 9 < (byteAt p 0).toNat ∨ ∃ k n : Nat,
         (k, n) ∈ [(0, 2), (1, 3), (2, 2), (3, 2), (4, 2), (5, 3), (6, 5), (7, 1), (8, 1), (9, 1)] ∧ (byteAt p 0).toNat = k
         ∧ p.length ≠ n) →
       exec (.mgmtRequest f (28 :: p)) s = exec (.badRequest f 28) s)
     ∧ (s.quiet → exec (.badRequest f a) s = .next (s.begin.answered f a .badRequest [])))

/-- The ten forms of QUERY change nothing, run no pass and send their answer alone, and what each form answers, with the
selectors refused RANGE and an absent record NOT_FOUND (2.7, 3.5, 4.11, 5.6, 6.5, 7.10, 8.5, 10.5). The order and widths of
the items are put together from the rules, and the bytes of an EMPTY slot, of a NONE position and of an absent item are as
log entry 12 says. -/
def Obligations.QueriesAnswered : Prop :=
  (∀ (s : State) (f : Sender) (a b c d : Byte), s.quiet →
     exec (.queryStation f a) s = .next (s.queryAnswered f (.station a))
     ∧ exec (.querySlot f a b) s = .next (s.queryAnswered f (.slot a b))
     ∧ exec (.queryEntry f a) s = .next (s.queryAnswered f (.entry a))
     ∧ exec (.queryRobot f a) s = .next (s.queryAnswered f (.robot a))
     ∧ exec (.queryGroup f a) s = .next (s.queryAnswered f (.group a))
     ∧ exec (.queryStyleEntry f a b) s = .next (s.queryAnswered f (.styleEntry a b))
     ∧ exec (.queryProgramRecord f a b c d) s = .next (s.queryAnswered f (.programRecord a b c d))
     ∧ exec (.queryBanks f) s = .next (s.queryAnswered f .banks)
     ∧ exec (.queryQueue f) s = .next (s.queryAnswered f .queue)
     ∧ exec (.queryDevice f) s = .next (s.queryAnswered f .device))
  ∧ (∀ (s : State) (a b c d : Byte),
     (∀ i : Fin 128, a.toNat = i → s.entry? i = none → s.answerQuery (.entry a) = (.ok, [0, (s.place i).issue]))
     ∧ (128 ≤ a.toNat → s.answerQuery (.entry a) = (.range, []))
     ∧ (16 ≤ a.toNat → s.answerQuery (.station a) = (.range, []) ∧ s.answerQuery (.slot a b) = (.range, []))
     ∧ (64 ≤ a.toNat → s.answerQuery (.robot a) = (.range, []))
     ∧ ((a = 0 ∨ 8 < a.toNat) → s.answerQuery (.group a) = (.range, []))
     ∧ (2 ≤ b.toNat → s.answerQuery (.slot a b) = (.range, []))
     ∧ ((2 ≤ a.toNat ∨ 128 ≤ b.toNat) → s.answerQuery (.styleEntry a b) = (.range, []))
     ∧ ((2 ≤ a.toNat ∨ 16 ≤ b.toNat ∨ 8 ≤ c.toNat ∨ 64 ≤ d.toNat) →
         s.answerQuery (.programRecord a b c d) = (.range, []))
     ∧ (∀ (id : BankId) (st : Fin 16) (p : Fin 8) (sy : Fin 64), (a = 0 ∧ id = .a) ∨ (a = 1 ∧ id = .b) → b.toNat = st →
         c.toNat = p → d.toNat = sy → (s.bank id).record? (programKey st p sy) = none →
         s.answerQuery (.programRecord a b c d) = (.notFound, []))
     ∧ (s.lif.node?.isSome → s.mge.queue.length ≤ 4 → s.answerQuery .device
         = (.ok, [s.lif.nodeStraps, s.lif.typeValue.extractLsb' 8 8, s.lif.typeValue.extractLsb' 0 8, s.mge.lineNode,
             s.mge.reportNode, BitVec.ofNat 8 s.mge.queue.length, if s.mge.job = none then 0 else 1,
             if s.lif.p1.up then 1 else 0, if s.lif.p2.up then 1 else 0])))
  ∧ ((∀ n : Nat, n < 65536 → ∃ w : Half, w.toNat = n ∧ u16 n = [w.extractLsb' 8 8, w.extractLsb' 0 8])
     ∧ (∀ w : Word, wordBytes w = [w.extractLsb' 24 8, w.extractLsb' 16 8, w.extractLsb' 8 8, w.extractLsb' 0 8])
     ∧ (∀ (x : ReasonSet) (lost : Bool), ∃ y : Byte, reasonBytes x lost = [if lost then 1 else 0, y]
         ∧ (List.range 8).map (fun n => y.getLsbD n)
           = [x.rejected, x.expired, x.robotFault, x.supplyHold, x.wearLimit, x.short, x.bypassed, x.noStyle])
     ∧ (slotHead none = [0, 0, 0, 0, 0] ∧ querySlotBytes none = List.replicate 86 0
         ∧ positionBytes none = List.replicate 9 0 ∧ maintBytes none = List.replicate 6 0)
     ∧ (∀ c : Slot, c.state ≠ .complete →
         slotHead (some c) = (codeIn [.announced, .seating, .seated, .released] c.state + 1) :: wordBytes c.body
         ∧ querySlotBytes (some c)
           = [codeIn [.announced, .seating, .seated, .released] c.state + 1] ++ wordBytes c.body ++ wordBytes c.build
             ++ [match c.style with | none => 255 | some sy => BitVec.ofNat 8 sy, codeIn [.a, .b] c.stamp]
             ++ reasonBytes c.reasons false ++ [if c.abortMark then 1 else 0] ++ c.positions.toList.flatMap positionBytes)
     ∧ (∀ y : Position, positionBytes (some y)
         = [y.program] ++ u16 y.expected
           ++ [codeIn [.pending, .done, .short, .excess, .robotFault, .rejected, .expired, .wearLimit, .supplyHold,
               .aborted, .bypassed, .accepted] y.outcome]
           ++ (match y.reported with | none => [0, 0, 0] | some n => 1 :: u16 n) ++ u16 y.shortfall)
     ∧ ∀ (o : EntryOutcome) (n p : Byte) (count : Option Nat),
         (o, n) ∈ [(.done, 1), (.short, 2), (.excess, 3), (.robotFault, 4), (.rejected, 5), (.expired, 6), (.wearLimit, 7),
           (.supplyHold, 8), (.aborted, 9), (.bypassed, 10)] →
         maintBytes (some ⟨o, p, count⟩) = [n, 1, p] ++ match count with | none => [0, 0, 0] | some d => 1 :: u16 d)
  ∧ ∀ (s : State) (a b c d : Byte),
     (∀ st : Fin 16, a.toNat = st → ∀ x : Station, s.station st = x → ∀ p : Panel, s.panel st = p →
       s.answerQuery (.station a) = (.ok,
         [codeIn [.rl, .rc, .ll, .lc] x.config.shiftKind, BitVec.ofNat 8 x.config.shiftCount] ++ wordBytes x.config.mask
         ++ u16 x.config.seatDelay ++ u16 x.config.cycleLimit ++ u16 x.config.selectTimeout
         ++ [codeIn [.hold, .pass] x.config.noStyle, codeIn [.hold, .pass] x.config.short,
             codeIn [.none, .rising, .falling, .both] x.config.seatEdge,
             codeIn [.none, .rising, .falling, .both] x.config.departureEdge, codeIn [.disabled, .running, .held] x.state]
         ++ reasonBytes (match x.current with | none => {} | some c => c.reasons) x.bodyLost
         ++ [if x.seatTimer.isSome then 1 else 0, if x.cycleTimer.isSome then 1 else 0, if p.manual then 1 else 0]
         ++ slotHead x.current ++ slotHead x.next
         ++ [if p.present then 1 else 0, if p.clamped then 1 else 0, if p.manual then 1 else 0]
         ++ (List.finRange 4).flatMap (fun n =>
             [if s.computedBit st n then 1 else 0, if p.bits[n].forced then 1 else 0, if p.bits[n].value then 1 else 0,
               if p.bits[n].protect then 1 else 0, if s.effectiveBit st n then 1 else 0])
         ++ [s.piu.reported[st]])
       ∧ s.answerQuery (.slot a 0) = (.ok, querySlotBytes x.current)
       ∧ s.answerQuery (.slot a 1) = (.ok, querySlotBytes x.next))
     ∧ (∀ i : Fin 128, a.toNat = i → ∀ e : Entry, s.entry? i = some e → s.answerQuery (.entry a) = (.ok,
         [1, BitVec.ofNat 8 i, (s.place i).issue, codeIn [.weld, .dress, .maint] e.kind, BitVec.ofNat 8 e.robot,
           BitVec.ofNat 8 e.station] ++ wordBytes e.body ++ [BitVec.ofNat 8 e.position, e.program] ++ u16 e.expected
         ++ [codeIn [.queued, .offered, .selected, .welding] e.state, if e.reoffered then 1 else 0,
             if e.selectTimer.isSome then 1 else 0, codeIn [.none, .waiting, .holding] e.supply]))
     ∧ (∀ r : Fin 64, a.toNat = r → ∀ x : Robot, s.robot r = x → s.answerQuery (.robot a) = (.ok,
         [if x.configured then 1 else 0, x.node, BitVec.ofNat 8 x.station, BitVec.ofNat 8 x.position, BitVec.ofNat 8 x.group,
           x.dress] ++ u16 x.interval ++ u16 x.limit ++ [codeIn [.disabled, .idle, .busy, .faulted] x.state] ++ u16 x.wear
         ++ maintBytes x.maint ++ BitVec.ofNat 8 (s.list r).length :: (s.list r).map (fun (i : Fin 128) => BitVec.ofNat 8 i.val)))
     ∧ (∀ g : Fin 8, a.toNat = g + 1 → ∀ x : Group, s.group g = x → ∀ (members : List (Fin 64)) (holders waiters : List (Fin 128)),
         members = (List.finRange 64).filter (fun r => (s.robot r).configured && (s.robot r).group.val == g.val + 1) →
         holders = s.byRobot (s.holders g) → waiters = s.byRobot (s.waiters g) →
         (∀ i, i ∈ holders ↔ i ∈ s.holders g) ∧ (∀ i, i ∈ waiters ↔ i ∈ s.waiters g)
         ∧ holders.Pairwise (fun i j => s.robotNumber i ≤ s.robotNumber j)
         ∧ waiters.Pairwise (fun i j => s.robotNumber i ≤ s.robotNumber j)
         ∧ s.answerQuery (.group a) = (.ok,
           [BitVec.ofNat 8 x.capacity] ++ u16 x.holdLimit
           ++ [BitVec.ofNat 8 (x.capacity - (s.holders g).length),
               match x.pointer with | none => 255 | some r => BitVec.ofNat 8 r]
           ++ BitVec.ofNat 8 members.length :: members.map (fun (r : Fin 64) => BitVec.ofNat 8 r.val)
           ++ BitVec.ofNat 8 holders.length :: holders.flatMap (fun i =>
               [BitVec.ofNat 8 (s.robotNumber i), BitVec.ofNat 8 i.val])
           ++ BitVec.ofNat 8 waiters.length :: waiters.flatMap (fun i =>
               [BitVec.ofNat 8 (s.robotNumber i), BitVec.ofNat 8 i.val])))
     ∧ (∀ id : BankId, (a = 0 ∧ id = .a) ∨ (a = 1 ∧ id = .b) →
         (∀ i : Fin 128, b.toNat = i → ∀ x : StylePlace, (s.bank id).styles[i] = x →
           s.answerQuery (.styleEntry a b) = (.ok, [if x.valid then 1 else 0] ++ wordBytes x.value ++ wordBytes x.care
             ++ [BitVec.ofNat 8 x.style, x.stations.extractLsb' 8 8, x.stations.extractLsb' 0 8]))
         ∧ ∀ (st : Fin 16) (p : Fin 8) (sy : Fin 64), b.toNat = st → c.toNat = p → d.toNat = sy →
           ∀ x : ProgramRecord, (s.bank id).record? (programKey st p sy) = some x →
           s.answerQuery (.programRecord a b c d) = (.ok, [x.program] ++ u16 x.expected
             ++ (match x.overlay with
               | none => [0, 0, 0, 0]
               | some o => [1, codeIn [.rl, .rc, .ll, .lc] o.kind, BitVec.ofNat 8 o.count, o.mask])
             ++ BitVec.ofNat 8 x.adders.length :: x.adders.flatMap (fun y =>
                 [BitVec.ofNat 8 y.bit, BitVec.ofInt 8 y.delta])))
     ∧ s.answerQuery .banks = (.ok, [BankId.a, BankId.b].flatMap (fun id =>
         [if s.tbs.active = id then 0 else if s.tbs.draining then 2 else 1,
           BitVec.ofNat 8 ((s.bank id).styles.toList.countP (·.valid))] ++ u16 (s.bank id).programs.length
         ++ [BitVec.ofNat 8 (s.bank id).stamps]))
     ∧ s.answerQuery .queue = (.ok, BitVec.ofNat 8 s.arq.queue.length :: s.arq.queue.flatMap (fun x =>
         [BitVec.ofNat 8 x.station] ++ wordBytes x.body ++ wordBytes x.build
         ++ [codeIn [.a, .b] x.stamp, BitVec.ofNat 8 x.skips, if x.starved then 1 else 0]))

/-- DEVICE_RESET drops all work in progress, makes every station and robot DISABLED, keeps what was loaded, and answers with
the number of entries that were in use and the arrivals dropped (10.6). -/
def Obligations.DeviceReset : Prop :=
  ∀ (s : State) (f : Sender), s.quiet →
    ∃ t : State, exec (.deviceReset f) s = .next t
      ∧ (∀ i : Fin 128, t.place i = ⟨(s.place i).issue, none⟩) ∧ (∀ r : Fin 64, t.list r = [])
      ∧ (∀ g : Fin 8, t.group g = ⟨(s.group g).capacity, (s.group g).holdLimit, none⟩)
      ∧ (∀ r : Fin 64, t.robot r = { s.robot r with state := .disabled })
      ∧ (∀ st : Fin 16, t.station st = ⟨(s.station st).config, false, false, none, none, none, none⟩)
      ∧ t.arq.queue = []
      ∧ (∀ id, t.bank id = { s.bank id with stamps := 0 }) ∧ t.tbs.active = s.tbs.active ∧ t.tbs.draining = false
      ∧ (∀ st : Fin 16, t.panel st = ⟨false, false, false, Vector.replicate 4 ⟨false, false, true⟩⟩)
      ∧ (∀ (st : Fin 16) (n : Fin 8), t.stationStatus st n = ⟨false, (s.stationStatus st n).mask, {}⟩)
      ∧ (∀ n : Fin 8, t.deviceStatus n = ⟨false, (s.deviceStatus n).mask, {}⟩)
      ∧ (∀ k : Fin 8, t.counter k = ⟨0, (s.counter k).config, false⟩) ∧ t.emu.freeze = false
      ∧ t.mge = s.mge ∧ t.pending = s.pending ∧ t.piu.reported = t.image
      ∧ (∀ (i : Fin 128) (e : Entry), s.entry? i = some e → e.state ≠ .queued →
          .dispatchCancel (s.robot e.robot).node (s.tag i) ∈ t.issued)
      ∧ t.issued.getLast? = some (.mgmtResponse f.node f.seq 29 .ok
          (u8 (128 - s.freeEntries) ++ listBytes (fun a => u8 a.station ++ wordBytes a.body) s.arq.queue))

/-! ## The link (chapter 10) -/

/-- POWER_ON gives every record its power-on value and reads the straps; while the reset input is asserted every command but
POWER_ON leaves the part as it is; and a part without a node takes no telegram and no request in (10.1, 10.7). The waiting
commands are the model's own; that an asserted reset input and a missing node make the commands inert is read from those
sections (log entries 7 and 16). -/
def Obligations.PowerAndReset : Prop :=
  (∀ (s : State) (n : Byte) (ty : Half) (u1 u2 : Bool),
    exec (.powerOn n ty u1 u2) s = .next
      { State.reset with
        lif := ⟨false, n, ty, ⟨u1, none, [], [], false⟩, ⟨u2, none, [], [], false⟩⟩, pending := s.pending })
  ∧ (∀ l : Lif, l.node? = if 1 ≤ l.nodeStraps.toNat ∧ l.nodeStraps.toNat ≤ 254 then some l.nodeStraps else none)
  ∧ (∀ s : State, exec .resetInputAssert s = .next { s with lif := { s.lif with inReset := true }, issued := [] })
  ∧ (∀ (s : State) (c : Instr), s.lif.inReset → c ≠ .resetInputAssert → (∀ n ty u1 u2, c ≠ .powerOn n ty u1 u2) →
    exec c s = .next s)
  ∧ ∀ (s : State) (c : Instr), s.lif.node? = none → c.source?.isSome → exec c s = .next s

/-- A received frame leaves by the other port where that is up, whatever it carries; one that is no telegram of the part's type,
and a telegram of the part's type that is addressed to another node and is no ownership conflict, does nothing else; and the
form checks of a telegram for the part, in their order, and what each failure does (10.1, 10.2). A frame without a conflict that
passes the checks is in the statement FrameHandedOn, and one that is a conflict in OwnershipConflict. The forwarding store is
the model's (log entry 13), and a header byte that a short frame does not have reads as 0 (log entry 25). -/
def Obligations.FrameChecked : Prop :=
  (∀ (s : State) (f : Frame), s.lif.inReset = false → s.settled →
     (f.fcsOk = false ∨ f.frameType ≠ s.lif.typeValue ∨ s.lif.node? = none) →
     exec (.frameReceive .p1 f) s = .next { s.begin with
       lif := { s.lif with p2 := { s.lif.p2 with
         forward := if s.lif.p2.up then s.lif.p2.forward ++ [f] else s.lif.p2.forward } } }
     ∧ exec (.frameReceive .p2 f) s = .next { s.begin with
       lif := { s.lif with p1 := { s.lif.p1 with
         forward := if s.lif.p1.up then s.lif.p1.forward ++ [f] else s.lif.p1.forward } } })
  ∧ (∀ (s : State) (f : Frame),
     s.forwardFrame .p1 f = { s with lif := { s.lif with p2 := { s.lif.p2 with
       forward := if s.lif.p2.up then s.lif.p2.forward ++ [f] else s.lif.p2.forward } } }
     ∧ s.forwardFrame .p2 f = { s with lif := { s.lif with p1 := { s.lif.p1 with
       forward := if s.lif.p1.up then s.lif.p1.forward ++ [f] else s.lif.p1.forward } } })
  ∧ (∀ (s : State) (id : PortId) (f : Frame) (n : Byte), s.lif.inReset = false → s.settled → s.lif.node? = some n →
     f.fcsOk → f.frameType = s.lif.typeValue → (∀ st : Fin 16, ¬ s.conflictOver n f st) →
     (f.destination ≠ n → f.destination ≠ 255 → exec (.frameReceive id f) s = .next (s.begin.forwardFrame id f))
     ∧ ((f.destination = n ∨ f.destination = 255) →
       (f.source = n → exec (.frameReceive id f) s = .next (s.begin.forwardFrame id f))
       ∧ (f.source ≠ n →
         (f.source = 0 ∨ f.source = 255 ∨ byteAt f.bytes 0 ≠ 1
           ∨ f.kind ∉ [0x01, 0x02, 0x03, 0x04, 0x05, 0x11, 0x12, 0x13, 0x14, 0x21, 0x22, 0x23, 0x24, 0x25, 0x31, 0x32, 0x33]
           ∨ (f.kind ∈ [0x03, 0x04, 0x05, 0x11, 0x12, 0x13, 0x14, 0x32, 0x33] ∧ f.destination = n)
           ∨ (f.kind = 0x01 ∧ f.payloadLength ≠ 9) ∨ (f.kind = 0x02 ∧ f.payloadLength ≠ 16)
           ∨ (f.kind = 0x21 ∧ f.payloadLength ≠ 5) ∨ (f.kind ∈ [0x22, 0x23, 0x24] ∧ f.payloadLength ≠ 2)
           ∨ (f.kind = 0x25 ∧ f.payloadLength ≠ 5)
           ∨ (f.kind = 0x31 ∧ (f.payloadLength = 0 ∨ 36 < f.payloadLength))
           ∨ (f.kind ∈ [0x01, 0x02, 0x21, 0x22, 0x23, 0x24, 0x25, 0x31]
               ∧ f.bytes.length < 8 + f.payloadLength)) →
         ∃ t : State, exec (.frameReceive id f) s = .next t ∧ (t.deviceStatus 5).set
           ∧ (s.begin.forwardFrame id f).keeps t [.emu, .lif])
       ∧ (f.source ≠ n → f.source ≠ 0 → f.source ≠ 255 → byteAt f.bytes 0 = 1 →
         f.kind ∈ [0x03, 0x04, 0x05, 0x11, 0x12, 0x13, 0x14, 0x32, 0x33] → f.destination ≠ n →
         exec (.frameReceive id f) s = .next (s.begin.forwardFrame id f))))

/-- A telegram that passes the form checks is forwarded and does what the command of its kind does, with the fields at the
places of their layouts (10.2, 11.1 to 11.5). That a received telegram does what its kind's own command does on the forwarded
state is the model's choice (log entry 4), as the forwarding store is (log entry 13). -/
def Obligations.FrameHandedOn : Prop :=
  ∀ (s u : State) (id : PortId) (f : Frame) (n : Byte) (p : List Byte), s.lif.inReset = false →
    s.lif.node? = some n → f.fcsOk → f.frameType = s.lif.typeValue → (f.destination = n ∨ f.destination = 255) →
    f.source ≠ n → f.source ≠ 0 → f.source ≠ 255 → byteAt f.bytes 0 = 1 → 8 + f.payloadLength ≤ f.bytes.length →
    u = s.forwardFrame id f → p = (f.bytes.drop 8).take f.payloadLength →
    (f.kind = 0x01 → f.payloadLength = 9 → exec (.frameReceive id f) s
      = exec (.bodyArrive ⟨f.source, halfAt f.bytes 4⟩ (byteAt p 0) (wordAt p 1) (wordAt p 5)) u)
    ∧ (f.kind = 0x02 → f.payloadLength = 16 → ∀ v : Vector Byte 16, v.toList = p →
      exec (.frameReceive id f) s = exec (.stationInputs f.source v) u)
    ∧ (f.kind = 0x21 → f.payloadLength = 5 → exec (.frameReceive id f) s
      = exec (.selEcho f.source ⟨byteAt p 0, byteAt p 1⟩ (byteAt p 2) (byteAt p 3) (byteAt p 4)) u)
    ∧ (f.kind = 0x22 → f.payloadLength = 2 →
      exec (.frameReceive id f) s = exec (.cycleStart f.source ⟨byteAt p 0, byteAt p 1⟩) u)
    ∧ (f.kind = 0x23 → f.payloadLength = 2 →
      exec (.frameReceive id f) s = exec (.weldReq f.source ⟨byteAt p 0, byteAt p 1⟩) u)
    ∧ (f.kind = 0x24 → f.payloadLength = 2 →
      exec (.frameReceive id f) s = exec (.weldFree f.source ⟨byteAt p 0, byteAt p 1⟩) u)
    ∧ (f.kind = 0x25 → f.payloadLength = 5 → exec (.frameReceive id f) s
      = exec (.weldDone f.source ⟨byteAt p 0, byteAt p 1⟩ (halfAt p 2) (byteAt p 4)) u)
    ∧ (f.kind = 0x31 → 1 ≤ f.payloadLength → f.payloadLength ≤ 36 →
      exec (.frameReceive id f) s = exec (.mgmtRequest ⟨f.source, halfAt f.bytes 4⟩ p) u)

/-- An ownership conflict, by a PROG_SELECT or DISPATCH_CANCEL to an enabled robot's node or by a STATION_RELEASE of a station
that is not DISABLED: the frame is forwarded as any other, OWNERSHIP is set and the station is left DISABLED without slot,
arrival and entry; where the frame is then also checked as a telegram for the part and fails, BAD_TELEGRAM is set (7.9, 10.2).
The watch's place before the form checks is read from 7.9 (log entry 10); the forwarding store is the model's (log entry
13). -/
def Obligations.OwnershipConflict : Prop :=
  ∀ (s : State) (id : PortId) (f : Frame) (n : Byte) (st : Fin 16), s.lif.inReset = false → s.settled →
    s.lif.node? = some n → f.fcsOk → f.frameType = s.lif.typeValue → s.conflictOver n f st →
    ∃ t : State, exec (.frameReceive id f) s = .next t ∧ (t.stationStatus st 5).set ∧ t.tbs.active = s.tbs.active
      ∧ (id = .p1 → t.lif.p1.forward = s.lif.p1.forward
          ∧ t.lif.p2.forward = if s.lif.p2.up then s.lif.p2.forward ++ [f] else s.lif.p2.forward)
      ∧ (id = .p2 → t.lif.p2.forward = s.lif.p2.forward
          ∧ t.lif.p1.forward = if s.lif.p1.up then s.lif.p1.forward ++ [f] else s.lif.p1.forward)
      ∧ ((f.destination = n ∨ (f.destination = 255 ∧ (f.source = 0 ∨ f.source = 255))) → (t.deviceStatus 5).set)
      ∧ ((s.station st).state = .disabled → s.keeps t [.lif, .emu])
      ∧ ((s.station st).state ≠ .disabled →
        t.station st = ⟨(s.station st).config, false, false, none, none, none, none⟩
        ∧ (∀ a ∈ t.arq.queue, a.station ≠ st)
        ∧ ∀ (i : Fin 128) (e : Entry), t.entry? i = some e → e.station ≠ st)

/-- A port's transmitter: where both claimants wait the forwarded frame goes first and then they take turns; a port that
goes down keeps nothing; and a telegram of the part is given to both ports, each of which keeps up to 256 (10.1). The
forwarding store, the register of the frame that is sent and the turn flag are the model's (log entry 13). -/
def Obligations.PortsTransmit : Prop :=
  (∀ (s : State) (id : PortId) (x : Port) (n : Byte), s.lif.inReset = false → s.settled → s.lif.node? = some n →
    s.lif.port id = x →
    (∀ a rest, x.forward = a :: rest → (x.own = [] ∨ x.ownTurn = false) →
      exec (.portTransmit id) s = .next { s.begin with
        lif := s.lif.setPort id ⟨x.up, some a, rest, x.own, !x.own.isEmpty⟩ })
    ∧ (∀ a rest, x.own = a :: rest → (x.forward = [] ∨ x.ownTurn = true) →
      exec (.portTransmit id) s = .next { s.begin with
        lif := s.lif.setPort id ⟨x.up, some ⟨s.lif.typeValue, a.bytes n, true⟩, x.forward, rest, false⟩ })
    ∧ (x.own = [] → x.forward = [] →
      exec (.portTransmit id) s = .next { s.begin with lif := s.lif.setPort id ⟨x.up, none, [], [], false⟩ })
    ∧ exec (.linkUpChange id true) s = .next { s.begin with lif := s.lif.setPort id { x with up := true } }
    ∧ exec (.linkUpChange id false) s = .next { s.begin with lif := s.lif.setPort id ⟨false, none, [], [], false⟩ })
  ∧ ∀ (s : State) (t : Telegram),
    (s.lif.node? = none → s.issue t = s)
    ∧ (s.lif.node?.isSome → (s.issue t).issued = s.issued ++ [t] ∧ s.keeps (s.issue t) [.lif]
      ∧ (s.issue t).lif.p1 = { s.lif.p1 with
          own := if s.lif.p1.up ∧ s.lif.p1.own.length < 256 then s.lif.p1.own ++ [t] else s.lif.p1.own }
      ∧ (s.issue t).lif.p2 = { s.lif.p2 with
          own := if s.lif.p2.up ∧ s.lif.p2.own.length < 256 then s.lif.p2.own ++ [t] else s.lif.p2.own })

/-! ## Arrivals (chapter 3) -/

/-- An accepted BODY_ARRIVE is answered ahead of everything else, stamped with the ACTIVE bank and appended; it waits where
its station has no free slot, and is given its slot at once where CURRENT is EMPTY, the tracker has room and no arrival
stands ahead (3.2, 3.3). Then each position with work and a serving robot is PENDING, each with work and none BYPASSED with
shortfall E, each other NONE; and the body's new entries, in position order and with a DRESS entry directly ahead of a WELD
entry where a dress is due, take the lowest free indices and stand at the tails of their robots' lists, the head of an IDLE
robot offered at once (1.9, 3.3, 4.4, 5.4; no robot of the station at its wear limit, and ticks to come as log entry 8
has them). -/
def Obligations.ArrivalAccepted : Prop :=
  (∀ (s : State) (f : Sender) (b : Byte) (st : Fin 16) (body build : Word) (a : Arrival), s.ready →
    s.mge.lineNode ≠ 0 → f.node = s.mge.lineNode → b.toNat = st → (s.station st).state ≠ .disabled → body ≠ 0 →
    s.arq.queue = [] → (∀ c, (s.station st).current = some c → c.body ≠ body) →
    (∀ c, (s.station st).next = some c → c.body ≠ body) →
    a = { station := st, body := body, build := build, stamp := s.tbs.active } →
    ∃ t : State, exec (.bodyArrive f b body build) s = .next t
      ∧ t.issued.head? = some (.arrivalAck s.mge.lineNode f.seq body none)
      ∧ ((s.station st).current ≠ none → (s.station st).next ≠ none →
        t.arq.queue = [a] ∧ (t.bank s.tbs.active).stamps = (s.bank s.tbs.active).stamps + 1
        ∧ (s.settled → s.keeps t [.lif, .arq, .tbs, .emu]))
      ∧ ((s.station st).current = none → (s.station st).bodyLost = false →
        s.allocatable [] (s.plans st (s.resolveArrival a).works) →
        t.arq.queue = [] ∧ (t.bank s.tbs.active).stamps = (s.bank s.tbs.active).stamps
        ∧ (∃ c, (t.station st).current = some c ∧ c.state = .announced ∧ c.body = body ∧ c.build = build
            ∧ c.stamp = s.tbs.active ∧ c.style = (s.resolveArrival a).style ∧ c.abortMark = false)
        ∧ (s.listsAgree → (∀ r ∈ s.stationRobots st, (s.robot r).wear < (s.robot r).limit) →
          ∀ works, works = (s.resolveArrival a).works →
          (∃ c, (t.station st).current = some c
            ∧ (∀ p : Fin 8, works[p] = none → c.positions[p] = none)
            ∧ (∀ (p : Fin 8) (w : Work), works[p] = some w → (s.servingRobot? st p).isSome →
              c.positions[p] = some ⟨w.program, w.expected, .pending, none, 0⟩)
            ∧ (∀ (p : Fin 8) (w : Work), works[p] = some w → s.servingRobot? st p = none →
              c.positions[p] = some ⟨w.program, w.expected, .bypassed, none, w.expected⟩)
            ∧ c.reasons = {
                bypassed := decide ((s.station st).config.short = .hold
                  ∧ ∃ p : Fin 8, works[p] ≠ none ∧ s.servingRobot? st p = none)
                noStyle := decide ((s.station st).config.noStyle = .hold ∧ (s.resolveArrival a).style = none) })
          ∧ ∀ (news : List Entry) (frees : List (Fin 128)),
            news = (List.finRange 8).flatMap (fun p =>
              match works[p], s.servingRobot? st p with
              | some w, some r =>
                (if s.dressDue r then
                  [({ kind := .dress, robot := r, station := st, body := body, position := p, program := (s.robot r).dress
                      expected := 0 } : Entry)] else [])
                ++ [({ kind := .weld, robot := r, station := st, body := body, position := p, program := w.program
                       expected := w.expected } : Entry)]
              | _, _ => []) →
            frees = (List.finRange 128).filter (fun i => (s.entry? i).isNone) →
            (∀ r : Fin 64, t.list r = s.list r ++ ((news.zip frees).filter (·.1.robot == r)).map (·.2))
            ∧ ∀ (n : Nat) (x : Entry) (i : Fin 128), news[n]? = some x → frees[n]? = some i →
              ((s.list x.robot = [] ∧ (∀ y ∈ news.take n, y.robot ≠ x.robot) ∧ (s.robot x.robot).state = .idle
                  ∧ (s.panel st).manual = false) →
                t.place i = ⟨(s.place i).issue + 1, some { x with
                  state := .offered, selectTimer := some ((s.station st).config.selectTimeout + 1) }⟩
                ∧ t.robot x.robot = { s.robot x.robot with state := .busy }
                ∧ .progSelect (s.robot x.robot).node ⟨BitVec.ofNat 8 i, (s.place i).issue + 1⟩ x.program x.expected body
                    x.kind ∈ t.issued)
              ∧ ((s.list x.robot ≠ [] ∨ (∃ y ∈ news.take n, y.robot = x.robot) ∨ (s.robot x.robot).state ≠ .idle
                  ∨ (s.panel st).manual = true) →
                t.place i = ⟨(s.place i).issue, some x⟩))))
  ∧ ∀ (s : State) (st : Fin 16) (p : Fin 8) (r : Fin 64),
    (s.servingRobot? st p = some r →
      (s.robot r).state ≠ .disabled ∧ (s.robot r).station = st ∧ (s.robot r).position = p)
    ∧ ((s.robot r).state ≠ .disabled → (s.robot r).station = st → (s.robot r).position = p →
      s.servingRobot? st p ≠ none)
    ∧ (s.dressDue r = true ↔
      ((s.robot r).interval ≤ (s.robot r).wear
          + ((s.list r).map (fun i => match s.entry? i with
              | some e => if e.kind = .weld then e.expected else 0
              | none => 0)).sum
        ∧ ∀ i ∈ s.list r, ∀ e : Entry, s.entry? i = some e → e.kind ≠ .dress))

/-- A refused BODY_ARRIVE is answered with the first reason that holds, sets ARRIVAL_REFUSED and changes no queue, stamp or
station; one that is not from the line node is dropped with BAD_TELEGRAM (3.2). -/
def Obligations.ArrivalRefused : Prop :=
  ∀ (s : State) (f : Sender) (b : Byte) (body build : Word), s.ready → s.settled →
    ((s.mge.lineNode = 0 ∨ f.node ≠ s.mge.lineNode) →
      ∃ t : State, exec (.bodyArrive f b body build) s = .next t ∧ (t.deviceStatus 5).set ∧ s.keeps t [.emu, .lif])
    ∧ (s.mge.lineNode ≠ 0 → f.node = s.mge.lineNode → ∀ reason : AckReason,
      ((16 ≤ b.toNat ∧ reason = .station)
        ∨ ∃ st : Fin 16, b.toNat = st
          ∧ (((s.station st).state = .disabled ∧ reason = .station)
            ∨ ((s.station st).state ≠ .disabled ∧ body = 0 ∧ reason = .body)
            ∨ ((s.station st).state ≠ .disabled ∧ body ≠ 0 ∧ s.duplicates st body ∧ reason = .duplicate)
            ∨ ((s.station st).state ≠ .disabled ∧ body ≠ 0 ∧ s.duplicates st body = false
              ∧ 32 ≤ s.arq.queue.length ∧ reason = .full))) →
      ∃ t : State, exec (.bodyArrive f b body build) s = .next t
        ∧ t.issued.head? = some (.arrivalAck s.mge.lineNode f.seq body (some reason))
        ∧ (t.deviceStatus 0).set ∧ s.keeps t [.emu, .lif])

/-- The arrivals that a pass leaves in the queue keep their order and their fields but the skip count and STARVED, and the
skip count rises by one to 8, where STARVED is set (3.1, 3.3, 3.4). A pass skips the eligible head that it does not allocate,
counts ALLOC_SKIPS and sets TRACKER_STARVED as its count reaches 8, and passes over one that is not eligible; and while a
STARVED head stays, eligible or not, no arrival behind it is allocated and each eligible one is skipped (3.3, 3.4). -/
def Obligations.PassKeepsOrder : Prop :=
  (∀ s : State, List.Sublist (s.runPass.arq.queue.map (fun a => (a.station, a.body, a.build, a.stamp)))
    (s.arq.queue.map (fun a => (a.station, a.body, a.build, a.stamp))))
  ∧ (∀ a : Arrival,
    (a.skips < 7 → a.skipped = { a with skips := a.skips + 1 })
    ∧ (a.skips = 7 → a.skipped = { a with skips := 8, starved := true })
    ∧ (8 ≤ a.skips → a.skipped = a))
  ∧ (∀ (s : State) (ahead : List Arrival) (a : Arrival),
    (s.eligible ahead a = true ↔
      ((s.station a.station).state ≠ .disabled
        ∧ ((s.station a.station).current = none ∨ (s.station a.station).next = none)
        ∧ (s.station a.station).bodyLost = false ∧ ∀ x ∈ ahead, x.station ≠ a.station))
    ∧ ∀ plans : List Plan, s.allocatable ahead plans = true ↔
      (((servingRobots plans).map (fun r => if s.dressDue r then 2 else 1)).sum ≤ s.freeEntries
        ∧ (∀ r ∈ servingRobots plans, (s.list r).length + (if s.dressDue r then 2 else 1) ≤ 3)
        ∧ ∀ x ∈ ahead, x.starved = false))
  ∧ ∀ (s : State) (a : Arrival) (rest : List Arrival), s.passDue → s.arq.queue = a :: rest →
    ∀ taken : Bool, taken = s.allocatable [] (s.plans a.station (s.resolveArrival a).works) →
    (s.eligible [] a = false → s.runPass.arq.queue.head? = some a)
    ∧ (s.eligible [] a = true → taken = false → s.runPass.arq.queue.head? = some a.skipped
      ∧ (rest = [] → s.keeps s.runPass [.arq, .emu, .lif]
        ∧ (a.skips = 7 → a.starved = false → (s.runPass.deviceStatus 2).set)
        ∧ ∀ (k : Fin 8) (x : Counter), s.counter k = x → x.config.mode = .count → x.config.event = .allocSkips →
          x.config.station = none → x.config.robot = none → x.config.style = none → x.config.freezeEnable = false →
          (s.runPass.counter k).value = x.value + 1))
    ∧ (a.starved = true → (s.eligible [] a = false ∨ taken = false) →
      s.keeps s.runPass [.arq, .emu, .lif] ∧ s.runPass.arq.queue.length = rest.length + 1
      ∧ ∀ (n : Nat) (x : Arrival), rest[n]? = some x →
        s.runPass.arq.queue[n + 1]? = some (if s.eligible (a :: rest.take n) x then x.skipped else x))

/-! ## The robots' handshake (chapters 4 and 6) -/

/-- SEL_ECHO: an ACCEPT with the entry's program makes it SELECTED and stops its timer; a failed echo, and the expiry of the
select timer, spend the one re-offer, which sends PROG_SELECT with a new issue number (4.5, 4.6). Timers as in
log entry 8. -/
def Obligations.EchoAndReoffer : Prop :=
  ∀ (s : State) (node : Byte) (tag : Tag) (i : Fin 128) (e : Entry) (p v reason : Byte), s.ready → s.settled →
    s.live node tag i e [.offered] →
    (v = 1 → p = e.program →
      exec (.selEcho node tag p v reason) s = .next
        (s.begin.setPlace i ⟨(s.place i).issue, some { e with state := .selected, selectTimer := none }⟩))
    ∧ (e.reoffered = false →
      ∀ c : Instr, ((c = .selEcho node tag p v reason ∧ ¬ (v = 1 ∧ p = e.program))
        ∨ (c = .selectTimerExpiry i ∧ e.selectTimer = some 0)) →
      ∃ t : State, exec c s = .next t
        ∧ t.place i = ⟨(s.place i).issue + 1, some { e with
            reoffered := true, selectTimer := some ((s.station e.station).config.selectTimeout + 1) }⟩
        ∧ (∀ j : Fin 128, j ≠ i → t.place j = s.place j) ∧ t.dtr.lists = s.dtr.lists
        ∧ .progSelect node ⟨BitVec.ofNat 8 i, (s.place i).issue + 1⟩ e.program e.expected e.body e.kind ∈ t.issued
        ∧ s.keeps t [.lif, .dtr, .emu])

/-- A failed echo or a select expiry of a WELD entry whose re-offer is used ends it REJECTED or EXPIRED: its index is freed
with its issue number kept, its robot is FAULTED, and its position takes the outcome with shortfall E (4.5, 4.6, 4.8). The
entry is the only one of its robot and no arrival waits. Timers as in log entry 8. -/
def Obligations.OfferEnds : Prop :=
  ∀ (s : State) (node : Byte) (tag : Tag) (i : Fin 128) (e : Entry) (slot : Slot) (y : Position) (p v reason : Byte),
    s.ready → s.settled → s.live node tag i e [.offered] → e.reoffered → e.kind = .weld → e.supply = .none →
    s.list e.robot = [i] → (s.robot e.robot).state = .busy → s.arq.queue = [] →
    (s.station e.station).current = some slot → slot.body = e.body → slot.positions[e.position] = some y →
    ∀ (c : Instr) (o : PositionOutcome),
      ((c = .selEcho node tag p v reason ∧ ¬ (v = 1 ∧ p = e.program) ∧ o = .rejected)
        ∨ (c = .selectTimerExpiry i ∧ e.selectTimer = some 0 ∧ o = .expired)) →
      ∃ t slot', exec c s = .next t ∧ t.place i = ⟨(s.place i).issue, none⟩ ∧ t.list e.robot = []
        ∧ t.robot e.robot = { s.robot e.robot with state := .faulted }
        ∧ (t.station e.station).current = some slot'
        ∧ slot'.positions = slot.positions.set e.position (some { y with
            outcome := o, reported := none, shortfall := e.expected })
        ∧ ((s.station e.station).state ≠ .disabled → (t.station e.station).state = .held)
        ∧ (∀ j : Fin 128, j ≠ i → t.place j = s.place j) ∧ s.keeps t [.lif, .dtr, .rbc, .stc, .piu, .emu]

/-- CYCLE_START: a WELD entry whose body is SEATED, and any DRESS or MAINT entry, becomes WELDING; any other is answered
CYCLE_HOLD with EARLY_START and stays SELECTED (4.7). -/
def Obligations.CycleStarted : Prop :=
  ∀ (s : State) (node : Byte) (tag : Tag) (i : Fin 128) (e : Entry), s.ready → s.settled →
    s.live node tag i e [.selected] →
    ((e.kind ≠ .weld ∨ ∃ c, (s.station e.station).slotOf? e.body = some c ∧ c.state = .seated) →
      ∃ t : State, exec (.cycleStart node tag) s = .next t
        ∧ t.place i = ⟨(s.place i).issue, some { e with state := .welding }⟩
        ∧ (∀ j : Fin 128, j ≠ i → t.place j = s.place j) ∧ t.dtr.lists = s.dtr.lists
        ∧ t.piu.reported = t.image ∧ (e.kind = .weld → t.issued = []) ∧ s.keeps t [.lif, .dtr, .piu])
    ∧ (e.kind = .weld → (∀ c, (s.station e.station).slotOf? e.body = some c → c.state ≠ .seated) →
      ∃ t : State, exec (.cycleStart node tag) s = .next t ∧ t.issued.head? = some (.cycleHold node tag)
        ∧ (t.stationStatus e.station 4).set ∧ s.keeps t [.lif, .emu])

/-- WELD_REQ of a WELDING entry without a standing: granted at once in group 0; granted where its group has a free credit
and no waiters, with the hold timer started and the pointer set; else it waits (6.1). The hold timer as hold limit + 1
ticks to come is the model's choice (log entry 8). A request of an entry with a standing is stale (StaleDropped). -/
def Obligations.CreditRequested : Prop :=
  ∀ (s : State) (node : Byte) (tag : Tag) (i : Fin 128) (e : Entry), s.ready → s.settled →
    s.live node tag i e [.welding] → e.supply = .none →
    ((s.robot e.robot).group = 0 →
      exec (.weldReq node tag) s = .next
        ((s.begin.setPlace i ⟨(s.place i).issue, some { e with supply := .holding }⟩).issue (.weldGrant node tag false)))
    ∧ ∀ g : Fin 8, ((s.robot e.robot).group : Nat) = g + 1 →
      ((s.holders g).length < (s.group g).capacity → s.waiters g = [] →
        exec (.weldReq node tag) s = .next
          (((s.begin.setPlace i ⟨(s.place i).issue, some { e with
              supply := .holding, holdTimer := some ((s.group g).holdLimit + 1) }⟩).setGroup g
            { s.group g with pointer := some e.robot }).issue (.weldGrant node tag false)))
      ∧ (((s.group g).capacity ≤ (s.holders g).length ∨ s.waiters g ≠ []) →
        exec (.weldReq node tag) s = .next
          (s.begin.setPlace i ⟨(s.place i).issue, some { e with supply := .waiting }⟩))

/-- WELD_FREE: a waiter withdraws; a holder's credit stays free without waiters and otherwise goes to the waiter whose robot
comes first after the pointer in member order (6.2). The hold timer as hold limit + 1 ticks to come is the model's choice
(log entry 8). A return by an entry without a standing is stale (StaleDropped). -/
def Obligations.CreditReturned : Prop :=
  ∀ (s : State) (node : Byte) (tag : Tag) (i : Fin 128) (e : Entry), s.ready → s.settled →
    s.live node tag i e [.welding] →
    (e.supply = .waiting →
      exec (.weldFree node tag) s = .next
        (s.begin.setPlace i ⟨(s.place i).issue, some { e with supply := .none, holdTimer := none }⟩))
    ∧ (e.supply = .holding →
      ((s.robot e.robot).group = 0 →
        exec (.weldFree node tag) s = .next
          (s.begin.setPlace i ⟨(s.place i).issue, some { e with supply := .none, holdTimer := none }⟩))
      ∧ ∀ g : Fin 8, ((s.robot e.robot).group : Nat) = g + 1 →
        (s.waiters g = [] →
          exec (.weldFree node tag) s = .next
            (s.begin.setPlace i ⟨(s.place i).issue, some { e with supply := .none, holdTimer := none }⟩))
        ∧ ∀ (j : Fin 128) (x : Entry), s.entry? j = some x → j ∈ s.waiters g →
          (∀ k ∈ s.waiters g, s.robotNumber k = s.robotNumber j → k = j) →
          ((∃ q : Fin 64, (s.group g).pointer = some q ∧ (q : Nat) < s.robotNumber j
              ∧ ∀ k ∈ s.waiters g, (q : Nat) < s.robotNumber k → s.robotNumber j ≤ s.robotNumber k)
            ∨ ((∀ q : Fin 64, (s.group g).pointer = some q → ∀ k ∈ s.waiters g, s.robotNumber k ≤ (q : Nat))
              ∧ ∀ k ∈ s.waiters g, s.robotNumber j ≤ s.robotNumber k)) →
          exec (.weldFree node tag) s = .next
            ((((s.begin.setPlace i ⟨(s.place i).issue, some { e with supply := .none, holdTimer := none }⟩).setPlace j
                ⟨(s.place j).issue, some { x with
                  supply := .holding, holdTimer := some ((s.group g).holdLimit + 1) }⟩).setGroup g
              { s.group g with pointer := some x.robot }).issue
                (.weldGrant (s.robot x.robot).node (s.tag j) false)))

/-- The gun wear after a WELD_DONE, for every kind of entry and every robot status, and its range (1.9). -/
def Obligations.GunWear : Prop :=
  (∀ (s : State) (node : Byte) (tag : Tag) (count : Half) (status : Byte), s.ready →
    (∀ (i : Fin 128) (e : Entry), s.live node tag i e [.selected, .welding] →
      ∃ t : State, exec (.weldDone node tag count status) s = .next t
        ∧ (t.robot e.robot).wear
          = (if e.kind = .dress ∧ status = 0 then 0
              else min ((s.robot e.robot).wear + min count.toNat 1023) 65535)
        ∧ ∀ q : Fin 64, q ≠ e.robot → (t.robot q).wear = (s.robot q).wear)
    ∧ ((∀ (i : Fin 128) (e : Entry), ¬ s.live node tag i e [.selected, .welding]) →
      ∃ t : State, exec (.weldDone node tag count status) s = .next t ∧ t.rbc = s.rbc))
  ∧ ∀ s t : State, s.wearBounded → step s = .next t → t.wearBounded

/-- WELD_DONE ends its entry: the index is freed with its issue number kept, a WELD outcome is written into its position with
the count and shortfall, a MAINT outcome into the robot's record, and the robot is IDLE, or FAULTED at a WELD fault (4.8,
1.8). The entry is the only one of its robot, without a credit, and no arrival waits. -/
def Obligations.WeldReported : Prop :=
  ∀ (s : State) (node : Byte) (tag : Tag) (i : Fin 128) (e : Entry) (count : Half) (status : Byte) (d : Nat),
    s.ready → s.live node tag i e [.selected, .welding] → e.supply = .none → s.list e.robot = [i] →
    (s.robot e.robot).state = .busy → s.arq.queue = [] → d = min count.toNat 1023 →
    ∃ t : State, exec (.weldDone node tag count status) s = .next t ∧ t.place i = ⟨(s.place i).issue, none⟩
      ∧ (∀ j : Fin 128, j ≠ i → t.place j = s.place j) ∧ t.list e.robot = []
      ∧ (t.robot e.robot).state = (if e.kind = .weld ∧ status ≠ 0 then .faulted else .idle)
      ∧ (∀ q : Fin 64, q ≠ e.robot → t.robot q = s.robot q ∧ t.list q = s.list q)
      ∧ (e.kind ≠ .maint → (t.robot e.robot).maint = (s.robot e.robot).maint)
      ∧ (e.kind ≠ .weld → t.stc = s.stc)
      ∧ (e.kind = .maint → (t.robot e.robot).maint = some
          ⟨if status ≠ 0 then .robotFault else if d = 0 then .done else .excess, e.program, some d⟩)
      ∧ (e.kind = .weld → ∀ slot y, (s.station e.station).current = some slot → slot.body = e.body →
          slot.positions[e.position] = some y →
          ∃ slot', (t.station e.station).current = some slot' ∧ slot'.body = slot.body
            ∧ slot'.positions = slot.positions.set e.position (some { y with
                outcome := if status ≠ 0 then .robotFault else if d = e.expected then .done
                  else if d < e.expected then .short else .excess
                reported := some d
                shortfall := e.expected - d }))
      ∧ s.keeps t [.lif, .dtr, .rbc, .stc, .piu, .emu]

/-- The expiry of a hold timer: the credit is reclaimed with a revoke ahead of everything else, SUPPLY_RECLAIMED is set, and
a WELD entry ends SUPPLY_HOLD with shortfall E and its robot FAULTED (6.3, 4.9). The entry is the only one of its robot, its
group has no waiters, and no arrival waits. Timers as in log entry 8. -/
def Obligations.HoldExpired : Prop :=
  ∀ (s : State) (i : Fin 128) (e : Entry) (slot : Slot) (y : Position), s.ready → s.settled → s.entry? i = some e →
    e.holdTimer = some 0 → e.supply = .holding → e.kind = .weld → s.list e.robot = [i] →
    (s.robot e.robot).state = .busy → s.arq.queue = [] →
    (∀ g : Fin 8, ((s.robot e.robot).group : Nat) = g + 1 → s.waiters g = []) →
    (s.station e.station).current = some slot → slot.body = e.body → slot.positions[e.position] = some y →
    ∃ t slot', exec (.holdTimerExpiry i) s = .next t
      ∧ t.issued.head? = some (.weldGrant (s.robot e.robot).node (s.tag i) true)
      ∧ (t.deviceStatus 3).set ∧ t.place i = ⟨(s.place i).issue, none⟩
      ∧ (∀ j : Fin 128, j ≠ i → t.place j = s.place j) ∧ t.list e.robot = []
      ∧ t.robot e.robot = { s.robot e.robot with state := .faulted }
      ∧ (t.station e.station).current = some slot'
      ∧ slot'.positions = slot.positions.set e.position (some { y with
          outcome := .supplyHold, reported := none, shortfall := e.expected })
      ∧ s.keeps t [.lif, .dtr, .rbc, .stc, .piu, .emu]

/-- The expiry of a seat timer makes the CURRENT slot SEATED and starts the cycle timer, and a slot with nothing pending is
then released; the expiry of a cycle timer sets CYCLE_OVERRUN and nothing else (7.4, 7.5). Timers as in log entry 8. -/
def Obligations.StationTimers : Prop :=
  ∀ (s : State) (st : Fin 16) (c : Slot), s.ready → s.settled → (s.station st).current = some c →
    ((s.station st).seatTimer = some 0 →
      (((s.station st).state ≠ .running ∨ ∃ (p : Fin 8) (y : Position), c.positions[p] = some y ∧ y.outcome = .pending) →
        c.state ≠ .released →
        exec (.seatTimerExpiry st) s = .next (s.begin.setStation st { s.station st with
          current := some { c with state := .seated }, seatTimer := none
          cycleTimer := some (10 * (s.station st).config.cycleLimit + 1) }))
      ∧ ((s.station st).state = .running → (∀ (p : Fin 8) y, c.positions[p] = some y → y.outcome ≠ .pending) →
        ∃ t : State, exec (.seatTimerExpiry st) s = .next t
          ∧ t.station st = { s.station st with
              current := some { c with state := .released }, seatTimer := none, cycleTimer := none }
          ∧ (∀ q : Fin 16, q ≠ st → t.station q = s.station q) ∧ t.piu.reported = t.image
          ∧ (s.mge.lineNode ≠ 0 →
            t.issued.head? = some (.stationRelease s.mge.lineNode st c.body c.overall c.shortfalls))
          ∧ s.keeps t [.lif, .stc, .piu]))
    ∧ ((s.station st).cycleTimer = some 0 →
      ∃ t : State, exec (.cycleTimerExpiry st) s = .next t ∧ (t.stationStatus st 1).set
        ∧ t.station st = { s.station st with cycleTimer := none }
        ∧ (∀ q : Fin 16, q ≠ st → t.station q = s.station q) ∧ s.keeps t [.stc, .emu, .lif])

/-- A robot telegram that names no entry that it fits, a WELD_REQ of an entry that waits for a credit or holds one, and a
WELD_FREE of an entry that does neither are dropped: STALE_TELEGRAM is set, and nothing is answered and nothing else changes
but the monitor counters with their freeze (4.10, 6.1, 6.2, 9.4). What the part sends is at most the reports of the two device
events. -/
def Obligations.StaleDropped : Prop :=
  ∀ (s : State) (node : Byte) (tag : Tag) (c : Instr), s.ready → s.settled →
    ((∃ states : List EntryState,
        ((∃ p v reason, c = .selEcho node tag p v reason ∧ states = [.offered])
          ∨ (c = .cycleStart node tag ∧ states = [.selected]) ∨ (c = .weldReq node tag ∧ states = [.welding])
          ∨ (c = .weldFree node tag ∧ states = [.welding])
          ∨ ∃ count status, c = .weldDone node tag count status ∧ states = [.selected, .welding])
        ∧ ∀ (i : Fin 128) (e : Entry), ¬ s.live node tag i e states)
      ∨ ∃ (i : Fin 128) (e : Entry), s.live node tag i e [.welding]
        ∧ ((c = .weldReq node tag ∧ e.supply ≠ .none) ∨ (c = .weldFree node tag ∧ e.supply = .none))) →
    ∃ t : State, exec c s = .next t ∧ (t.deviceStatus 4).set
      ∧ ((s.deviceStatus 4).set → t.deviceStatus 4 = s.deviceStatus 4)
      ∧ (∀ (st : Fin 16) (n : Fin 8), t.stationStatus st n = s.stationStatus st n)
      ∧ (∀ n : Fin 8, n ≠ 4 → n ≠ 7 → t.deviceStatus n = s.deviceStatus n)
      ∧ (∀ n : Fin 8, (t.deviceStatus n).mask = (s.deviceStatus n).mask)
      ∧ (t.deviceStatus 7 = s.deviceStatus 7 ∨ t.emu.freeze = true)
      ∧ (∀ k : Fin 8, (t.counter k).config = (s.counter k).config)
      ∧ (∀ x ∈ t.issued, ∃ n capture, (n = 4 ∨ n = 7) ∧ x = .eventReport s.mge.reportNode true n capture)
      ∧ s.keeps t [.emu, .lif]
end

