-- ==== Sys2Proof/Laws/State.lean ====
section
/-! SUPPORT. What each update of one record does to each field of the state and to each record that is read from it. -/

namespace Sys2Proof.Machine

/-! ## `State.setPlace` -/

@[simp] theorem State.setPlace_lif (s : State) (i : Fin 128) (p : Place) : (s.setPlace i p).lif = s.lif := rfl
@[simp] theorem State.setPlace_mge (s : State) (i : Fin 128) (p : Place) : (s.setPlace i p).mge = s.mge := rfl
@[simp] theorem State.setPlace_tbs (s : State) (i : Fin 128) (p : Place) : (s.setPlace i p).tbs = s.tbs := rfl
@[simp] theorem State.setPlace_arq (s : State) (i : Fin 128) (p : Place) : (s.setPlace i p).arq = s.arq := rfl
@[simp] theorem State.setPlace_rbc (s : State) (i : Fin 128) (p : Place) : (s.setPlace i p).rbc = s.rbc := rfl
@[simp] theorem State.setPlace_spa (s : State) (i : Fin 128) (p : Place) : (s.setPlace i p).spa = s.spa := rfl
@[simp] theorem State.setPlace_stc (s : State) (i : Fin 128) (p : Place) : (s.setPlace i p).stc = s.stc := rfl
@[simp] theorem State.setPlace_piu (s : State) (i : Fin 128) (p : Place) : (s.setPlace i p).piu = s.piu := rfl
@[simp] theorem State.setPlace_emu (s : State) (i : Fin 128) (p : Place) : (s.setPlace i p).emu = s.emu := rfl
@[simp] theorem State.setPlace_pending (s : State) (i : Fin 128) (p : Place) : (s.setPlace i p).pending = s.pending := rfl
@[simp] theorem State.setPlace_issued (s : State) (i : Fin 128) (p : Place) : (s.setPlace i p).issued = s.issued := rfl
@[simp] theorem State.setPlace_passDue (s : State) (i : Fin 128) (p : Place) : (s.setPlace i p).passDue = s.passDue := rfl
@[simp] theorem State.setPlace_formerNodes (s : State) (i : Fin 128) (p : Place) :
    (s.setPlace i p).formerNodes = s.formerNodes := rfl
@[simp] theorem State.setPlace_robot (s : State) (i : Fin 128) (p : Place) (r' : Fin 64) :
    (s.setPlace i p).robot r' = s.robot r' := rfl
@[simp] theorem State.setPlace_station (s : State) (i : Fin 128) (p : Place) (st' : Fin 16) :
    (s.setPlace i p).station st' = s.station st' := rfl
@[simp] theorem State.setPlace_panel (s : State) (i : Fin 128) (p : Place) (st' : Fin 16) :
    (s.setPlace i p).panel st' = s.panel st' := rfl
@[simp] theorem State.setPlace_group (s : State) (i : Fin 128) (p : Place) (g' : Fin 8) :
    (s.setPlace i p).group g' = s.group g' := rfl
@[simp] theorem State.setPlace_bank (s : State) (i : Fin 128) (p : Place) (id' : BankId) :
    (s.setPlace i p).bank id' = s.bank id' := rfl
@[simp] theorem State.setPlace_stationStatus (s : State) (i : Fin 128) (p : Place) (st' : Fin 16) (n' : Fin 8) :
    (s.setPlace i p).stationStatus st' n' = s.stationStatus st' n' := rfl
@[simp] theorem State.setPlace_deviceStatus (s : State) (i : Fin 128) (p : Place) (n' : Fin 8) :
    (s.setPlace i p).deviceStatus n' = s.deviceStatus n' := rfl
@[simp] theorem State.setPlace_counter (s : State) (i : Fin 128) (p : Place) (k' : Fin 8) :
    (s.setPlace i p).counter k' = s.counter k' := rfl

/-! ## `State.setEntry` -/

@[simp] theorem State.setEntry_lif (s : State) (i : Fin 128) (e : Option Entry) : (s.setEntry i e).lif = s.lif := rfl
@[simp] theorem State.setEntry_mge (s : State) (i : Fin 128) (e : Option Entry) : (s.setEntry i e).mge = s.mge := rfl
@[simp] theorem State.setEntry_tbs (s : State) (i : Fin 128) (e : Option Entry) : (s.setEntry i e).tbs = s.tbs := rfl
@[simp] theorem State.setEntry_arq (s : State) (i : Fin 128) (e : Option Entry) : (s.setEntry i e).arq = s.arq := rfl
@[simp] theorem State.setEntry_rbc (s : State) (i : Fin 128) (e : Option Entry) : (s.setEntry i e).rbc = s.rbc := rfl
@[simp] theorem State.setEntry_spa (s : State) (i : Fin 128) (e : Option Entry) : (s.setEntry i e).spa = s.spa := rfl
@[simp] theorem State.setEntry_stc (s : State) (i : Fin 128) (e : Option Entry) : (s.setEntry i e).stc = s.stc := rfl
@[simp] theorem State.setEntry_piu (s : State) (i : Fin 128) (e : Option Entry) : (s.setEntry i e).piu = s.piu := rfl
@[simp] theorem State.setEntry_emu (s : State) (i : Fin 128) (e : Option Entry) : (s.setEntry i e).emu = s.emu := rfl
@[simp] theorem State.setEntry_pending (s : State) (i : Fin 128) (e : Option Entry) :
    (s.setEntry i e).pending = s.pending := rfl
@[simp] theorem State.setEntry_issued (s : State) (i : Fin 128) (e : Option Entry) :
    (s.setEntry i e).issued = s.issued := rfl
@[simp] theorem State.setEntry_passDue (s : State) (i : Fin 128) (e : Option Entry) :
    (s.setEntry i e).passDue = s.passDue := rfl
@[simp] theorem State.setEntry_formerNodes (s : State) (i : Fin 128) (e : Option Entry) :
    (s.setEntry i e).formerNodes = s.formerNodes := rfl
@[simp] theorem State.setEntry_robot (s : State) (i : Fin 128) (e : Option Entry) (r' : Fin 64) :
    (s.setEntry i e).robot r' = s.robot r' := rfl
@[simp] theorem State.setEntry_station (s : State) (i : Fin 128) (e : Option Entry) (st' : Fin 16) :
    (s.setEntry i e).station st' = s.station st' := rfl
@[simp] theorem State.setEntry_panel (s : State) (i : Fin 128) (e : Option Entry) (st' : Fin 16) :
    (s.setEntry i e).panel st' = s.panel st' := rfl
@[simp] theorem State.setEntry_group (s : State) (i : Fin 128) (e : Option Entry) (g' : Fin 8) :
    (s.setEntry i e).group g' = s.group g' := rfl
@[simp] theorem State.setEntry_bank (s : State) (i : Fin 128) (e : Option Entry) (id' : BankId) :
    (s.setEntry i e).bank id' = s.bank id' := rfl
@[simp] theorem State.setEntry_stationStatus (s : State) (i : Fin 128) (e : Option Entry) (st' : Fin 16) (n' : Fin 8) :
    (s.setEntry i e).stationStatus st' n' = s.stationStatus st' n' := rfl
@[simp] theorem State.setEntry_deviceStatus (s : State) (i : Fin 128) (e : Option Entry) (n' : Fin 8) :
    (s.setEntry i e).deviceStatus n' = s.deviceStatus n' := rfl
@[simp] theorem State.setEntry_counter (s : State) (i : Fin 128) (e : Option Entry) (k' : Fin 8) :
    (s.setEntry i e).counter k' = s.counter k' := rfl

/-! ## `State.modEntry` -/

@[simp] theorem State.modEntry_lif (s : State) (i : Fin 128) (f : Entry → Entry) : (s.modEntry i f).lif = s.lif := rfl
@[simp] theorem State.modEntry_mge (s : State) (i : Fin 128) (f : Entry → Entry) : (s.modEntry i f).mge = s.mge := rfl
@[simp] theorem State.modEntry_tbs (s : State) (i : Fin 128) (f : Entry → Entry) : (s.modEntry i f).tbs = s.tbs := rfl
@[simp] theorem State.modEntry_arq (s : State) (i : Fin 128) (f : Entry → Entry) : (s.modEntry i f).arq = s.arq := rfl
@[simp] theorem State.modEntry_rbc (s : State) (i : Fin 128) (f : Entry → Entry) : (s.modEntry i f).rbc = s.rbc := rfl
@[simp] theorem State.modEntry_spa (s : State) (i : Fin 128) (f : Entry → Entry) : (s.modEntry i f).spa = s.spa := rfl
@[simp] theorem State.modEntry_stc (s : State) (i : Fin 128) (f : Entry → Entry) : (s.modEntry i f).stc = s.stc := rfl
@[simp] theorem State.modEntry_piu (s : State) (i : Fin 128) (f : Entry → Entry) : (s.modEntry i f).piu = s.piu := rfl
@[simp] theorem State.modEntry_emu (s : State) (i : Fin 128) (f : Entry → Entry) : (s.modEntry i f).emu = s.emu := rfl
@[simp] theorem State.modEntry_pending (s : State) (i : Fin 128) (f : Entry → Entry) :
    (s.modEntry i f).pending = s.pending := rfl
@[simp] theorem State.modEntry_issued (s : State) (i : Fin 128) (f : Entry → Entry) :
    (s.modEntry i f).issued = s.issued := rfl
@[simp] theorem State.modEntry_passDue (s : State) (i : Fin 128) (f : Entry → Entry) :
    (s.modEntry i f).passDue = s.passDue := rfl
@[simp] theorem State.modEntry_formerNodes (s : State) (i : Fin 128) (f : Entry → Entry) :
    (s.modEntry i f).formerNodes = s.formerNodes := rfl
@[simp] theorem State.modEntry_robot (s : State) (i : Fin 128) (f : Entry → Entry) (r' : Fin 64) :
    (s.modEntry i f).robot r' = s.robot r' := rfl
@[simp] theorem State.modEntry_station (s : State) (i : Fin 128) (f : Entry → Entry) (st' : Fin 16) :
    (s.modEntry i f).station st' = s.station st' := rfl
@[simp] theorem State.modEntry_panel (s : State) (i : Fin 128) (f : Entry → Entry) (st' : Fin 16) :
    (s.modEntry i f).panel st' = s.panel st' := rfl
@[simp] theorem State.modEntry_group (s : State) (i : Fin 128) (f : Entry → Entry) (g' : Fin 8) :
    (s.modEntry i f).group g' = s.group g' := rfl
@[simp] theorem State.modEntry_bank (s : State) (i : Fin 128) (f : Entry → Entry) (id' : BankId) :
    (s.modEntry i f).bank id' = s.bank id' := rfl
@[simp] theorem State.modEntry_stationStatus (s : State) (i : Fin 128) (f : Entry → Entry) (st' : Fin 16) (n' : Fin 8) :
    (s.modEntry i f).stationStatus st' n' = s.stationStatus st' n' := rfl
@[simp] theorem State.modEntry_deviceStatus (s : State) (i : Fin 128) (f : Entry → Entry) (n' : Fin 8) :
    (s.modEntry i f).deviceStatus n' = s.deviceStatus n' := rfl
@[simp] theorem State.modEntry_counter (s : State) (i : Fin 128) (f : Entry → Entry) (k' : Fin 8) :
    (s.modEntry i f).counter k' = s.counter k' := rfl

/-! ## `State.setList` -/

@[simp] theorem State.setList_lif (s : State) (r : Fin 64) (l : List (Fin 128)) : (s.setList r l).lif = s.lif := rfl
@[simp] theorem State.setList_mge (s : State) (r : Fin 64) (l : List (Fin 128)) : (s.setList r l).mge = s.mge := rfl
@[simp] theorem State.setList_tbs (s : State) (r : Fin 64) (l : List (Fin 128)) : (s.setList r l).tbs = s.tbs := rfl
@[simp] theorem State.setList_arq (s : State) (r : Fin 64) (l : List (Fin 128)) : (s.setList r l).arq = s.arq := rfl
@[simp] theorem State.setList_rbc (s : State) (r : Fin 64) (l : List (Fin 128)) : (s.setList r l).rbc = s.rbc := rfl
@[simp] theorem State.setList_spa (s : State) (r : Fin 64) (l : List (Fin 128)) : (s.setList r l).spa = s.spa := rfl
@[simp] theorem State.setList_stc (s : State) (r : Fin 64) (l : List (Fin 128)) : (s.setList r l).stc = s.stc := rfl
@[simp] theorem State.setList_piu (s : State) (r : Fin 64) (l : List (Fin 128)) : (s.setList r l).piu = s.piu := rfl
@[simp] theorem State.setList_emu (s : State) (r : Fin 64) (l : List (Fin 128)) : (s.setList r l).emu = s.emu := rfl
@[simp] theorem State.setList_pending (s : State) (r : Fin 64) (l : List (Fin 128)) :
    (s.setList r l).pending = s.pending := rfl
@[simp] theorem State.setList_issued (s : State) (r : Fin 64) (l : List (Fin 128)) :
    (s.setList r l).issued = s.issued := rfl
@[simp] theorem State.setList_passDue (s : State) (r : Fin 64) (l : List (Fin 128)) :
    (s.setList r l).passDue = s.passDue := rfl
@[simp] theorem State.setList_formerNodes (s : State) (r : Fin 64) (l : List (Fin 128)) :
    (s.setList r l).formerNodes = s.formerNodes := rfl
@[simp] theorem State.setList_robot (s : State) (r : Fin 64) (l : List (Fin 128)) (r' : Fin 64) :
    (s.setList r l).robot r' = s.robot r' := rfl
@[simp] theorem State.setList_station (s : State) (r : Fin 64) (l : List (Fin 128)) (st' : Fin 16) :
    (s.setList r l).station st' = s.station st' := rfl
@[simp] theorem State.setList_panel (s : State) (r : Fin 64) (l : List (Fin 128)) (st' : Fin 16) :
    (s.setList r l).panel st' = s.panel st' := rfl
@[simp] theorem State.setList_group (s : State) (r : Fin 64) (l : List (Fin 128)) (g' : Fin 8) :
    (s.setList r l).group g' = s.group g' := rfl
@[simp] theorem State.setList_bank (s : State) (r : Fin 64) (l : List (Fin 128)) (id' : BankId) :
    (s.setList r l).bank id' = s.bank id' := rfl
@[simp] theorem State.setList_stationStatus (s : State) (r : Fin 64) (l : List (Fin 128)) (st' : Fin 16) (n' : Fin 8) :
    (s.setList r l).stationStatus st' n' = s.stationStatus st' n' := rfl
@[simp] theorem State.setList_deviceStatus (s : State) (r : Fin 64) (l : List (Fin 128)) (n' : Fin 8) :
    (s.setList r l).deviceStatus n' = s.deviceStatus n' := rfl
@[simp] theorem State.setList_counter (s : State) (r : Fin 64) (l : List (Fin 128)) (k' : Fin 8) :
    (s.setList r l).counter k' = s.counter k' := rfl

/-! ## `State.setRobot` -/

@[simp] theorem State.setRobot_lif (s : State) (r : Fin 64) (x : Robot) : (s.setRobot r x).lif = s.lif := rfl
@[simp] theorem State.setRobot_mge (s : State) (r : Fin 64) (x : Robot) : (s.setRobot r x).mge = s.mge := rfl
@[simp] theorem State.setRobot_tbs (s : State) (r : Fin 64) (x : Robot) : (s.setRobot r x).tbs = s.tbs := rfl
@[simp] theorem State.setRobot_arq (s : State) (r : Fin 64) (x : Robot) : (s.setRobot r x).arq = s.arq := rfl
@[simp] theorem State.setRobot_dtr (s : State) (r : Fin 64) (x : Robot) : (s.setRobot r x).dtr = s.dtr := rfl
@[simp] theorem State.setRobot_spa (s : State) (r : Fin 64) (x : Robot) : (s.setRobot r x).spa = s.spa := rfl
@[simp] theorem State.setRobot_stc (s : State) (r : Fin 64) (x : Robot) : (s.setRobot r x).stc = s.stc := rfl
@[simp] theorem State.setRobot_piu (s : State) (r : Fin 64) (x : Robot) : (s.setRobot r x).piu = s.piu := rfl
@[simp] theorem State.setRobot_emu (s : State) (r : Fin 64) (x : Robot) : (s.setRobot r x).emu = s.emu := rfl
@[simp] theorem State.setRobot_pending (s : State) (r : Fin 64) (x : Robot) : (s.setRobot r x).pending = s.pending := rfl
@[simp] theorem State.setRobot_issued (s : State) (r : Fin 64) (x : Robot) : (s.setRobot r x).issued = s.issued := rfl
@[simp] theorem State.setRobot_passDue (s : State) (r : Fin 64) (x : Robot) : (s.setRobot r x).passDue = s.passDue := rfl
@[simp] theorem State.setRobot_formerNodes (s : State) (r : Fin 64) (x : Robot) :
    (s.setRobot r x).formerNodes = s.formerNodes := rfl
@[simp] theorem State.setRobot_place (s : State) (r : Fin 64) (x : Robot) (j : Fin 128) :
    (s.setRobot r x).place j = s.place j := rfl
@[simp] theorem State.setRobot_entry (s : State) (r : Fin 64) (x : Robot) (j : Fin 128) :
    (s.setRobot r x).entry? j = s.entry? j := rfl
@[simp] theorem State.setRobot_list (s : State) (r : Fin 64) (x : Robot) (r' : Fin 64) :
    (s.setRobot r x).list r' = s.list r' := rfl
@[simp] theorem State.setRobot_station (s : State) (r : Fin 64) (x : Robot) (st' : Fin 16) :
    (s.setRobot r x).station st' = s.station st' := rfl
@[simp] theorem State.setRobot_panel (s : State) (r : Fin 64) (x : Robot) (st' : Fin 16) :
    (s.setRobot r x).panel st' = s.panel st' := rfl
@[simp] theorem State.setRobot_group (s : State) (r : Fin 64) (x : Robot) (g' : Fin 8) :
    (s.setRobot r x).group g' = s.group g' := rfl
@[simp] theorem State.setRobot_bank (s : State) (r : Fin 64) (x : Robot) (id' : BankId) :
    (s.setRobot r x).bank id' = s.bank id' := rfl
@[simp] theorem State.setRobot_stationStatus (s : State) (r : Fin 64) (x : Robot) (st' : Fin 16) (n' : Fin 8) :
    (s.setRobot r x).stationStatus st' n' = s.stationStatus st' n' := rfl
@[simp] theorem State.setRobot_deviceStatus (s : State) (r : Fin 64) (x : Robot) (n' : Fin 8) :
    (s.setRobot r x).deviceStatus n' = s.deviceStatus n' := rfl
@[simp] theorem State.setRobot_counter (s : State) (r : Fin 64) (x : Robot) (k' : Fin 8) :
    (s.setRobot r x).counter k' = s.counter k' := rfl

/-! ## `State.setRobotState` -/

@[simp] theorem State.setRobotState_lif (s : State) (r : Fin 64) (x : RobotState) :
    (s.setRobotState r x).lif = s.lif := rfl
@[simp] theorem State.setRobotState_mge (s : State) (r : Fin 64) (x : RobotState) :
    (s.setRobotState r x).mge = s.mge := rfl
@[simp] theorem State.setRobotState_tbs (s : State) (r : Fin 64) (x : RobotState) :
    (s.setRobotState r x).tbs = s.tbs := rfl
@[simp] theorem State.setRobotState_arq (s : State) (r : Fin 64) (x : RobotState) :
    (s.setRobotState r x).arq = s.arq := rfl
@[simp] theorem State.setRobotState_dtr (s : State) (r : Fin 64) (x : RobotState) :
    (s.setRobotState r x).dtr = s.dtr := rfl
@[simp] theorem State.setRobotState_spa (s : State) (r : Fin 64) (x : RobotState) :
    (s.setRobotState r x).spa = s.spa := rfl
@[simp] theorem State.setRobotState_stc (s : State) (r : Fin 64) (x : RobotState) :
    (s.setRobotState r x).stc = s.stc := rfl
@[simp] theorem State.setRobotState_piu (s : State) (r : Fin 64) (x : RobotState) :
    (s.setRobotState r x).piu = s.piu := rfl
@[simp] theorem State.setRobotState_emu (s : State) (r : Fin 64) (x : RobotState) :
    (s.setRobotState r x).emu = s.emu := rfl
@[simp] theorem State.setRobotState_pending (s : State) (r : Fin 64) (x : RobotState) :
    (s.setRobotState r x).pending = s.pending := rfl
@[simp] theorem State.setRobotState_issued (s : State) (r : Fin 64) (x : RobotState) :
    (s.setRobotState r x).issued = s.issued := rfl
@[simp] theorem State.setRobotState_passDue (s : State) (r : Fin 64) (x : RobotState) :
    (s.setRobotState r x).passDue = s.passDue := rfl
@[simp] theorem State.setRobotState_formerNodes (s : State) (r : Fin 64) (x : RobotState) :
    (s.setRobotState r x).formerNodes = s.formerNodes := rfl
@[simp] theorem State.setRobotState_place (s : State) (r : Fin 64) (x : RobotState) (j : Fin 128) :
    (s.setRobotState r x).place j = s.place j := rfl
@[simp] theorem State.setRobotState_entry (s : State) (r : Fin 64) (x : RobotState) (j : Fin 128) :
    (s.setRobotState r x).entry? j = s.entry? j := rfl
@[simp] theorem State.setRobotState_list (s : State) (r : Fin 64) (x : RobotState) (r' : Fin 64) :
    (s.setRobotState r x).list r' = s.list r' := rfl
@[simp] theorem State.setRobotState_station (s : State) (r : Fin 64) (x : RobotState) (st' : Fin 16) :
    (s.setRobotState r x).station st' = s.station st' := rfl
@[simp] theorem State.setRobotState_panel (s : State) (r : Fin 64) (x : RobotState) (st' : Fin 16) :
    (s.setRobotState r x).panel st' = s.panel st' := rfl
@[simp] theorem State.setRobotState_group (s : State) (r : Fin 64) (x : RobotState) (g' : Fin 8) :
    (s.setRobotState r x).group g' = s.group g' := rfl
@[simp] theorem State.setRobotState_bank (s : State) (r : Fin 64) (x : RobotState) (id' : BankId) :
    (s.setRobotState r x).bank id' = s.bank id' := rfl
@[simp] theorem State.setRobotState_stationStatus (s : State) (r : Fin 64) (x : RobotState) (st' : Fin 16) (n' : Fin 8) :
    (s.setRobotState r x).stationStatus st' n' = s.stationStatus st' n' := rfl
@[simp] theorem State.setRobotState_deviceStatus (s : State) (r : Fin 64) (x : RobotState) (n' : Fin 8) :
    (s.setRobotState r x).deviceStatus n' = s.deviceStatus n' := rfl
@[simp] theorem State.setRobotState_counter (s : State) (r : Fin 64) (x : RobotState) (k' : Fin 8) :
    (s.setRobotState r x).counter k' = s.counter k' := rfl

/-! ## `State.setStation` -/

@[simp] theorem State.setStation_lif (s : State) (st : Fin 16) (x : Station) : (s.setStation st x).lif = s.lif := rfl
@[simp] theorem State.setStation_mge (s : State) (st : Fin 16) (x : Station) : (s.setStation st x).mge = s.mge := rfl
@[simp] theorem State.setStation_tbs (s : State) (st : Fin 16) (x : Station) : (s.setStation st x).tbs = s.tbs := rfl
@[simp] theorem State.setStation_arq (s : State) (st : Fin 16) (x : Station) : (s.setStation st x).arq = s.arq := rfl
@[simp] theorem State.setStation_dtr (s : State) (st : Fin 16) (x : Station) : (s.setStation st x).dtr = s.dtr := rfl
@[simp] theorem State.setStation_rbc (s : State) (st : Fin 16) (x : Station) : (s.setStation st x).rbc = s.rbc := rfl
@[simp] theorem State.setStation_spa (s : State) (st : Fin 16) (x : Station) : (s.setStation st x).spa = s.spa := rfl
@[simp] theorem State.setStation_piu (s : State) (st : Fin 16) (x : Station) : (s.setStation st x).piu = s.piu := rfl
@[simp] theorem State.setStation_emu (s : State) (st : Fin 16) (x : Station) : (s.setStation st x).emu = s.emu := rfl
@[simp] theorem State.setStation_pending (s : State) (st : Fin 16) (x : Station) :
    (s.setStation st x).pending = s.pending := rfl
@[simp] theorem State.setStation_issued (s : State) (st : Fin 16) (x : Station) :
    (s.setStation st x).issued = s.issued := rfl
@[simp] theorem State.setStation_passDue (s : State) (st : Fin 16) (x : Station) :
    (s.setStation st x).passDue = s.passDue := rfl
@[simp] theorem State.setStation_formerNodes (s : State) (st : Fin 16) (x : Station) :
    (s.setStation st x).formerNodes = s.formerNodes := rfl
@[simp] theorem State.setStation_place (s : State) (st : Fin 16) (x : Station) (j : Fin 128) :
    (s.setStation st x).place j = s.place j := rfl
@[simp] theorem State.setStation_entry (s : State) (st : Fin 16) (x : Station) (j : Fin 128) :
    (s.setStation st x).entry? j = s.entry? j := rfl
@[simp] theorem State.setStation_list (s : State) (st : Fin 16) (x : Station) (r' : Fin 64) :
    (s.setStation st x).list r' = s.list r' := rfl
@[simp] theorem State.setStation_robot (s : State) (st : Fin 16) (x : Station) (r' : Fin 64) :
    (s.setStation st x).robot r' = s.robot r' := rfl
@[simp] theorem State.setStation_panel (s : State) (st : Fin 16) (x : Station) (st' : Fin 16) :
    (s.setStation st x).panel st' = s.panel st' := rfl
@[simp] theorem State.setStation_group (s : State) (st : Fin 16) (x : Station) (g' : Fin 8) :
    (s.setStation st x).group g' = s.group g' := rfl
@[simp] theorem State.setStation_bank (s : State) (st : Fin 16) (x : Station) (id' : BankId) :
    (s.setStation st x).bank id' = s.bank id' := rfl
@[simp] theorem State.setStation_stationStatus (s : State) (st : Fin 16) (x : Station) (st' : Fin 16) (n' : Fin 8) :
    (s.setStation st x).stationStatus st' n' = s.stationStatus st' n' := rfl
@[simp] theorem State.setStation_deviceStatus (s : State) (st : Fin 16) (x : Station) (n' : Fin 8) :
    (s.setStation st x).deviceStatus n' = s.deviceStatus n' := rfl
@[simp] theorem State.setStation_counter (s : State) (st : Fin 16) (x : Station) (k' : Fin 8) :
    (s.setStation st x).counter k' = s.counter k' := rfl

/-! ## `State.setPanel` -/

@[simp] theorem State.setPanel_lif (s : State) (st : Fin 16) (x : Panel) : (s.setPanel st x).lif = s.lif := rfl
@[simp] theorem State.setPanel_mge (s : State) (st : Fin 16) (x : Panel) : (s.setPanel st x).mge = s.mge := rfl
@[simp] theorem State.setPanel_tbs (s : State) (st : Fin 16) (x : Panel) : (s.setPanel st x).tbs = s.tbs := rfl
@[simp] theorem State.setPanel_arq (s : State) (st : Fin 16) (x : Panel) : (s.setPanel st x).arq = s.arq := rfl
@[simp] theorem State.setPanel_dtr (s : State) (st : Fin 16) (x : Panel) : (s.setPanel st x).dtr = s.dtr := rfl
@[simp] theorem State.setPanel_rbc (s : State) (st : Fin 16) (x : Panel) : (s.setPanel st x).rbc = s.rbc := rfl
@[simp] theorem State.setPanel_spa (s : State) (st : Fin 16) (x : Panel) : (s.setPanel st x).spa = s.spa := rfl
@[simp] theorem State.setPanel_stc (s : State) (st : Fin 16) (x : Panel) : (s.setPanel st x).stc = s.stc := rfl
@[simp] theorem State.setPanel_emu (s : State) (st : Fin 16) (x : Panel) : (s.setPanel st x).emu = s.emu := rfl
@[simp] theorem State.setPanel_pending (s : State) (st : Fin 16) (x : Panel) :
    (s.setPanel st x).pending = s.pending := rfl
@[simp] theorem State.setPanel_issued (s : State) (st : Fin 16) (x : Panel) : (s.setPanel st x).issued = s.issued := rfl
@[simp] theorem State.setPanel_passDue (s : State) (st : Fin 16) (x : Panel) :
    (s.setPanel st x).passDue = s.passDue := rfl
@[simp] theorem State.setPanel_formerNodes (s : State) (st : Fin 16) (x : Panel) :
    (s.setPanel st x).formerNodes = s.formerNodes := rfl
@[simp] theorem State.setPanel_place (s : State) (st : Fin 16) (x : Panel) (j : Fin 128) :
    (s.setPanel st x).place j = s.place j := rfl
@[simp] theorem State.setPanel_entry (s : State) (st : Fin 16) (x : Panel) (j : Fin 128) :
    (s.setPanel st x).entry? j = s.entry? j := rfl
@[simp] theorem State.setPanel_list (s : State) (st : Fin 16) (x : Panel) (r' : Fin 64) :
    (s.setPanel st x).list r' = s.list r' := rfl
@[simp] theorem State.setPanel_robot (s : State) (st : Fin 16) (x : Panel) (r' : Fin 64) :
    (s.setPanel st x).robot r' = s.robot r' := rfl
@[simp] theorem State.setPanel_station (s : State) (st : Fin 16) (x : Panel) (st' : Fin 16) :
    (s.setPanel st x).station st' = s.station st' := rfl
@[simp] theorem State.setPanel_group (s : State) (st : Fin 16) (x : Panel) (g' : Fin 8) :
    (s.setPanel st x).group g' = s.group g' := rfl
@[simp] theorem State.setPanel_bank (s : State) (st : Fin 16) (x : Panel) (id' : BankId) :
    (s.setPanel st x).bank id' = s.bank id' := rfl
@[simp] theorem State.setPanel_stationStatus (s : State) (st : Fin 16) (x : Panel) (st' : Fin 16) (n' : Fin 8) :
    (s.setPanel st x).stationStatus st' n' = s.stationStatus st' n' := rfl
@[simp] theorem State.setPanel_deviceStatus (s : State) (st : Fin 16) (x : Panel) (n' : Fin 8) :
    (s.setPanel st x).deviceStatus n' = s.deviceStatus n' := rfl
@[simp] theorem State.setPanel_counter (s : State) (st : Fin 16) (x : Panel) (k' : Fin 8) :
    (s.setPanel st x).counter k' = s.counter k' := rfl

/-! ## `State.setBit` -/

@[simp] theorem State.setBit_lif (s : State) (st : Fin 16) (b : Fin 4) (x : OutputBit) :
    (s.setBit st b x).lif = s.lif := rfl
@[simp] theorem State.setBit_mge (s : State) (st : Fin 16) (b : Fin 4) (x : OutputBit) :
    (s.setBit st b x).mge = s.mge := rfl
@[simp] theorem State.setBit_tbs (s : State) (st : Fin 16) (b : Fin 4) (x : OutputBit) :
    (s.setBit st b x).tbs = s.tbs := rfl
@[simp] theorem State.setBit_arq (s : State) (st : Fin 16) (b : Fin 4) (x : OutputBit) :
    (s.setBit st b x).arq = s.arq := rfl
@[simp] theorem State.setBit_dtr (s : State) (st : Fin 16) (b : Fin 4) (x : OutputBit) :
    (s.setBit st b x).dtr = s.dtr := rfl
@[simp] theorem State.setBit_rbc (s : State) (st : Fin 16) (b : Fin 4) (x : OutputBit) :
    (s.setBit st b x).rbc = s.rbc := rfl
@[simp] theorem State.setBit_spa (s : State) (st : Fin 16) (b : Fin 4) (x : OutputBit) :
    (s.setBit st b x).spa = s.spa := rfl
@[simp] theorem State.setBit_stc (s : State) (st : Fin 16) (b : Fin 4) (x : OutputBit) :
    (s.setBit st b x).stc = s.stc := rfl
@[simp] theorem State.setBit_emu (s : State) (st : Fin 16) (b : Fin 4) (x : OutputBit) :
    (s.setBit st b x).emu = s.emu := rfl
@[simp] theorem State.setBit_pending (s : State) (st : Fin 16) (b : Fin 4) (x : OutputBit) :
    (s.setBit st b x).pending = s.pending := rfl
@[simp] theorem State.setBit_issued (s : State) (st : Fin 16) (b : Fin 4) (x : OutputBit) :
    (s.setBit st b x).issued = s.issued := rfl
@[simp] theorem State.setBit_passDue (s : State) (st : Fin 16) (b : Fin 4) (x : OutputBit) :
    (s.setBit st b x).passDue = s.passDue := rfl
@[simp] theorem State.setBit_formerNodes (s : State) (st : Fin 16) (b : Fin 4) (x : OutputBit) :
    (s.setBit st b x).formerNodes = s.formerNodes := rfl
@[simp] theorem State.setBit_place (s : State) (st : Fin 16) (b : Fin 4) (x : OutputBit) (j : Fin 128) :
    (s.setBit st b x).place j = s.place j := rfl
@[simp] theorem State.setBit_entry (s : State) (st : Fin 16) (b : Fin 4) (x : OutputBit) (j : Fin 128) :
    (s.setBit st b x).entry? j = s.entry? j := rfl
@[simp] theorem State.setBit_list (s : State) (st : Fin 16) (b : Fin 4) (x : OutputBit) (r' : Fin 64) :
    (s.setBit st b x).list r' = s.list r' := rfl
@[simp] theorem State.setBit_robot (s : State) (st : Fin 16) (b : Fin 4) (x : OutputBit) (r' : Fin 64) :
    (s.setBit st b x).robot r' = s.robot r' := rfl
@[simp] theorem State.setBit_station (s : State) (st : Fin 16) (b : Fin 4) (x : OutputBit) (st' : Fin 16) :
    (s.setBit st b x).station st' = s.station st' := rfl
@[simp] theorem State.setBit_group (s : State) (st : Fin 16) (b : Fin 4) (x : OutputBit) (g' : Fin 8) :
    (s.setBit st b x).group g' = s.group g' := rfl
@[simp] theorem State.setBit_bank (s : State) (st : Fin 16) (b : Fin 4) (x : OutputBit) (id' : BankId) :
    (s.setBit st b x).bank id' = s.bank id' := rfl
@[simp] theorem State.setBit_stationStatus (s : State) (st : Fin 16) (b : Fin 4) (x : OutputBit) (st' : Fin 16) (n' : Fin 8) :
    (s.setBit st b x).stationStatus st' n' = s.stationStatus st' n' := rfl
@[simp] theorem State.setBit_deviceStatus (s : State) (st : Fin 16) (b : Fin 4) (x : OutputBit) (n' : Fin 8) :
    (s.setBit st b x).deviceStatus n' = s.deviceStatus n' := rfl
@[simp] theorem State.setBit_counter (s : State) (st : Fin 16) (b : Fin 4) (x : OutputBit) (k' : Fin 8) :
    (s.setBit st b x).counter k' = s.counter k' := rfl

/-! ## `State.setGroup` -/

@[simp] theorem State.setGroup_lif (s : State) (g : Fin 8) (x : Group) : (s.setGroup g x).lif = s.lif := rfl
@[simp] theorem State.setGroup_mge (s : State) (g : Fin 8) (x : Group) : (s.setGroup g x).mge = s.mge := rfl
@[simp] theorem State.setGroup_tbs (s : State) (g : Fin 8) (x : Group) : (s.setGroup g x).tbs = s.tbs := rfl
@[simp] theorem State.setGroup_arq (s : State) (g : Fin 8) (x : Group) : (s.setGroup g x).arq = s.arq := rfl
@[simp] theorem State.setGroup_dtr (s : State) (g : Fin 8) (x : Group) : (s.setGroup g x).dtr = s.dtr := rfl
@[simp] theorem State.setGroup_rbc (s : State) (g : Fin 8) (x : Group) : (s.setGroup g x).rbc = s.rbc := rfl
@[simp] theorem State.setGroup_stc (s : State) (g : Fin 8) (x : Group) : (s.setGroup g x).stc = s.stc := rfl
@[simp] theorem State.setGroup_piu (s : State) (g : Fin 8) (x : Group) : (s.setGroup g x).piu = s.piu := rfl
@[simp] theorem State.setGroup_emu (s : State) (g : Fin 8) (x : Group) : (s.setGroup g x).emu = s.emu := rfl
@[simp] theorem State.setGroup_pending (s : State) (g : Fin 8) (x : Group) : (s.setGroup g x).pending = s.pending := rfl
@[simp] theorem State.setGroup_issued (s : State) (g : Fin 8) (x : Group) : (s.setGroup g x).issued = s.issued := rfl
@[simp] theorem State.setGroup_passDue (s : State) (g : Fin 8) (x : Group) : (s.setGroup g x).passDue = s.passDue := rfl
@[simp] theorem State.setGroup_formerNodes (s : State) (g : Fin 8) (x : Group) :
    (s.setGroup g x).formerNodes = s.formerNodes := rfl
@[simp] theorem State.setGroup_place (s : State) (g : Fin 8) (x : Group) (j : Fin 128) :
    (s.setGroup g x).place j = s.place j := rfl
@[simp] theorem State.setGroup_entry (s : State) (g : Fin 8) (x : Group) (j : Fin 128) :
    (s.setGroup g x).entry? j = s.entry? j := rfl
@[simp] theorem State.setGroup_list (s : State) (g : Fin 8) (x : Group) (r' : Fin 64) :
    (s.setGroup g x).list r' = s.list r' := rfl
@[simp] theorem State.setGroup_robot (s : State) (g : Fin 8) (x : Group) (r' : Fin 64) :
    (s.setGroup g x).robot r' = s.robot r' := rfl
@[simp] theorem State.setGroup_station (s : State) (g : Fin 8) (x : Group) (st' : Fin 16) :
    (s.setGroup g x).station st' = s.station st' := rfl
@[simp] theorem State.setGroup_panel (s : State) (g : Fin 8) (x : Group) (st' : Fin 16) :
    (s.setGroup g x).panel st' = s.panel st' := rfl
@[simp] theorem State.setGroup_bank (s : State) (g : Fin 8) (x : Group) (id' : BankId) :
    (s.setGroup g x).bank id' = s.bank id' := rfl
@[simp] theorem State.setGroup_stationStatus (s : State) (g : Fin 8) (x : Group) (st' : Fin 16) (n' : Fin 8) :
    (s.setGroup g x).stationStatus st' n' = s.stationStatus st' n' := rfl
@[simp] theorem State.setGroup_deviceStatus (s : State) (g : Fin 8) (x : Group) (n' : Fin 8) :
    (s.setGroup g x).deviceStatus n' = s.deviceStatus n' := rfl
@[simp] theorem State.setGroup_counter (s : State) (g : Fin 8) (x : Group) (k' : Fin 8) :
    (s.setGroup g x).counter k' = s.counter k' := rfl

/-! ## `State.setBank` -/

@[simp] theorem State.setBank_lif (s : State) (id : BankId) (x : Bank) :
    (s.setBank id x).lif = s.lif := by cases id <;> rfl
@[simp] theorem State.setBank_mge (s : State) (id : BankId) (x : Bank) :
    (s.setBank id x).mge = s.mge := by cases id <;> rfl
@[simp] theorem State.setBank_arq (s : State) (id : BankId) (x : Bank) :
    (s.setBank id x).arq = s.arq := by cases id <;> rfl
@[simp] theorem State.setBank_dtr (s : State) (id : BankId) (x : Bank) :
    (s.setBank id x).dtr = s.dtr := by cases id <;> rfl
@[simp] theorem State.setBank_rbc (s : State) (id : BankId) (x : Bank) :
    (s.setBank id x).rbc = s.rbc := by cases id <;> rfl
@[simp] theorem State.setBank_spa (s : State) (id : BankId) (x : Bank) :
    (s.setBank id x).spa = s.spa := by cases id <;> rfl
@[simp] theorem State.setBank_stc (s : State) (id : BankId) (x : Bank) :
    (s.setBank id x).stc = s.stc := by cases id <;> rfl
@[simp] theorem State.setBank_piu (s : State) (id : BankId) (x : Bank) :
    (s.setBank id x).piu = s.piu := by cases id <;> rfl
@[simp] theorem State.setBank_emu (s : State) (id : BankId) (x : Bank) :
    (s.setBank id x).emu = s.emu := by cases id <;> rfl
@[simp] theorem State.setBank_pending (s : State) (id : BankId) (x : Bank) :
    (s.setBank id x).pending = s.pending := by cases id <;> rfl
@[simp] theorem State.setBank_issued (s : State) (id : BankId) (x : Bank) :
    (s.setBank id x).issued = s.issued := by cases id <;> rfl
@[simp] theorem State.setBank_passDue (s : State) (id : BankId) (x : Bank) :
    (s.setBank id x).passDue = s.passDue := by cases id <;> rfl
@[simp] theorem State.setBank_formerNodes (s : State) (id : BankId) (x : Bank) :
    (s.setBank id x).formerNodes = s.formerNodes := by cases id <;> rfl
@[simp] theorem State.setBank_place (s : State) (id : BankId) (x : Bank) (j : Fin 128) :
    (s.setBank id x).place j = s.place j := by cases id <;> rfl
@[simp] theorem State.setBank_entry (s : State) (id : BankId) (x : Bank) (j : Fin 128) :
    (s.setBank id x).entry? j = s.entry? j := by cases id <;> rfl
@[simp] theorem State.setBank_list (s : State) (id : BankId) (x : Bank) (r' : Fin 64) :
    (s.setBank id x).list r' = s.list r' := by cases id <;> rfl
@[simp] theorem State.setBank_robot (s : State) (id : BankId) (x : Bank) (r' : Fin 64) :
    (s.setBank id x).robot r' = s.robot r' := by cases id <;> rfl
@[simp] theorem State.setBank_station (s : State) (id : BankId) (x : Bank) (st' : Fin 16) :
    (s.setBank id x).station st' = s.station st' := by cases id <;> rfl
@[simp] theorem State.setBank_panel (s : State) (id : BankId) (x : Bank) (st' : Fin 16) :
    (s.setBank id x).panel st' = s.panel st' := by cases id <;> rfl
@[simp] theorem State.setBank_group (s : State) (id : BankId) (x : Bank) (g' : Fin 8) :
    (s.setBank id x).group g' = s.group g' := by cases id <;> rfl
@[simp] theorem State.setBank_stationStatus (s : State) (id : BankId) (x : Bank) (st' : Fin 16) (n' : Fin 8) :
    (s.setBank id x).stationStatus st' n' = s.stationStatus st' n' := by cases id <;> rfl
@[simp] theorem State.setBank_deviceStatus (s : State) (id : BankId) (x : Bank) (n' : Fin 8) :
    (s.setBank id x).deviceStatus n' = s.deviceStatus n' := by cases id <;> rfl
@[simp] theorem State.setBank_counter (s : State) (id : BankId) (x : Bank) (k' : Fin 8) :
    (s.setBank id x).counter k' = s.counter k' := by cases id <;> rfl

/-! ## `State.setQueue` -/

@[simp] theorem State.setQueue_lif (s : State) (q : List Arrival) : (s.setQueue q).lif = s.lif := rfl
@[simp] theorem State.setQueue_mge (s : State) (q : List Arrival) : (s.setQueue q).mge = s.mge := rfl
@[simp] theorem State.setQueue_tbs (s : State) (q : List Arrival) : (s.setQueue q).tbs = s.tbs := rfl
@[simp] theorem State.setQueue_dtr (s : State) (q : List Arrival) : (s.setQueue q).dtr = s.dtr := rfl
@[simp] theorem State.setQueue_rbc (s : State) (q : List Arrival) : (s.setQueue q).rbc = s.rbc := rfl
@[simp] theorem State.setQueue_spa (s : State) (q : List Arrival) : (s.setQueue q).spa = s.spa := rfl
@[simp] theorem State.setQueue_stc (s : State) (q : List Arrival) : (s.setQueue q).stc = s.stc := rfl
@[simp] theorem State.setQueue_piu (s : State) (q : List Arrival) : (s.setQueue q).piu = s.piu := rfl
@[simp] theorem State.setQueue_emu (s : State) (q : List Arrival) : (s.setQueue q).emu = s.emu := rfl
@[simp] theorem State.setQueue_pending (s : State) (q : List Arrival) : (s.setQueue q).pending = s.pending := rfl
@[simp] theorem State.setQueue_issued (s : State) (q : List Arrival) : (s.setQueue q).issued = s.issued := rfl
@[simp] theorem State.setQueue_passDue (s : State) (q : List Arrival) : (s.setQueue q).passDue = s.passDue := rfl
@[simp] theorem State.setQueue_formerNodes (s : State) (q : List Arrival) :
    (s.setQueue q).formerNodes = s.formerNodes := rfl
@[simp] theorem State.setQueue_place (s : State) (q : List Arrival) (j : Fin 128) :
    (s.setQueue q).place j = s.place j := rfl
@[simp] theorem State.setQueue_entry (s : State) (q : List Arrival) (j : Fin 128) :
    (s.setQueue q).entry? j = s.entry? j := rfl
@[simp] theorem State.setQueue_list (s : State) (q : List Arrival) (r' : Fin 64) :
    (s.setQueue q).list r' = s.list r' := rfl
@[simp] theorem State.setQueue_robot (s : State) (q : List Arrival) (r' : Fin 64) :
    (s.setQueue q).robot r' = s.robot r' := rfl
@[simp] theorem State.setQueue_station (s : State) (q : List Arrival) (st' : Fin 16) :
    (s.setQueue q).station st' = s.station st' := rfl
@[simp] theorem State.setQueue_panel (s : State) (q : List Arrival) (st' : Fin 16) :
    (s.setQueue q).panel st' = s.panel st' := rfl
@[simp] theorem State.setQueue_group (s : State) (q : List Arrival) (g' : Fin 8) :
    (s.setQueue q).group g' = s.group g' := rfl
@[simp] theorem State.setQueue_bank (s : State) (q : List Arrival) (id' : BankId) :
    (s.setQueue q).bank id' = s.bank id' := rfl
@[simp] theorem State.setQueue_stationStatus (s : State) (q : List Arrival) (st' : Fin 16) (n' : Fin 8) :
    (s.setQueue q).stationStatus st' n' = s.stationStatus st' n' := rfl
@[simp] theorem State.setQueue_deviceStatus (s : State) (q : List Arrival) (n' : Fin 8) :
    (s.setQueue q).deviceStatus n' = s.deviceStatus n' := rfl
@[simp] theorem State.setQueue_counter (s : State) (q : List Arrival) (k' : Fin 8) :
    (s.setQueue q).counter k' = s.counter k' := rfl

/-! ## `State.setRequests` -/

@[simp] theorem State.setRequests_lif (s : State) (q : List MgmtEntry) : (s.setRequests q).lif = s.lif := rfl
@[simp] theorem State.setRequests_tbs (s : State) (q : List MgmtEntry) : (s.setRequests q).tbs = s.tbs := rfl
@[simp] theorem State.setRequests_arq (s : State) (q : List MgmtEntry) : (s.setRequests q).arq = s.arq := rfl
@[simp] theorem State.setRequests_dtr (s : State) (q : List MgmtEntry) : (s.setRequests q).dtr = s.dtr := rfl
@[simp] theorem State.setRequests_rbc (s : State) (q : List MgmtEntry) : (s.setRequests q).rbc = s.rbc := rfl
@[simp] theorem State.setRequests_spa (s : State) (q : List MgmtEntry) : (s.setRequests q).spa = s.spa := rfl
@[simp] theorem State.setRequests_stc (s : State) (q : List MgmtEntry) : (s.setRequests q).stc = s.stc := rfl
@[simp] theorem State.setRequests_piu (s : State) (q : List MgmtEntry) : (s.setRequests q).piu = s.piu := rfl
@[simp] theorem State.setRequests_emu (s : State) (q : List MgmtEntry) : (s.setRequests q).emu = s.emu := rfl
@[simp] theorem State.setRequests_pending (s : State) (q : List MgmtEntry) : (s.setRequests q).pending = s.pending := rfl
@[simp] theorem State.setRequests_issued (s : State) (q : List MgmtEntry) : (s.setRequests q).issued = s.issued := rfl
@[simp] theorem State.setRequests_passDue (s : State) (q : List MgmtEntry) : (s.setRequests q).passDue = s.passDue := rfl
@[simp] theorem State.setRequests_formerNodes (s : State) (q : List MgmtEntry) :
    (s.setRequests q).formerNodes = s.formerNodes := rfl
@[simp] theorem State.setRequests_place (s : State) (q : List MgmtEntry) (j : Fin 128) :
    (s.setRequests q).place j = s.place j := rfl
@[simp] theorem State.setRequests_entry (s : State) (q : List MgmtEntry) (j : Fin 128) :
    (s.setRequests q).entry? j = s.entry? j := rfl
@[simp] theorem State.setRequests_list (s : State) (q : List MgmtEntry) (r' : Fin 64) :
    (s.setRequests q).list r' = s.list r' := rfl
@[simp] theorem State.setRequests_robot (s : State) (q : List MgmtEntry) (r' : Fin 64) :
    (s.setRequests q).robot r' = s.robot r' := rfl
@[simp] theorem State.setRequests_station (s : State) (q : List MgmtEntry) (st' : Fin 16) :
    (s.setRequests q).station st' = s.station st' := rfl
@[simp] theorem State.setRequests_panel (s : State) (q : List MgmtEntry) (st' : Fin 16) :
    (s.setRequests q).panel st' = s.panel st' := rfl
@[simp] theorem State.setRequests_group (s : State) (q : List MgmtEntry) (g' : Fin 8) :
    (s.setRequests q).group g' = s.group g' := rfl
@[simp] theorem State.setRequests_bank (s : State) (q : List MgmtEntry) (id' : BankId) :
    (s.setRequests q).bank id' = s.bank id' := rfl
@[simp] theorem State.setRequests_stationStatus (s : State) (q : List MgmtEntry) (st' : Fin 16) (n' : Fin 8) :
    (s.setRequests q).stationStatus st' n' = s.stationStatus st' n' := rfl
@[simp] theorem State.setRequests_deviceStatus (s : State) (q : List MgmtEntry) (n' : Fin 8) :
    (s.setRequests q).deviceStatus n' = s.deviceStatus n' := rfl
@[simp] theorem State.setRequests_counter (s : State) (q : List MgmtEntry) (k' : Fin 8) :
    (s.setRequests q).counter k' = s.counter k' := rfl

/-! ## `State.setFreeze` -/

@[simp] theorem State.setFreeze_lif (s : State) (b : Bool) : (s.setFreeze b).lif = s.lif := rfl
@[simp] theorem State.setFreeze_mge (s : State) (b : Bool) : (s.setFreeze b).mge = s.mge := rfl
@[simp] theorem State.setFreeze_tbs (s : State) (b : Bool) : (s.setFreeze b).tbs = s.tbs := rfl
@[simp] theorem State.setFreeze_arq (s : State) (b : Bool) : (s.setFreeze b).arq = s.arq := rfl
@[simp] theorem State.setFreeze_dtr (s : State) (b : Bool) : (s.setFreeze b).dtr = s.dtr := rfl
@[simp] theorem State.setFreeze_rbc (s : State) (b : Bool) : (s.setFreeze b).rbc = s.rbc := rfl
@[simp] theorem State.setFreeze_spa (s : State) (b : Bool) : (s.setFreeze b).spa = s.spa := rfl
@[simp] theorem State.setFreeze_stc (s : State) (b : Bool) : (s.setFreeze b).stc = s.stc := rfl
@[simp] theorem State.setFreeze_piu (s : State) (b : Bool) : (s.setFreeze b).piu = s.piu := rfl
@[simp] theorem State.setFreeze_pending (s : State) (b : Bool) : (s.setFreeze b).pending = s.pending := rfl
@[simp] theorem State.setFreeze_issued (s : State) (b : Bool) : (s.setFreeze b).issued = s.issued := rfl
@[simp] theorem State.setFreeze_passDue (s : State) (b : Bool) : (s.setFreeze b).passDue = s.passDue := rfl
@[simp] theorem State.setFreeze_formerNodes (s : State) (b : Bool) : (s.setFreeze b).formerNodes = s.formerNodes := rfl
@[simp] theorem State.setFreeze_place (s : State) (b : Bool) (j : Fin 128) : (s.setFreeze b).place j = s.place j := rfl
@[simp] theorem State.setFreeze_entry (s : State) (b : Bool) (j : Fin 128) : (s.setFreeze b).entry? j = s.entry? j := rfl
@[simp] theorem State.setFreeze_list (s : State) (b : Bool) (r' : Fin 64) : (s.setFreeze b).list r' = s.list r' := rfl
@[simp] theorem State.setFreeze_robot (s : State) (b : Bool) (r' : Fin 64) : (s.setFreeze b).robot r' = s.robot r' := rfl
@[simp] theorem State.setFreeze_station (s : State) (b : Bool) (st' : Fin 16) :
    (s.setFreeze b).station st' = s.station st' := rfl
@[simp] theorem State.setFreeze_panel (s : State) (b : Bool) (st' : Fin 16) :
    (s.setFreeze b).panel st' = s.panel st' := rfl
@[simp] theorem State.setFreeze_group (s : State) (b : Bool) (g' : Fin 8) : (s.setFreeze b).group g' = s.group g' := rfl
@[simp] theorem State.setFreeze_bank (s : State) (b : Bool) (id' : BankId) : (s.setFreeze b).bank id' = s.bank id' := rfl

/-! ## `State.setStationStatus` -/

@[simp] theorem State.setStationStatus_lif (s : State) (st : Fin 16) (n : Fin 8) (x : Status) :
    (s.setStationStatus st n x).lif = s.lif := rfl
@[simp] theorem State.setStationStatus_mge (s : State) (st : Fin 16) (n : Fin 8) (x : Status) :
    (s.setStationStatus st n x).mge = s.mge := rfl
@[simp] theorem State.setStationStatus_tbs (s : State) (st : Fin 16) (n : Fin 8) (x : Status) :
    (s.setStationStatus st n x).tbs = s.tbs := rfl
@[simp] theorem State.setStationStatus_arq (s : State) (st : Fin 16) (n : Fin 8) (x : Status) :
    (s.setStationStatus st n x).arq = s.arq := rfl
@[simp] theorem State.setStationStatus_dtr (s : State) (st : Fin 16) (n : Fin 8) (x : Status) :
    (s.setStationStatus st n x).dtr = s.dtr := rfl
@[simp] theorem State.setStationStatus_rbc (s : State) (st : Fin 16) (n : Fin 8) (x : Status) :
    (s.setStationStatus st n x).rbc = s.rbc := rfl
@[simp] theorem State.setStationStatus_spa (s : State) (st : Fin 16) (n : Fin 8) (x : Status) :
    (s.setStationStatus st n x).spa = s.spa := rfl
@[simp] theorem State.setStationStatus_stc (s : State) (st : Fin 16) (n : Fin 8) (x : Status) :
    (s.setStationStatus st n x).stc = s.stc := rfl
@[simp] theorem State.setStationStatus_piu (s : State) (st : Fin 16) (n : Fin 8) (x : Status) :
    (s.setStationStatus st n x).piu = s.piu := rfl
@[simp] theorem State.setStationStatus_pending (s : State) (st : Fin 16) (n : Fin 8) (x : Status) :
    (s.setStationStatus st n x).pending = s.pending := rfl
@[simp] theorem State.setStationStatus_issued (s : State) (st : Fin 16) (n : Fin 8) (x : Status) :
    (s.setStationStatus st n x).issued = s.issued := rfl
@[simp] theorem State.setStationStatus_passDue (s : State) (st : Fin 16) (n : Fin 8) (x : Status) :
    (s.setStationStatus st n x).passDue = s.passDue := rfl
@[simp] theorem State.setStationStatus_formerNodes (s : State) (st : Fin 16) (n : Fin 8) (x : Status) :
    (s.setStationStatus st n x).formerNodes = s.formerNodes := rfl
@[simp] theorem State.setStationStatus_place (s : State) (st : Fin 16) (n : Fin 8) (x : Status) (j : Fin 128) :
    (s.setStationStatus st n x).place j = s.place j := rfl
@[simp] theorem State.setStationStatus_entry (s : State) (st : Fin 16) (n : Fin 8) (x : Status) (j : Fin 128) :
    (s.setStationStatus st n x).entry? j = s.entry? j := rfl
@[simp] theorem State.setStationStatus_list (s : State) (st : Fin 16) (n : Fin 8) (x : Status) (r' : Fin 64) :
    (s.setStationStatus st n x).list r' = s.list r' := rfl
@[simp] theorem State.setStationStatus_robot (s : State) (st : Fin 16) (n : Fin 8) (x : Status) (r' : Fin 64) :
    (s.setStationStatus st n x).robot r' = s.robot r' := rfl
@[simp] theorem State.setStationStatus_station (s : State) (st : Fin 16) (n : Fin 8) (x : Status) (st' : Fin 16) :
    (s.setStationStatus st n x).station st' = s.station st' := rfl
@[simp] theorem State.setStationStatus_panel (s : State) (st : Fin 16) (n : Fin 8) (x : Status) (st' : Fin 16) :
    (s.setStationStatus st n x).panel st' = s.panel st' := rfl
@[simp] theorem State.setStationStatus_group (s : State) (st : Fin 16) (n : Fin 8) (x : Status) (g' : Fin 8) :
    (s.setStationStatus st n x).group g' = s.group g' := rfl
@[simp] theorem State.setStationStatus_bank (s : State) (st : Fin 16) (n : Fin 8) (x : Status) (id' : BankId) :
    (s.setStationStatus st n x).bank id' = s.bank id' := rfl

/-! ## `State.setDeviceStatus` -/

@[simp] theorem State.setDeviceStatus_lif (s : State) (n : Fin 8) (x : Status) :
    (s.setDeviceStatus n x).lif = s.lif := rfl
@[simp] theorem State.setDeviceStatus_mge (s : State) (n : Fin 8) (x : Status) :
    (s.setDeviceStatus n x).mge = s.mge := rfl
@[simp] theorem State.setDeviceStatus_tbs (s : State) (n : Fin 8) (x : Status) :
    (s.setDeviceStatus n x).tbs = s.tbs := rfl
@[simp] theorem State.setDeviceStatus_arq (s : State) (n : Fin 8) (x : Status) :
    (s.setDeviceStatus n x).arq = s.arq := rfl
@[simp] theorem State.setDeviceStatus_dtr (s : State) (n : Fin 8) (x : Status) :
    (s.setDeviceStatus n x).dtr = s.dtr := rfl
@[simp] theorem State.setDeviceStatus_rbc (s : State) (n : Fin 8) (x : Status) :
    (s.setDeviceStatus n x).rbc = s.rbc := rfl
@[simp] theorem State.setDeviceStatus_spa (s : State) (n : Fin 8) (x : Status) :
    (s.setDeviceStatus n x).spa = s.spa := rfl
@[simp] theorem State.setDeviceStatus_stc (s : State) (n : Fin 8) (x : Status) :
    (s.setDeviceStatus n x).stc = s.stc := rfl
@[simp] theorem State.setDeviceStatus_piu (s : State) (n : Fin 8) (x : Status) :
    (s.setDeviceStatus n x).piu = s.piu := rfl
@[simp] theorem State.setDeviceStatus_pending (s : State) (n : Fin 8) (x : Status) :
    (s.setDeviceStatus n x).pending = s.pending := rfl
@[simp] theorem State.setDeviceStatus_issued (s : State) (n : Fin 8) (x : Status) :
    (s.setDeviceStatus n x).issued = s.issued := rfl
@[simp] theorem State.setDeviceStatus_passDue (s : State) (n : Fin 8) (x : Status) :
    (s.setDeviceStatus n x).passDue = s.passDue := rfl
@[simp] theorem State.setDeviceStatus_formerNodes (s : State) (n : Fin 8) (x : Status) :
    (s.setDeviceStatus n x).formerNodes = s.formerNodes := rfl
@[simp] theorem State.setDeviceStatus_place (s : State) (n : Fin 8) (x : Status) (j : Fin 128) :
    (s.setDeviceStatus n x).place j = s.place j := rfl
@[simp] theorem State.setDeviceStatus_entry (s : State) (n : Fin 8) (x : Status) (j : Fin 128) :
    (s.setDeviceStatus n x).entry? j = s.entry? j := rfl
@[simp] theorem State.setDeviceStatus_list (s : State) (n : Fin 8) (x : Status) (r' : Fin 64) :
    (s.setDeviceStatus n x).list r' = s.list r' := rfl
@[simp] theorem State.setDeviceStatus_robot (s : State) (n : Fin 8) (x : Status) (r' : Fin 64) :
    (s.setDeviceStatus n x).robot r' = s.robot r' := rfl
@[simp] theorem State.setDeviceStatus_station (s : State) (n : Fin 8) (x : Status) (st' : Fin 16) :
    (s.setDeviceStatus n x).station st' = s.station st' := rfl
@[simp] theorem State.setDeviceStatus_panel (s : State) (n : Fin 8) (x : Status) (st' : Fin 16) :
    (s.setDeviceStatus n x).panel st' = s.panel st' := rfl
@[simp] theorem State.setDeviceStatus_group (s : State) (n : Fin 8) (x : Status) (g' : Fin 8) :
    (s.setDeviceStatus n x).group g' = s.group g' := rfl
@[simp] theorem State.setDeviceStatus_bank (s : State) (n : Fin 8) (x : Status) (id' : BankId) :
    (s.setDeviceStatus n x).bank id' = s.bank id' := rfl

/-! ## `State.setCounter` -/

@[simp] theorem State.setCounter_lif (s : State) (k : Fin 8) (x : Counter) : (s.setCounter k x).lif = s.lif := rfl
@[simp] theorem State.setCounter_mge (s : State) (k : Fin 8) (x : Counter) : (s.setCounter k x).mge = s.mge := rfl
@[simp] theorem State.setCounter_tbs (s : State) (k : Fin 8) (x : Counter) : (s.setCounter k x).tbs = s.tbs := rfl
@[simp] theorem State.setCounter_arq (s : State) (k : Fin 8) (x : Counter) : (s.setCounter k x).arq = s.arq := rfl
@[simp] theorem State.setCounter_dtr (s : State) (k : Fin 8) (x : Counter) : (s.setCounter k x).dtr = s.dtr := rfl
@[simp] theorem State.setCounter_rbc (s : State) (k : Fin 8) (x : Counter) : (s.setCounter k x).rbc = s.rbc := rfl
@[simp] theorem State.setCounter_spa (s : State) (k : Fin 8) (x : Counter) : (s.setCounter k x).spa = s.spa := rfl
@[simp] theorem State.setCounter_stc (s : State) (k : Fin 8) (x : Counter) : (s.setCounter k x).stc = s.stc := rfl
@[simp] theorem State.setCounter_piu (s : State) (k : Fin 8) (x : Counter) : (s.setCounter k x).piu = s.piu := rfl
@[simp] theorem State.setCounter_pending (s : State) (k : Fin 8) (x : Counter) :
    (s.setCounter k x).pending = s.pending := rfl
@[simp] theorem State.setCounter_issued (s : State) (k : Fin 8) (x : Counter) :
    (s.setCounter k x).issued = s.issued := rfl
@[simp] theorem State.setCounter_passDue (s : State) (k : Fin 8) (x : Counter) :
    (s.setCounter k x).passDue = s.passDue := rfl
@[simp] theorem State.setCounter_formerNodes (s : State) (k : Fin 8) (x : Counter) :
    (s.setCounter k x).formerNodes = s.formerNodes := rfl
@[simp] theorem State.setCounter_place (s : State) (k : Fin 8) (x : Counter) (j : Fin 128) :
    (s.setCounter k x).place j = s.place j := rfl
@[simp] theorem State.setCounter_entry (s : State) (k : Fin 8) (x : Counter) (j : Fin 128) :
    (s.setCounter k x).entry? j = s.entry? j := rfl
@[simp] theorem State.setCounter_list (s : State) (k : Fin 8) (x : Counter) (r' : Fin 64) :
    (s.setCounter k x).list r' = s.list r' := rfl
@[simp] theorem State.setCounter_robot (s : State) (k : Fin 8) (x : Counter) (r' : Fin 64) :
    (s.setCounter k x).robot r' = s.robot r' := rfl
@[simp] theorem State.setCounter_station (s : State) (k : Fin 8) (x : Counter) (st' : Fin 16) :
    (s.setCounter k x).station st' = s.station st' := rfl
@[simp] theorem State.setCounter_panel (s : State) (k : Fin 8) (x : Counter) (st' : Fin 16) :
    (s.setCounter k x).panel st' = s.panel st' := rfl
@[simp] theorem State.setCounter_group (s : State) (k : Fin 8) (x : Counter) (g' : Fin 8) :
    (s.setCounter k x).group g' = s.group g' := rfl
@[simp] theorem State.setCounter_bank (s : State) (k : Fin 8) (x : Counter) (id' : BankId) :
    (s.setCounter k x).bank id' = s.bank id' := rfl

/-! ## `State.callPass` -/

@[simp] theorem State.callPass_lif (s : State) : s.callPass.lif = s.lif := rfl
@[simp] theorem State.callPass_mge (s : State) : s.callPass.mge = s.mge := rfl
@[simp] theorem State.callPass_tbs (s : State) : s.callPass.tbs = s.tbs := rfl
@[simp] theorem State.callPass_arq (s : State) : s.callPass.arq = s.arq := rfl
@[simp] theorem State.callPass_dtr (s : State) : s.callPass.dtr = s.dtr := rfl
@[simp] theorem State.callPass_rbc (s : State) : s.callPass.rbc = s.rbc := rfl
@[simp] theorem State.callPass_spa (s : State) : s.callPass.spa = s.spa := rfl
@[simp] theorem State.callPass_stc (s : State) : s.callPass.stc = s.stc := rfl
@[simp] theorem State.callPass_piu (s : State) : s.callPass.piu = s.piu := rfl
@[simp] theorem State.callPass_emu (s : State) : s.callPass.emu = s.emu := rfl
@[simp] theorem State.callPass_pending (s : State) : s.callPass.pending = s.pending := rfl
@[simp] theorem State.callPass_issued (s : State) : s.callPass.issued = s.issued := rfl
@[simp] theorem State.callPass_formerNodes (s : State) : s.callPass.formerNodes = s.formerNodes := rfl
@[simp] theorem State.callPass_place (s : State) (j : Fin 128) : s.callPass.place j = s.place j := rfl
@[simp] theorem State.callPass_entry (s : State) (j : Fin 128) : s.callPass.entry? j = s.entry? j := rfl
@[simp] theorem State.callPass_list (s : State) (r' : Fin 64) : s.callPass.list r' = s.list r' := rfl
@[simp] theorem State.callPass_robot (s : State) (r' : Fin 64) : s.callPass.robot r' = s.robot r' := rfl
@[simp] theorem State.callPass_station (s : State) (st' : Fin 16) : s.callPass.station st' = s.station st' := rfl
@[simp] theorem State.callPass_panel (s : State) (st' : Fin 16) : s.callPass.panel st' = s.panel st' := rfl
@[simp] theorem State.callPass_group (s : State) (g' : Fin 8) : s.callPass.group g' = s.group g' := rfl
@[simp] theorem State.callPass_bank (s : State) (id' : BankId) : s.callPass.bank id' = s.bank id' := rfl
@[simp] theorem State.callPass_stationStatus (s : State) (st' : Fin 16) (n' : Fin 8) :
    s.callPass.stationStatus st' n' = s.stationStatus st' n' := rfl
@[simp] theorem State.callPass_deviceStatus (s : State) (n' : Fin 8) :
    s.callPass.deviceStatus n' = s.deviceStatus n' := rfl
@[simp] theorem State.callPass_counter (s : State) (k' : Fin 8) : s.callPass.counter k' = s.counter k' := rfl

/-! ## `State.begin` -/

@[simp] theorem State.begin_lif (s : State) : s.begin.lif = s.lif := rfl
@[simp] theorem State.begin_mge (s : State) : s.begin.mge = s.mge := rfl
@[simp] theorem State.begin_tbs (s : State) : s.begin.tbs = s.tbs := rfl
@[simp] theorem State.begin_arq (s : State) : s.begin.arq = s.arq := rfl
@[simp] theorem State.begin_dtr (s : State) : s.begin.dtr = s.dtr := rfl
@[simp] theorem State.begin_rbc (s : State) : s.begin.rbc = s.rbc := rfl
@[simp] theorem State.begin_spa (s : State) : s.begin.spa = s.spa := rfl
@[simp] theorem State.begin_stc (s : State) : s.begin.stc = s.stc := rfl
@[simp] theorem State.begin_piu (s : State) : s.begin.piu = s.piu := rfl
@[simp] theorem State.begin_emu (s : State) : s.begin.emu = s.emu := rfl
@[simp] theorem State.begin_pending (s : State) : s.begin.pending = s.pending := rfl
@[simp] theorem State.begin_place (s : State) (j : Fin 128) : s.begin.place j = s.place j := rfl
@[simp] theorem State.begin_entry (s : State) (j : Fin 128) : s.begin.entry? j = s.entry? j := rfl
@[simp] theorem State.begin_list (s : State) (r' : Fin 64) : s.begin.list r' = s.list r' := rfl
@[simp] theorem State.begin_robot (s : State) (r' : Fin 64) : s.begin.robot r' = s.robot r' := rfl
@[simp] theorem State.begin_station (s : State) (st' : Fin 16) : s.begin.station st' = s.station st' := rfl
@[simp] theorem State.begin_panel (s : State) (st' : Fin 16) : s.begin.panel st' = s.panel st' := rfl
@[simp] theorem State.begin_group (s : State) (g' : Fin 8) : s.begin.group g' = s.group g' := rfl
@[simp] theorem State.begin_bank (s : State) (id' : BankId) : s.begin.bank id' = s.bank id' := rfl
@[simp] theorem State.begin_stationStatus (s : State) (st' : Fin 16) (n' : Fin 8) :
    s.begin.stationStatus st' n' = s.stationStatus st' n' := rfl
@[simp] theorem State.begin_deviceStatus (s : State) (n' : Fin 8) : s.begin.deviceStatus n' = s.deviceStatus n' := rfl
@[simp] theorem State.begin_counter (s : State) (k' : Fin 8) : s.begin.counter k' = s.counter k' := rfl

/-! ## Reading what was written -/

@[simp] theorem State.place_setPlace (s : State) (i j : Fin 128) (p : Place) :
    (s.setPlace i p).place j = if i = j then p else s.place j := by
  simp [State.place, State.setPlace, Vector.getElem_set, Fin.ext_iff]

@[simp] theorem State.list_setPlace (s : State) (i : Fin 128) (p : Place) (r : Fin 64) :
    (s.setPlace i p).list r = s.list r := rfl

@[simp] theorem State.entry_setPlace (s : State) (i j : Fin 128) (p : Place) :
    (s.setPlace i p).entry? j = if i = j then p.entry else s.entry? j := by
  unfold State.entry?; rw [State.place_setPlace]; split <;> rfl

@[simp] theorem State.place_setEntry (s : State) (i j : Fin 128) (e : Option Entry) :
    (s.setEntry i e).place j = if i = j then ⟨(s.place i).issue, e⟩ else s.place j := by
  simp [State.setEntry]

@[simp] theorem State.entry_setEntry (s : State) (i j : Fin 128) (e : Option Entry) :
    (s.setEntry i e).entry? j = if i = j then e else s.entry? j := by
  simp [State.setEntry]

@[simp] theorem State.list_setEntry (s : State) (i : Fin 128) (e : Option Entry) (r : Fin 64) :
    (s.setEntry i e).list r = s.list r := rfl

@[simp] theorem State.tag_setEntry (s : State) (i j : Fin 128) (e : Option Entry) : (s.setEntry i e).tag j = s.tag j := by
  unfold State.tag; rw [State.place_setEntry]; split <;> simp_all

@[simp] theorem State.place_modEntry (s : State) (i j : Fin 128) (f : Entry → Entry) :
    (s.modEntry i f).place j = if i = j then ⟨(s.place i).issue, (s.entry? i).map f⟩ else s.place j := by
  simp [State.modEntry]

@[simp] theorem State.entry_modEntry (s : State) (i j : Fin 128) (f : Entry → Entry) :
    (s.modEntry i f).entry? j = if i = j then (s.entry? i).map f else s.entry? j := by
  simp [State.modEntry]

@[simp] theorem State.list_modEntry (s : State) (i : Fin 128) (f : Entry → Entry) (r : Fin 64) :
    (s.modEntry i f).list r = s.list r := rfl

@[simp] theorem State.list_setList (s : State) (r r' : Fin 64) (l : List (Fin 128)) :
    (s.setList r l).list r' = if r = r' then l else s.list r' := by
  simp [State.list, State.setList, Vector.getElem_set, Fin.ext_iff]

@[simp] theorem State.place_setList (s : State) (r : Fin 64) (l : List (Fin 128)) (i : Fin 128) :
    (s.setList r l).place i = s.place i := rfl

@[simp] theorem State.entry_setList (s : State) (r : Fin 64) (l : List (Fin 128)) (i : Fin 128) :
    (s.setList r l).entry? i = s.entry? i := rfl

@[simp] theorem State.robot_setRobot (s : State) (r r' : Fin 64) (x : Robot) :
    (s.setRobot r x).robot r' = if r = r' then x else s.robot r' := by
  simp [State.robot, State.setRobot, Vector.getElem_set, Fin.ext_iff]

@[simp] theorem State.robot_setRobotState (s : State) (r r' : Fin 64) (x : RobotState) :
    (s.setRobotState r x).robot r' = if r = r' then { s.robot r with state := x } else s.robot r' := by
  simp [State.setRobotState]

@[simp] theorem State.station_setStation (s : State) (st st' : Fin 16) (x : Station) :
    (s.setStation st x).station st' = if st = st' then x else s.station st' := by
  simp [State.station, State.setStation, Vector.getElem_set, Fin.ext_iff]

@[simp] theorem State.panel_setPanel (s : State) (st st' : Fin 16) (x : Panel) :
    (s.setPanel st x).panel st' = if st = st' then x else s.panel st' := by
  simp [State.panel, State.setPanel, Vector.getElem_set, Fin.ext_iff]

@[simp] theorem State.panel_setBit (s : State) (st st' : Fin 16) (b : Fin 4) (x : OutputBit) :
    (s.setBit st b x).panel st'
      = if st = st' then { s.panel st with bits := (s.panel st).bits.set b x } else s.panel st' := by
  simp [State.setBit]

@[simp] theorem State.group_setGroup (s : State) (g g' : Fin 8) (x : Group) :
    (s.setGroup g x).group g' = if g = g' then x else s.group g' := by
  simp [State.group, State.setGroup, Vector.getElem_set, Fin.ext_iff]

@[simp] theorem State.bank_setBank (s : State) (id id' : BankId) (x : Bank) :
    (s.setBank id x).bank id' = if id = id' then x else s.bank id' := by
  cases id <;> cases id' <;> simp [State.bank, State.setBank]

@[simp] theorem State.active_setBank (s : State) (id : BankId) (x : Bank) :
    (s.setBank id x).tbs.active = s.tbs.active := by
  cases id <;> rfl

@[simp] theorem State.draining_setBank (s : State) (id : BankId) (x : Bank) :
    (s.setBank id x).tbs.draining = s.tbs.draining := by
  cases id <;> rfl

@[simp] theorem State.queue_setQueue (s : State) (q : List Arrival) : (s.setQueue q).arq.queue = q := rfl

@[simp] theorem State.requests_setRequests (s : State) (q : List MgmtEntry) : (s.setRequests q).mge.queue = q := rfl

@[simp] theorem State.stationStatus_setStationStatus (s : State) (st st' : Fin 16) (n n' : Fin 8) (x : Status) :
    (s.setStationStatus st n x).stationStatus st' n' = if st = st' ∧ n = n' then x else s.stationStatus st' n' := by
  by_cases h : st = st' <;> by_cases k : n = n' <;>
    simp_all [State.stationStatus, State.setStationStatus, Fin.ext_iff]

@[simp] theorem State.deviceStatus_setDeviceStatus (s : State) (n n' : Fin 8) (x : Status) :
    (s.setDeviceStatus n x).deviceStatus n' = if n = n' then x else s.deviceStatus n' := by
  simp [State.deviceStatus, State.setDeviceStatus, Vector.getElem_set, Fin.ext_iff]

@[simp] theorem State.stationStatus_setDeviceStatus (s : State) (n : Fin 8) (x : Status) (st : Fin 16) (m : Fin 8) :
    (s.setDeviceStatus n x).stationStatus st m = s.stationStatus st m := rfl

@[simp] theorem State.deviceStatus_setStationStatus (s : State) (st : Fin 16) (n m : Fin 8) (x : Status) :
    (s.setStationStatus st n x).deviceStatus m = s.deviceStatus m := rfl

@[simp] theorem State.counter_setStationStatus (s : State) (st : Fin 16) (n k : Fin 8) (x : Status) :
    (s.setStationStatus st n x).counter k = s.counter k := rfl

@[simp] theorem State.counter_setDeviceStatus (s : State) (n k : Fin 8) (x : Status) :
    (s.setDeviceStatus n x).counter k = s.counter k := rfl

@[simp] theorem State.counter_setCounter (s : State) (k k' : Fin 8) (x : Counter) :
    (s.setCounter k x).counter k' = if k = k' then x else s.counter k' := by
  simp [State.counter, State.setCounter, Vector.getElem_set, Fin.ext_iff]

@[simp] theorem State.deviceStatus_setCounter (s : State) (k n : Fin 8) (x : Counter) :
    (s.setCounter k x).deviceStatus n = s.deviceStatus n := rfl

@[simp] theorem State.stationStatus_setCounter (s : State) (k : Fin 8) (x : Counter) (st : Fin 16) (n : Fin 8) :
    (s.setCounter k x).stationStatus st n = s.stationStatus st n := rfl

@[simp] theorem State.freeze_setFreeze (s : State) (b : Bool) : (s.setFreeze b).emu.freeze = b := rfl

/-! ## Ports -/

@[simp] theorem Lif.port_setPort (l : Lif) (id id' : PortId) (x : Port) :
    (l.setPort id x).port id' = if id = id' then x else l.port id' := by
  cases id <;> cases id' <;> simp [Lif.port, Lif.setPort]

@[simp] theorem Lif.setPort_inReset (l : Lif) (id : PortId) (x : Port) : (l.setPort id x).inReset = l.inReset := by
  cases id <;> rfl

@[simp] theorem Lif.setPort_nodeStraps (l : Lif) (id : PortId) (x : Port) :
    (l.setPort id x).nodeStraps = l.nodeStraps := by
  cases id <;> rfl

@[simp] theorem Lif.setPort_typeValue (l : Lif) (id : PortId) (x : Port) : (l.setPort id x).typeValue = l.typeValue := by
  cases id <;> rfl

/-! ## Vectors -/

@[simp] theorem getElem_mapAll {α β : Type} {n : Nat} (f : α → β) (v : Vector α n) (i : Nat) (h : i < n) :
    (mapAll f v)[i] = f v[i] := by
  simp [mapAll]

@[simp] theorem getElem_tabulate {α : Type} (n : Nat) (f : Fin n → α) (i : Nat) (h : i < n) :
    (tabulate n f)[i] = f ⟨i, h⟩ := by
  simp [tabulate]

end Sys2Proof.Machine
end

