-- ==== Sys2Proof/Laws/Ops.lean ====
section
/-! SUPPORT. For each shared operation, from the bottom up, what it can do: the blocks whose records it may change, that it
keeps the straps, the reset flag and the waiting commands, and that what it issues comes after what was issued. -/

namespace Sys2Proof.Machine

/-! ## Leading from one state to another -/

/-- One state leads to another within an event: the blocks not named keep their records, the part keeps its straps, the
telegrams issued before stand first, and the nodes in use are kept where MGE is not named. -/
def State.leads (s t : State) (but : List Block) : Prop :=
  s.keeps t but ∧ s.issued <+: t.issued ∧ t.lif.inReset = s.lif.inReset ∧ t.lif.nodeStraps = s.lif.nodeStraps
    ∧ t.lif.typeValue = s.lif.typeValue ∧ (.mge ∉ but → t.formerNodes = s.formerNodes)

theorem State.keeps_refl (s : State) (l : List Block) : s.keeps s l := ⟨rfl, fun b _ => by cases b <;> rfl⟩

theorem State.keeps_trans {s t u : State} {l : List Block} (h : s.keeps t l) (k : t.keeps u l) : s.keeps u l :=
  ⟨k.1.trans h.1, fun b hb => by
    have h1 := h.2 b hb
    have h2 := k.2 b hb
    cases b <;> exact Eq.trans h2 h1⟩

theorem State.keeps_mono {s t : State} {l m : List Block} (h : s.keeps t l) (hlm : l ⊆ m) : s.keeps t m :=
  ⟨h.1, fun b hb => h.2 b (fun hl => hb (hlm hl))⟩

theorem State.leads_refl (s : State) (l : List Block) : s.leads s l :=
  ⟨s.keeps_refl l, List.prefix_rfl, rfl, rfl, rfl, fun _ => rfl⟩

theorem State.leads_trans {s t u : State} {l : List Block} (h : s.leads t l) (k : t.leads u l) : s.leads u l :=
  ⟨State.keeps_trans h.1 k.1, h.2.1.trans k.2.1, k.2.2.1.trans h.2.2.1, k.2.2.2.1.trans h.2.2.2.1,
    k.2.2.2.2.1.trans h.2.2.2.2.1, fun hb => (k.2.2.2.2.2 hb).trans (h.2.2.2.2.2 hb)⟩

/-- Where MGE is not named, the line node and the report node in use are kept. -/
theorem State.leads_inUse {s t : State} {l : List Block} (h : s.leads t l) (hl : .mge ∉ l) :
    t.lineInUse = s.lineInUse ∧ t.reportInUse = s.reportInUse := by
  have m : t.mge = s.mge := h.1.2 .mge hl
  simp [State.lineInUse, State.reportInUse, m, h.2.2.2.2.2 hl]

/-- At the begin of an event the nodes in use are those of CONFIG_LINE. -/
theorem State.begin_inUse (s : State) :
    s.begin.lineInUse = s.mge.lineNode ∧ s.begin.reportInUse = s.mge.reportNode := ⟨rfl, rfl⟩

theorem State.leads_mono {s t : State} {l m : List Block} (h : s.leads t l) (hlm : l ⊆ m) : s.leads t m :=
  ⟨State.keeps_mono h.1 hlm, h.2.1, h.2.2.1, h.2.2.2.1, h.2.2.2.2.1, fun hm => h.2.2.2.2.2 (fun hl => hm (hlm hl))⟩

/-- Two operations one after the other change the blocks of both. -/
theorem State.leads_seq {s t u : State} {l m n : List Block} (h : s.leads t l) (k : t.leads u m) (hl : l ⊆ n)
    (hm : m ⊆ n) : s.leads u n :=
  State.leads_trans (State.leads_mono h hl) (State.leads_mono k hm)

/-- The same, from the last operation back. -/
theorem State.leads_after {s t u : State} {m n : List Block} (k : t.leads u m) (hm : m ⊆ n) (h : s.leads t n) :
    s.leads u n :=
  State.leads_trans h (State.leads_mono k hm)

theorem forAll_leads {α : Type} {l : List Block} {f : α → State → State} (h : ∀ a (s : State), s.leads (f a s) l) :
    ∀ (xs : List α) (s : State), s.leads (forAll xs f s) l
  | [], s => s.leads_refl l
  | a :: xs, s => State.leads_trans (h a s) (forAll_leads h xs (f a s))

theorem foldl_leads {α : Type} {l : List Block} {f : State → α → State} (h : ∀ a (s : State), s.leads (f s a) l) :
    ∀ (xs : List α) (s : State), s.leads (xs.foldl f s) l
  | [], s => s.leads_refl l
  | a :: xs, s => State.leads_trans (h a s) (foldl_leads h xs (f s a))

/-! ## The records -/

theorem State.setPlace_leads (s : State) (i : Fin 128) (p : Place) : s.leads (s.setPlace i p) [.dtr] :=
  ⟨⟨rfl, fun b hb => by cases b <;> first | rfl | simp at hb⟩, List.prefix_rfl, rfl, rfl, rfl, fun _ => rfl⟩

theorem State.setEntry_leads (s : State) (i : Fin 128) (e : Option Entry) : s.leads (s.setEntry i e) [.dtr] :=
  s.setPlace_leads i _

theorem State.modEntry_leads (s : State) (i : Fin 128) (f : Entry → Entry) : s.leads (s.modEntry i f) [.dtr] :=
  s.setEntry_leads i _

theorem State.setList_leads (s : State) (r : Fin 64) (l : List (Fin 128)) : s.leads (s.setList r l) [.dtr] :=
  ⟨⟨rfl, fun b hb => by cases b <;> first | rfl | simp at hb⟩, List.prefix_rfl, rfl, rfl, rfl, fun _ => rfl⟩

theorem State.setRobot_leads (s : State) (r : Fin 64) (x : Robot) : s.leads (s.setRobot r x) [.rbc] :=
  ⟨⟨rfl, fun b hb => by cases b <;> first | rfl | simp at hb⟩, List.prefix_rfl, rfl, rfl, rfl, fun _ => rfl⟩

theorem State.setRobotState_leads (s : State) (r : Fin 64) (x : RobotState) : s.leads (s.setRobotState r x) [.rbc] :=
  s.setRobot_leads r _

theorem State.setStation_leads (s : State) (st : Fin 16) (x : Station) : s.leads (s.setStation st x) [.stc] :=
  ⟨⟨rfl, fun b hb => by cases b <;> first | rfl | simp at hb⟩, List.prefix_rfl, rfl, rfl, rfl, fun _ => rfl⟩

theorem State.setPanel_leads (s : State) (st : Fin 16) (x : Panel) : s.leads (s.setPanel st x) [.piu] :=
  ⟨⟨rfl, fun b hb => by cases b <;> first | rfl | simp at hb⟩, List.prefix_rfl, rfl, rfl, rfl, fun _ => rfl⟩

theorem State.setBit_leads (s : State) (st : Fin 16) (b : Fin 4) (x : OutputBit) : s.leads (s.setBit st b x) [.piu] :=
  s.setPanel_leads st _

theorem State.setGroup_leads (s : State) (g : Fin 8) (x : Group) : s.leads (s.setGroup g x) [.spa] :=
  ⟨⟨rfl, fun b hb => by cases b <;> first | rfl | simp at hb⟩, List.prefix_rfl, rfl, rfl, rfl, fun _ => rfl⟩

theorem State.setBank_leads (s : State) (id : BankId) (x : Bank) : s.leads (s.setBank id x) [.tbs] := by
  cases id <;>
    exact ⟨⟨rfl, fun b hb => by cases b <;> first | rfl | simp at hb⟩, List.prefix_rfl, rfl, rfl, rfl, fun _ => rfl⟩

theorem State.setQueue_leads (s : State) (q : List Arrival) : s.leads (s.setQueue q) [.arq] :=
  ⟨⟨rfl, fun b hb => by cases b <;> first | rfl | simp at hb⟩, List.prefix_rfl, rfl, rfl, rfl, fun _ => rfl⟩

theorem State.setRequests_leads (s : State) (q : List MgmtEntry) : s.leads (s.setRequests q) [.mge] :=
  ⟨⟨rfl, fun b hb => by cases b <;> first | rfl | simp at hb⟩, List.prefix_rfl, rfl, rfl, rfl, fun _ => rfl⟩

theorem State.setFreeze_leads (s : State) (b : Bool) : s.leads (s.setFreeze b) [.emu] :=
  ⟨⟨rfl, fun b hb => by cases b <;> first | rfl | simp at hb⟩, List.prefix_rfl, rfl, rfl, rfl, fun _ => rfl⟩

theorem State.setStationStatus_leads (s : State) (st : Fin 16) (n : Fin 8) (x : Status) :
    s.leads (s.setStationStatus st n x) [.emu] :=
  ⟨⟨rfl, fun b hb => by cases b <;> first | rfl | simp at hb⟩, List.prefix_rfl, rfl, rfl, rfl, fun _ => rfl⟩

theorem State.setDeviceStatus_leads (s : State) (n : Fin 8) (x : Status) : s.leads (s.setDeviceStatus n x) [.emu] :=
  ⟨⟨rfl, fun b hb => by cases b <;> first | rfl | simp at hb⟩, List.prefix_rfl, rfl, rfl, rfl, fun _ => rfl⟩

theorem State.setCounter_leads (s : State) (k : Fin 8) (x : Counter) : s.leads (s.setCounter k x) [.emu] :=
  ⟨⟨rfl, fun b hb => by cases b <;> first | rfl | simp at hb⟩, List.prefix_rfl, rfl, rfl, rfl, fun _ => rfl⟩

theorem State.callPass_leads (s : State) (l : List Block) : s.leads s.callPass l :=
  ⟨⟨rfl, fun b _ => by cases b <;> rfl⟩, List.prefix_rfl, rfl, rfl, rfl, fun _ => rfl⟩

/-! ## Issuing -/

theorem State.issue_leads (s : State) (t : Telegram) : s.leads (s.issue t) [.lif] := by
  unfold State.issue
  split
  · exact s.leads_refl _
  · exact ⟨⟨rfl, fun b hb => by cases b <;> first | rfl | simp at hb⟩, List.prefix_append _ _, rfl, rfl, rfl, fun _ => rfl⟩

theorem State.issueToLine_leads (s : State) (t : Byte → Telegram) : s.leads (s.issueToLine t) [.lif] := by
  unfold State.issueToLine
  split
  · exact s.leads_refl _
  · exact s.issue_leads _

theorem State.issueToRobot_leads (s : State) (r : Fin 64) (t : Byte → Telegram) : s.leads (s.issueToRobot r t) [.lif] :=
  s.issue_leads _

theorem State.report_leads (s : State) (device : Bool) (n : Fin 8) (c : Capture) :
    s.leads (s.report device n c) [.lif] := by
  unfold State.report
  split
  · exact s.leads_refl _
  · exact s.issue_leads _

/-! ## Events and counters -/

theorem State.stationEvent_leads (s : State) (st : Fin 16) (e : StationEvent) (r : Option (Fin 64)) (b : Option Word) :
    s.leads (s.stationEvent st e r b) [.emu, .lif] := by
  unfold State.stationEvent
  dsimp only
  split
  · exact State.leads_seq (s.setStationStatus_leads _ _ _) (State.report_leads _ _ _ _) (by simp) (by simp)
  · exact State.leads_mono (s.setStationStatus_leads _ _ _) (by simp)

theorem State.deviceEvent_leads (s : State) (e : DeviceEvent) (c : Capture) :
    s.leads (s.deviceEvent e c) [.emu, .lif] := by
  unfold State.deviceEvent
  dsimp only
  split
  · exact State.leads_seq (s.setDeviceStatus_leads _ _) (State.report_leads _ _ _ _) (by simp) (by simp)
  · exact State.leads_mono (s.setDeviceStatus_leads _ _) (by simp)

theorem State.increase_leads (s : State) (k : Fin 8) (n : Nat) : s.leads (s.increase k n) [.emu, .lif] := by
  unfold State.increase
  dsimp only
  split
  · exact State.leads_trans (State.leads_mono (State.leads_trans (s.setCounter_leads _ _)
      (State.setFreeze_leads _ true)) (by simp)) (State.deviceEvent_leads _ _ _)
  · exact State.leads_mono (s.setCounter_leads _ _) (by simp)

theorem State.offerCounter_leads (s : State) (e : CounterEvent) (n : Nat) (a : Attributes) (k : Fin 8) :
    s.leads (s.offerCounter e n a k) [.emu, .lif] := by
  unfold State.offerCounter
  dsimp only
  split
  · exact s.increase_leads _ _
  · exact s.leads_refl _

theorem State.count_leads (s : State) (e : CounterEvent) (n : Nat) (a : Attributes) :
    s.leads (s.count e n a) [.emu, .lif] :=
  foldl_leads (fun k s => s.offerCounter_leads e n a k) _ s

theorem State.sampleCounter_leads (s : State) (k : Fin 8) : s.leads (s.sampleCounter k) [.emu, .lif] := by
  have inc : s.leads (if s.counterHeld k then s else s.increase k ((s.counter k).sampled (s.level (s.counter k).config)))
      [.emu, .lif] := by
    split
    · exact s.leads_refl _
    · exact s.increase_leads _ _
  unfold State.sampleCounter
  dsimp only
  split
  · split
    · exact State.leads_trans inc (State.leads_mono (State.setCounter_leads _ _ _) (by simp))
    · exact inc
  · exact s.leads_refl _

theorem State.sample_leads (s : State) : s.leads s.sample [.emu, .lif] :=
  foldl_leads (fun k s => s.sampleCounter_leads k) _ s

/-! ## The image -/

theorem State.imageReported_leads (s : State) : s.leads s.imageReported [.piu] :=
  ⟨⟨rfl, fun b hb => by cases b <;> first | rfl | simp at hb⟩, List.prefix_rfl, rfl, rfl, rfl, fun _ => rfl⟩

theorem State.sendImage_leads (s : State) : s.leads s.sendImage [.lif, .piu] :=
  State.leads_seq (s.issueToLine_leads _) (State.imageReported_leads _) (by simp) (by simp)

/-- Issuing does not change the effective image's records. -/
theorem State.issueToLine_image (s : State) (t : Byte → Telegram) : (s.issueToLine t).image = s.image := by
  unfold State.issueToLine State.issue
  split
  · rfl
  · split <;> rfl

theorem State.comparePoint_leads (s : State) : s.leads s.comparePoint [.lif, .piu] := by
  unfold State.comparePoint
  split
  · exact s.leads_refl _
  · exact s.sendImage_leads

/-- After a point of R171 the reported image is the effective image of the state before it. -/
theorem State.comparePoint_reported (s : State) : s.comparePoint.piu.reported = s.image := by
  unfold State.comparePoint
  split
  · exact Eq.symm ‹_›
  · exact s.issueToLine_image _

/-- The effective image depends on the stations, the tracker and the panels alone. -/
theorem State.image_congr {s t : State} (h1 : t.stc = s.stc) (h2 : t.dtr = s.dtr) (h3 : t.piu.panels = s.piu.panels) :
    t.image = s.image := by
  have hp (st : Fin 16) : t.panel st = s.panel st := by simp [State.panel, h3]
  have hs (st : Fin 16) : t.station st = s.station st := by simp [State.station, h1]
  have hd (st : Fin 16) : t.dressing st = s.dressing st := by simp [State.dressing, h2]
  have hb (st : Fin 16) (b : Fin 4) : t.effectiveBit st b = s.effectiveBit st b := by
    unfold State.effectiveBit State.computedBit
    rw [hp, hs, hd]
  unfold State.image
  congr 1
  funext st
  simp only [State.effectiveByte, hb]

theorem State.comparePoint_image (s : State) : s.comparePoint.image = s.image := by
  have h := s.comparePoint_leads.1.2
  refine State.image_congr (h .stc (by simp)) (h .dtr (by simp)) ?_
  unfold State.comparePoint
  split
  · rfl
  · have k : (s.issueToLine (.stationOutputs · s.image)).piu = s.piu := (s.issueToLine_leads _).1.2 .piu (by simp)
    have h : s.sendImage.piu.panels = (s.issueToLine (.stationOutputs · s.image)).piu.panels := rfl
    rw [h, k]

/-- After a point of R171 the reported image is the effective image. -/
theorem State.comparePoint_settled (s : State) : s.comparePoint.settled = true := by
  simp [State.settled, State.comparePoint_image, State.comparePoint_reported]

/-! ## The table store -/

theorem State.addStamp_leads (s : State) (id : BankId) : s.leads (s.addStamp id) [.tbs] := s.setBank_leads id _

theorem State.endDrain_leads (s : State) : s.leads s.endDrain [.tbs, .emu, .lif] := by
  unfold State.endDrain
  split
  · refine State.leads_trans (t := { s with tbs := { s.tbs with draining := false } }) ?_
      (State.leads_mono (State.deviceEvent_leads _ _ _) (by simp))
    exact ⟨⟨rfl, fun b hb => by cases b <;> first | rfl | simp at hb⟩, List.prefix_rfl, rfl, rfl, rfl, fun _ => rfl⟩
  · exact s.leads_refl _

theorem State.dropStamp_leads (s : State) (id : BankId) : s.leads (s.dropStamp id) [.tbs, .emu, .lif] :=
  State.leads_trans (State.leads_mono (s.setBank_leads id _) (by simp)) (State.endDrain_leads _)

theorem State.commit_leads (s : State) : s.leads s.commit [.tbs, .emu, .lif] := by
  have h : s.leads { s with tbs := { s.tbs with
      active := s.tbs.active.other, draining := decide (0 < (s.bank s.tbs.active).stamps) } } [.tbs, .emu, .lif] :=
    ⟨⟨rfl, fun b hb => by cases b <;> first | rfl | simp at hb⟩, List.prefix_rfl, rfl, rfl, rfl, fun _ => rfl⟩
  unfold State.commit
  dsimp only
  split
  · exact State.leads_trans h (State.leads_mono (State.deviceEvent_leads _ _ _) (by simp))
  · exact h

/-! ## The supply arbiter -/

theorem State.grant_leads (s : State) (g : Fin 8) (i : Fin 128) : s.leads (s.grant g i) [.dtr, .spa, .lif] := by
  unfold State.grant
  split
  · exact s.leads_refl _
  · exact State.leads_seq (State.leads_seq (n := [.dtr, .spa]) (s.setEntry_leads _ _) (State.setGroup_leads _ _ _)
      (by simp) (by simp)) (State.issueToRobot_leads _ _ _) (by simp) (by simp)

theorem State.handOn_leads (s : State) (g : Fin 8) (ban : List (Fin 128)) :
    s.leads (s.handOn g ban) [.dtr, .spa, .lif] := by
  unfold State.handOn
  split
  · exact s.leads_refl _
  · exact s.grant_leads _ _

theorem State.releaseSupply_leads (s : State) (i : Fin 128) (ban : List (Fin 128)) :
    s.leads (s.releaseSupply i ban) [.dtr, .spa, .lif] := by
  unfold State.releaseSupply
  split
  · exact s.leads_refl _
  · dsimp only
    have h (e : Option Entry) : s.leads (s.setEntry i e) [.dtr, .spa, .lif] :=
      State.leads_mono (s.setEntry_leads i e) (by simp)
    split
    · exact State.leads_trans (h _) (State.handOn_leads _ _ _)
    · exact h _

/-! ## Stations -/

theorem State.updateStation_leads (s : State) (st : Fin 16) (x : Station) :
    s.leads (s.updateStation st x) [.stc, .emu, .lif] := by
  unfold State.updateStation
  dsimp only
  split
  · exact State.leads_seq (s.setStation_leads st x) (State.stationEvent_leads _ _ _ _ _) (by simp) (by simp)
  · exact State.leads_mono (s.setStation_leads st x) (by simp)

theorem State.checkCompletion_leads (s : State) (st : Fin 16) : s.leads (s.checkCompletion st) [.stc, .lif] := by
  unfold State.checkCompletion
  dsimp only
  split
  · exact s.leads_refl _
  · split
    · exact State.leads_seq (State.leads_seq (n := [.stc, .lif]) (s.setStation_leads _ _)
        (State.issueToLine_leads _ _) (by simp) (by simp)) (State.setStation_leads _ _ _) (by simp) (by simp)
    · exact s.leads_refl _

theorem State.writeOutcome_leads (s : State) (e : Entry) (o : EntryOutcome) (d : Option Nat) :
    s.leads (s.writeOutcome e o d) [.stc, .emu, .lif] := by
  unfold State.writeOutcome
  dsimp only
  split
  · exact State.leads_trans (s.updateStation_leads _ _) (State.leads_mono (State.checkCompletion_leads _ _) (by simp))
  · split
    · exact s.updateStation_leads _ _
    · exact s.leads_refl _

theorem State.promote_leads (s : State) (st : Fin 16) : s.leads (s.promote st) [.stc, .emu, .lif] :=
  State.leads_trans (s.updateStation_leads st _) (State.callPass_leads _ _)

end Sys2Proof.Machine
end

