-- ==== Sys2Proof/Laws/Work.lean ====
section
/-! SUPPORT. For each operation of the tracker, the arrival queue, the stations and the robots' handshake, the blocks whose
records it may change (`State.leads`). -/

namespace Sys2Proof.Machine

/-- The blocks that work on entries may change: all but the management engine, the table store and the arrival queue. -/
abbrev workBlocks : List Block := [.lif, .dtr, .rbc, .spa, .stc, .piu, .emu]

/-- The blocks that an allocation pass may change: all but the management engine. -/
abbrev passBlocks : List Block := [.lif, .dtr, .rbc, .spa, .stc, .piu, .emu, .arq, .tbs]

/-- Every block. -/
abbrev everyBlock : List Block := [.lif, .mge, .tbs, .arq, .dtr, .rbc, .spa, .stc, .piu, .emu]

/-! ## The end of an entry -/

theorem State.handWeld_leads (s : State) (e : Entry) (o : EntryOutcome) (d : Option Nat) :
    s.leads (s.handWeld e o d) [.stc, .emu, .lif] := by
  have count (s : State) (x : CounterEvent) (a : Attributes) : s.leads (s.count x 1 a) [.stc, .emu, .lif] :=
    State.leads_mono (s.count_leads _ _ _) (by simp)
  unfold State.handWeld
  dsimp only
  refine State.leads_trans (t := match o with
    | .done => s.count .done 1 (s.entryAttributes e)
    | .short => (s.stationEvent e.station .shortfall (some e.robot) (some e.body)).count .short 1 (s.entryAttributes e)
    | .rejected => s.count .rejects 1 (s.entryAttributes e)
    | _ => s) ?_ (State.writeOutcome_leads _ _ _ _)
  split
  · exact count _ _ _
  · exact State.leads_trans (State.leads_mono (s.stationEvent_leads _ _ _ _) (by simp)) (count _ _ _)
  · exact count _ _ _
  · exact s.leads_refl _

theorem State.handDress_leads (s : State) (e : Entry) (o : EntryOutcome) :
    s.leads (s.handDress e o) [.rbc, .emu, .lif] := by
  have count (s : State) (x : CounterEvent) (a : Attributes) : s.leads (s.count x 1 a) [.rbc, .emu, .lif] :=
    State.leads_mono (s.count_leads _ _ _) (by simp)
  have failed : s.leads (s.stationEvent e.station .dressFailed (some e.robot) (some e.body)) [.rbc, .emu, .lif] :=
    State.leads_mono (s.stationEvent_leads _ _ _ _) (by simp)
  unfold State.handDress
  dsimp only
  split
  · exact State.leads_trans (State.leads_mono (s.setRobot_leads _ _) (by simp)) (count _ _ _)
  · exact State.leads_trans failed (count _ _ _)
  · exact State.leads_trans failed (count _ _ _)
  · exact failed
  · exact failed
  · exact s.leads_refl _

theorem State.handMaint_leads (s : State) (e : Entry) (o : EntryOutcome) (d : Option Nat) :
    s.leads (s.handMaint e o d) [.rbc, .emu, .lif] := by
  have count (s : State) (x : CounterEvent) (a : Attributes) : s.leads (s.count x 1 a) [.rbc, .emu, .lif] :=
    State.leads_mono (s.count_leads _ _ _) (by simp)
  have h : s.leads (s.setRobot e.robot { s.robot e.robot with maint := some ⟨o, e.program, d⟩ }) [.rbc, .emu, .lif] :=
    State.leads_mono (s.setRobot_leads _ _) (by simp)
  unfold State.handMaint
  dsimp only
  split
  · exact State.leads_trans h (count _ _ _)
  · exact State.leads_trans h (count _ _ _)
  · exact h

theorem State.handOutcome_leads (s : State) (e : Entry) (o : EntryOutcome) (d : Option Nat) :
    s.leads (s.handOutcome e o d) [.rbc, .stc, .emu, .lif] := by
  unfold State.handOutcome
  split
  · exact State.leads_mono (s.handWeld_leads _ _ _) (by simp)
  · exact State.leads_mono (s.handDress_leads _ _) (by simp)
  · exact State.leads_mono (s.handMaint_leads _ _ _) (by simp)

theorem State.free_leads (s : State) (i : Fin 128) (r : Fin 64) : s.leads (s.free i r) [.dtr] :=
  State.leads_trans (State.leads_trans (s.setEntry_leads _ _) (State.setList_leads _ _ _)) (State.callPass_leads _ _)

theorem State.endCore_leads (s : State) (i : Fin 128) (o : EntryOutcome) (d : Option Nat) (ban : List (Fin 128)) :
    s.leads (s.endCore i o d ban) [.lif, .dtr, .rbc, .spa, .stc, .emu] := by
  unfold State.endCore
  split
  · exact s.leads_refl _
  · dsimp only
    refine State.leads_after (State.setRobotState_leads _ _ _) (by simp) ?_
    refine State.leads_after (State.free_leads _ _ _) (by simp) ?_
    refine State.leads_after (State.handOutcome_leads _ _ _ _) (by simp) ?_
    refine State.leads_after (State.modEntry_leads _ _ _) (by simp) ?_
    exact State.leads_mono (s.releaseSupply_leads i ban) (by simp)

/-! ## Offers -/

theorem State.sendSelect_leads (s : State) (i : Fin 128) : s.leads (s.sendSelect i) [.lif, .dtr, .piu, .emu] := by
  unfold State.sendSelect
  split
  · exact s.leads_refl _
  · dsimp only
    refine State.leads_after (State.count_leads _ _ _ _) (by simp) ?_
    refine State.leads_after (State.modEntry_leads _ _ _) (by simp) ?_
    refine State.leads_after (State.issueToRobot_leads _ _ _) (by simp) ?_
    refine State.leads_after (State.comparePoint_leads _) (by simp) ?_
    exact State.leads_mono (s.setPlace_leads _ _) (by simp)

theorem State.offer_leads (s : State) (i : Fin 128) (r : Fin 64) : s.leads (s.offer i r) [.lif, .dtr, .rbc, .piu, .emu] :=
  State.leads_seq (State.leads_seq (n := [.dtr, .rbc]) (s.modEntry_leads _ _) (State.setRobotState_leads _ _ _)
    (by simp) (by simp)) (State.sendSelect_leads _ _) (by simp) (by simp)

theorem State.reoffer_leads (s : State) (i : Fin 128) : s.leads (s.reoffer i) [.lif, .dtr, .piu, .emu] :=
  State.leads_seq (s.modEntry_leads _ _) (State.sendSelect_leads _ _) (by simp) (by simp)

theorem State.attemptOffer_leads (s : State) (r : Fin 64) : s.leads (s.attemptOffer r) workBlocks := by
  unfold State.attemptOffer
  split
  · exact s.leads_refl _
  · split
    · exact s.leads_refl _
    · split
      · split
        · exact State.leads_mono (s.endCore_leads _ _ _ _) (by simp)
        · exact State.leads_mono (s.offer_leads _ _) (by simp)
      · exact s.leads_refl _

theorem State.endEntry_leads (s : State) (i : Fin 128) (o : EntryOutcome) (d : Option Nat) :
    s.leads (s.endEntry i o d) workBlocks := by
  unfold State.endEntry
  split
  · exact s.leads_refl _
  · exact State.leads_trans (State.leads_mono (s.endCore_leads _ _ _ _) (by simp)) (State.attemptOffer_leads _ _)

theorem State.attemptOffers_leads (s : State) (rs : List (Fin 64)) : s.leads (s.attemptOffers rs) workBlocks :=
  foldl_leads (fun r s => s.attemptOffer_leads r) rs s

/-! ## Aborts, creation and insertion -/

theorem State.abortEntry_leads (s : State) (ban : List (Fin 128)) (i : Fin 128) :
    s.leads (s.abortEntry ban i) [.lif, .dtr, .rbc, .spa, .stc, .emu] := by
  unfold State.abortEntry
  split
  · exact s.leads_refl _
  · dsimp only
    split
    · exact State.leads_trans (State.leads_mono (s.issueToRobot_leads _ _) (by simp)) (State.endCore_leads _ _ _ _ _)
    · exact s.endCore_leads _ _ _ _

theorem State.endSet_leads (s : State) (set : List (Fin 128)) :
    s.leads (s.endSet set) [.lif, .dtr, .rbc, .spa, .stc, .emu] :=
  foldl_leads (fun i s => s.abortEntry_leads set i) set s

theorem State.abortSet_leads (s : State) (set : List (Fin 128)) : s.leads (s.abortSet set) workBlocks :=
  State.leads_trans (State.leads_mono (s.endSet_leads set) (by simp)) (State.attemptOffers_leads _ _)

theorem State.create_leads (s : State) (e : Entry) : s.leads (s.create e).1 [.dtr] := by
  unfold State.create
  split
  · exact s.leads_refl _
  · exact s.setEntry_leads _ _

theorem State.append_leads (s : State) (e : Entry) : s.leads (s.append e) [.dtr] := by
  have h := s.create_leads e
  unfold State.append
  split
  · next heq => rw [heq] at h; exact State.leads_trans h (State.setList_leads _ _ _)
  · next heq => rw [heq] at h; exact h

theorem State.withdraw_leads (s : State) (i : Fin 128) (r : Fin 64) : s.leads (s.withdraw i r) [.lif, .dtr, .rbc] :=
  State.leads_seq (State.leads_seq (n := [.lif, .dtr]) (s.issueToRobot_leads _ _) (State.modEntry_leads _ _ _)
    (by simp) (by simp)) (State.setRobotState_leads _ _ _) (by simp) (by simp)

theorem State.insertHead_leads (s : State) (e : Entry) : s.leads (s.insertHead e) [.lif, .dtr, .rbc] := by
  have h := State.leads_mono (m := [.lif, .dtr, .rbc]) (s.create_leads e) (by simp)
  have list (t : State) (l : List (Fin 128)) : t.leads (t.setList e.robot l) [.lif, .dtr, .rbc] :=
    State.leads_mono (t.setList_leads _ _) (by simp)
  unfold State.insertHead
  split
  · next heq => rw [heq] at h; exact h
  · next heq =>
    rw [heq] at h
    refine State.leads_trans h ?_
    split
    · exact list _ _
    · split
      · exact list _ _
      · split
        · exact list _ _
        · split
          · exact State.leads_trans (State.withdraw_leads _ _ _) (list _ _)
          · exact list _ _

/-! ## The arrival queue -/

theorem State.writeSlot_leads (s : State) (st : Fin 16) (x : Slot) : s.leads (s.writeSlot st x) [.stc, .emu, .lif] := by
  unfold State.writeSlot
  dsimp only
  split <;> exact s.updateStation_leads _ _

theorem State.createFor_leads (st : Fin 16) (body : Word) (x : Plan) (s : State) :
    s.leads (State.createFor st body x s) [.dtr] := by
  unfold State.createFor
  split
  · exact s.leads_refl _
  · dsimp only
    split
    · exact State.leads_trans (s.append_leads _) (State.append_leads _ _)
    · exact s.append_leads _

theorem State.allocate_leads (s : State) (a : Arrival) (style : Option (Fin 64)) (plans : List Plan)
    (queue : List Arrival) : s.leads (s.allocate a style plans queue) passBlocks := by
  unfold State.allocate
  dsimp only
  refine State.leads_after (State.attemptOffers_leads _ _) (by simp) ?_
  refine State.leads_after (State.dropStamp_leads _ _) (by simp) ?_
  refine State.leads_after (State.setQueue_leads _ _) (by simp) ?_
  refine State.leads_after (forAll_leads (fun x s => State.createFor_leads a.station a.body x s) plans _) (by simp) ?_
  exact State.leads_mono (s.writeSlot_leads _ _) (by simp)

theorem State.skipEvents_leads (s : State) (a : Arrival) (style : Option (Fin 64)) :
    s.leads (s.skipEvents a style) [.emu, .lif] := by
  unfold State.skipEvents
  dsimp only
  split
  · exact State.leads_trans (s.deviceEvent_leads _ _) (State.count_leads _ _ _ _)
  · exact s.count_leads _ _ _

theorem passWalk_leads : ∀ (l ahead : List Arrival) (s : State), s.leads (passWalk ahead l s) passBlocks
  | [], _, s => s.leads_refl _
  | a :: rest, ahead, s => by
    unfold passWalk
    split
    · dsimp only
      split
      · exact State.leads_trans (s.allocate_leads _ _ _ _) (passWalk_leads rest _ _)
      · refine State.leads_trans ?_ (passWalk_leads rest _ _)
        exact State.leads_seq (s.setQueue_leads _) (State.skipEvents_leads _ _ _) (by simp) (by simp)
    · exact passWalk_leads rest _ _

theorem State.runPass_leads (s : State) : s.leads s.runPass passBlocks := by
  unfold State.runPass
  split
  · have h := passWalk_leads s.arq.queue [] s
    exact ⟨⟨h.1.1, fun b hb => by have g := h.1.2 b hb; cases b <;> exact g⟩, h.2⟩
  · exact s.leads_refl _

theorem State.refuseArrival_leads (s : State) (seq : Half) (st : Option (Fin 16)) (body : Word) (r : AckReason) :
    s.leads (s.refuseArrival seq st body r) [.emu, .lif] :=
  State.leads_seq (State.leads_seq (n := [.emu, .lif]) (s.issueToLine_leads _) (State.deviceEvent_leads _ _ _)
    (by simp) (by simp)) (State.count_leads _ _ _ _) (by simp) (by simp)

theorem State.acceptArrival_leads (s : State) (seq : Half) (st : Fin 16) (body build : Word) :
    s.leads (s.acceptArrival seq st body build) [.arq, .tbs, .emu, .lif] := by
  unfold State.acceptArrival
  dsimp only
  refine State.leads_after (State.callPass_leads _ []) (by simp) ?_
  refine State.leads_after (State.count_leads _ _ _ _) (by simp) ?_
  refine State.leads_after (State.issueToLine_leads _ _) (by simp) ?_
  refine State.leads_after (State.addStamp_leads _ _) (by simp) ?_
  exact State.leads_mono (s.setQueue_leads _) (by simp)

theorem State.bodyArrive_leads (s : State) (f : Sender) (st : Byte) (body build : Word) :
    s.leads (s.bodyArrive f st body build) [.arq, .tbs, .emu, .lif] := by
  have r (st : Option (Fin 16)) (r : AckReason) : s.leads (s.refuseArrival f.seq st body r) [.arq, .tbs, .emu, .lif] :=
    State.leads_mono (s.refuseArrival_leads _ _ _ _) (by simp)
  unfold State.bodyArrive
  split
  · exact State.leads_mono (s.deviceEvent_leads _ _) (by simp)
  · split
    · exact r _ _
    · split
      · exact r _ _
      · split
        · exact r _ _
        · split
          · exact r _ _
          · split
            · exact r _ _
            · exact s.acceptArrival_leads _ _ _ _

theorem State.removeArrival_leads (a : Arrival) (s : State) : s.leads (State.removeArrival a s) [.arq, .tbs, .emu, .lif] :=
  State.leads_seq (State.leads_seq (n := [.arq, .emu, .lif]) (s.setQueue_leads _) (State.refuseArrival_leads _ _ _ _ _)
    (by simp) (by simp)) (State.dropStamp_leads _ _) (by simp) (by simp)

theorem State.removeArrivals_leads (s : State) (st : Fin 16) : s.leads (s.removeArrivals st) [.arq, .tbs, .emu, .lif] :=
  forAll_leads (fun a s => s.removeArrival_leads a) _ s

/-! ## Taking a station out, departures and edges -/

theorem State.returnFaulted_leads (s : State) (st : Fin 16) : s.leads (s.returnFaulted st) [.rbc] :=
  forAll_leads (fun r s => by
    split
    · exact s.setRobotState_leads _ _
    · exact s.leads_refl _) _ s

theorem State.cleanup_leads (s : State) (st : Fin 16) : s.leads (s.cleanup st) passBlocks := by
  unfold State.cleanup
  dsimp only
  refine State.leads_after (State.callPass_leads _ []) (by simp) ?_
  refine State.leads_after (State.setStation_leads _ _ _) (by simp) ?_
  refine State.leads_after (State.attemptOffers_leads _ _) (by simp) ?_
  refine State.leads_after (State.returnFaulted_leads _ _) (by simp) ?_
  refine State.leads_after (State.abortSet_leads _ _) (by simp) ?_
  refine State.leads_after (State.removeArrivals_leads _ _) (by simp) ?_
  exact State.leads_mono (s.setStation_leads _ _) (by simp)

theorem State.loseBody_leads (s : State) (st : Fin 16) (c : Slot) : s.leads (s.loseBody st c) workBlocks := by
  unfold State.loseBody
  dsimp only
  refine State.leads_after (State.promote_leads _ _) (by simp) ?_
  refine State.leads_after (State.abortSet_leads _ _) (by simp) ?_
  refine State.leads_after (State.updateStation_leads _ _ _) (by simp) ?_
  exact State.leads_mono (s.stationEvent_leads _ _ _ _) (by simp)

theorem State.departure_leads (s : State) (st : Fin 16) : s.leads (s.departure st) workBlocks := by
  unfold State.departure
  split
  · exact s.leads_refl _
  · split
    · exact s.leads_refl _
    · split
      · exact State.leads_mono (s.promote_leads _) (by simp)
      · exact s.loseBody_leads _ _

theorem State.seatEdge_leads (s : State) (st : Fin 16) : s.leads (s.seatEdge st) [.stc, .emu, .lif] := by
  unfold State.seatEdge
  dsimp only
  split
  · exact s.leads_refl _
  · split
    · exact State.leads_mono (s.stationEvent_leads _ _ _ _) (by simp)
    · split
      · exact State.leads_mono (s.setStation_leads _ _) (by simp)
      · exact s.leads_refl _

theorem State.stationInput_leads (st : Fin 16) (b : Byte) (s : State) : s.leads (State.stationInput st b s) workBlocks := by
  have edge {s t : State} (c : Bool) (h : s.leads t workBlocks) : s.leads (if c then t.seatEdge st else t) workBlocks := by
    split
    · exact State.leads_after (t.seatEdge_leads st) (by simp) h
    · exact h
  have away {s t : State} (c : Bool) (h : s.leads t workBlocks) : s.leads (if c then t.departure st else t) workBlocks := by
    split
    · exact State.leads_trans h (t.departure_leads st)
    · exact h
  have offers {s t : State} (c : Bool) (h : s.leads t workBlocks) :
      s.leads (if c then t.attemptOffers (t.headsNaming st) else t) workBlocks := by
    split
    · exact State.leads_trans h (t.attemptOffers_leads _)
    · exact h
  exact edge _ (away _ (offers _ (State.leads_mono (s.setPanel_leads st _) (by simp))))

theorem State.stationInputs_leads (s : State) (node : Byte) (v : Vector Byte 16) :
    s.leads (s.stationInputs node v) workBlocks := by
  unfold State.stationInputs
  split
  · exact State.leads_mono (s.deviceEvent_leads _ _) (by simp)
  · exact forAll_leads (fun st s => s.stationInput_leads st v[st]) _ s

theorem State.seatExpiry_leads (s : State) (st : Fin 16) : s.leads (s.seatExpiry st) [.stc, .lif] := by
  unfold State.seatExpiry
  dsimp only
  split
  · exact State.leads_seq (s.setStation_leads _ _) (State.checkCompletion_leads _ _) (by simp) (by simp)
  · exact s.leads_refl _

theorem State.cycleExpiry_leads (s : State) (st : Fin 16) : s.leads (s.cycleExpiry st) [.stc, .emu, .lif] := by
  unfold State.cycleExpiry
  dsimp only
  split
  · exact State.leads_seq (s.setStation_leads _ _) (State.stationEvent_leads _ _ _ _ _) (by simp) (by simp)
  · exact s.leads_refl _

/-! ## The robots' telegrams and the timers of entries -/

theorem State.dropStale_leads (s : State) (node : Byte) (tag : Tag) : s.leads (s.dropStale node tag) [.emu, .lif] :=
  State.leads_trans (s.deviceEvent_leads _ _) (State.count_leads _ _ _ _)

theorem State.failOffer_leads (s : State) (i : Fin 128) (e : Entry) (o : EntryOutcome) :
    s.leads (s.failOffer i e o) workBlocks := by
  unfold State.failOffer
  split
  · exact s.endEntry_leads _ _ _
  · exact State.leads_mono (s.reoffer_leads _) (by simp)

theorem State.selEcho_leads (s : State) (node : Byte) (tag : Tag) (p v : Byte) :
    s.leads (s.selEcho node tag p v) workBlocks := by
  unfold State.selEcho
  split
  · exact State.leads_mono (s.dropStale_leads _ _) (by simp)
  · split
    · exact State.leads_mono (s.setEntry_leads _ _) (by simp)
    · exact s.failOffer_leads _ _ _

theorem State.cycleStart_leads (s : State) (node : Byte) (tag : Tag) :
    s.leads (s.cycleStart node tag) [.dtr, .emu, .lif] := by
  unfold State.cycleStart
  split
  · exact State.leads_mono (s.dropStale_leads _ _) (by simp)
  · split
    · exact State.leads_mono (s.setEntry_leads _ _) (by simp)
    · exact State.leads_seq (s.issueToRobot_leads _ _) (State.stationEvent_leads _ _ _ _ _) (by simp) (by simp)

theorem State.weldReq_leads (s : State) (node : Byte) (tag : Tag) :
    s.leads (s.weldReq node tag) [.dtr, .spa, .emu, .lif] := by
  have stale := State.leads_mono (m := [.dtr, .spa, .emu, .lif]) (s.dropStale_leads node tag) (by simp)
  unfold State.weldReq
  split
  · exact stale
  · split
    · exact stale
    · split
      · exact State.leads_seq (s.setEntry_leads _ _) (State.issueToRobot_leads _ _ _) (by simp) (by simp)
      · split
        · exact State.leads_mono (s.grant_leads _ _) (by simp)
        · exact State.leads_mono (s.setEntry_leads _ _) (by simp)

theorem State.weldFree_leads (s : State) (node : Byte) (tag : Tag) :
    s.leads (s.weldFree node tag) [.dtr, .spa, .emu, .lif] := by
  have stale := State.leads_mono (m := [.dtr, .spa, .emu, .lif]) (s.dropStale_leads node tag) (by simp)
  unfold State.weldFree
  split
  · exact stale
  · split
    · exact stale
    · exact State.leads_mono (s.releaseSupply_leads _ _) (by simp)

theorem State.weldDone_leads (s : State) (node : Byte) (tag : Tag) (count : Half) (status : Byte) :
    s.leads (s.weldDone node tag count status) workBlocks := by
  unfold State.weldDone
  split
  · exact State.leads_mono (s.dropStale_leads _ _) (by simp)
  · next i e _ =>
    have first (c : Prop) [Decidable c] (a : Attributes) :
        s.leads (if c then s.count .clampedReports 1 a else s) workBlocks := by
      split
      · exact State.leads_mono (s.count_leads _ _ _) (by simp)
      · exact s.leads_refl _
    dsimp only
    refine State.leads_after (State.endEntry_leads _ _ _ _) (by simp) ?_
    refine State.leads_after (State.count_leads _ _ _ _) (by simp) ?_
    refine State.leads_after (State.setRobot_leads _ _ _) (by simp) ?_
    exact State.leads_after (State.releaseSupply_leads _ _ _) (by simp) (first _ _)

theorem State.selectExpiry_leads (s : State) (i : Fin 128) : s.leads (s.selectExpiry i) workBlocks := by
  unfold State.selectExpiry
  split
  · exact s.leads_refl _
  · split
    · exact State.leads_trans (State.leads_mono (s.count_leads _ _ _) (by simp)) (State.failOffer_leads _ _ _ _)
    · exact s.leads_refl _

theorem State.holdExpiry_leads (s : State) (i : Fin 128) : s.leads (s.holdExpiry i) workBlocks := by
  unfold State.holdExpiry
  split
  · exact s.leads_refl _
  · split
    · dsimp only
      refine State.leads_after (State.endEntry_leads _ _ _ _) (by simp) ?_
      refine State.leads_after (State.deviceEvent_leads _ _ _) (by simp) ?_
      refine State.leads_after (State.releaseSupply_leads _ _ _) (by simp) ?_
      exact State.leads_mono (s.issueToRobot_leads _ _) (by simp)
    · exact s.leads_refl _

end Sys2Proof.Machine
end

