-- ==== Sys2Proof/Laws/Events.lean ====
section
/-! SUPPORT. What the management requests, the link, the tick and a whole command can do (`State.leads`), and that no command
touches the commands that wait. -/

namespace Sys2Proof.Machine

/-! ## RESOLVE -/

theorem State.insertPlans_leads (s : State) (st : Fin 16) (body : Word) (plans : List Plan) :
    s.leads (s.insertPlans st body plans) [.lif, .dtr, .rbc] :=
  forAll_leads (fun x s => by
    cases x.robot with
    | none => exact s.leads_refl _
    | some r => exact s.insertHead_leads _) plans s

theorem State.act_leads {s : State} {st : Fin 16} {a : Action} {x : ActionResult} (h : s.act st a = some x) :
    s.leads x.state workBlocks := by
  have put (y : Station) (body : Word) (plans : List Plan) :
      s.leads ((s.setStation st y).insertPlans st body plans) workBlocks :=
    State.leads_seq (s.setStation_leads _ _) (State.insertPlans_leads _ _ _ _) (by simp) (by simp)
  cases a with
  | retry =>
    simp only [State.act, State.retry] at h
    split at h
    · cases h; exact s.leads_refl _
    · split at h
      · cases h; exact s.leads_refl _
      · split at h
        · simp only [State.retryNoStyle] at h
          split at h
          · cases h
          · cases h; exact put _ _ _
        · simp only [State.retryStyle] at h
          split at h
          · cases h
          · cases h; exact put _ _ _
  | accept =>
    simp only [State.act, State.accept, Option.some.injEq] at h
    subst h
    exact State.leads_mono (s.setStation_leads _ _) (by simp)
  | abort =>
    simp only [State.act, State.abort, Option.some.injEq] at h
    subst h
    split
    · exact s.leads_refl _
    · split
      · exact s.leads_refl _
      · exact State.leads_seq (s.setStation_leads _ _) (State.endSet_leads _ _) (by simp) (by simp)

theorem State.afterAction_leads (x : ActionResult) (st : Fin 16) :
    x.state.leads (State.afterAction x st) workBlocks := by
  unfold State.afterAction
  dsimp only
  refine State.leads_after (State.callPass_leads _ []) (by simp) ?_
  refine State.leads_after (State.attemptOffers_leads _ _) (by simp) ?_
  refine State.leads_after (State.returnFaulted_leads _ _) (by simp) ?_
  refine State.leads_after (State.attemptOffers_leads _ _) (by simp) ?_
  refine State.leads_after (State.checkCompletion_leads _ _) (by simp) ?_
  refine State.leads_after (State.updateStation_leads _ _ _) (by simp) ?_
  exact State.leads_mono (x.state.setStation_leads _ _) (by simp)

theorem State.resolveStation_leads (s : State) (st a : Byte) : s.leads (s.resolveStation st a).1 workBlocks := by
  unfold State.resolveStation
  split
  · split
    · split
      · exact s.leads_refl _
      · next h => exact State.leads_trans (State.act_leads h) (State.afterAction_leads _ _)
    · exact s.leads_refl _
  · exact s.leads_refl _

/-! ## The other management requests -/

theorem State.configLine_leads (s : State) (l r : Byte) : s.leads (s.configLine l r).1 [.mge, .lif, .piu] := by
  have h : s.leads
      { s with
        mge := { s.mge with lineNode := l, reportNode := r }, formerNodes := some (s.lineInUse, s.reportInUse) }
      [.mge, .lif, .piu] :=
    ⟨⟨rfl, fun b hb => by cases b <;> first | rfl | simp at hb⟩, List.prefix_rfl, rfl, rfl, rfl, fun hb => by simp at hb⟩
  unfold State.configLine
  split
  · exact s.leads_refl _
  · dsimp only
    split
    · exact h
    · exact State.leads_after (State.imageReported_leads _) (by simp)
        (State.leads_after (State.issue_leads _ _) (by simp) h)

theorem State.configStation_leads (s : State) (f : StationFields) : s.leads (s.configStation f).1 [.stc] := by
  unfold State.configStation
  split
  · split
    · exact s.leads_refl _
    · exact s.setStation_leads _ _
  · exact s.leads_refl _

theorem State.configRobot_leads (s : State) (f : RobotFields) : s.leads (s.configRobot f).1 [.rbc] := by
  unfold State.configRobot
  split
  · split
    · exact s.leads_refl _
    · split
      · exact s.leads_refl _
      · exact s.setRobot_leads _ _
  · exact s.leads_refl _

theorem State.configGroup_leads (s : State) (g c : Byte) (h : Half) : s.leads (s.configGroup g c h).1 [.spa] := by
  unfold State.configGroup
  split
  · exact s.leads_refl _
  · split
    · exact s.leads_refl _
    · split
      · exact s.leads_refl _
      · exact s.setGroup_leads _ _

theorem State.styleWrite_leads (s : State) (f : StyleFields) : s.leads (s.styleWrite f).1 [.tbs] := by
  unfold State.styleWrite
  split
  · exact s.leads_refl _
  · split
    · exact s.leads_refl _
    · exact s.setBank_leads _ _

theorem State.styleErase_leads (s : State) (n : Byte) : s.leads (s.styleErase n).1 [.tbs] := by
  unfold State.styleErase
  split
  · exact s.leads_refl _
  · split
    · exact s.leads_refl _
    · split
      · exact s.setBank_leads _ _
      · exact s.leads_refl _

theorem State.programWrite_leads (s : State) (f : ProgramFields) : s.leads (s.programWrite f).1 [.tbs] := by
  unfold State.programWrite
  split
  · exact s.leads_refl _
  · split
    · exact s.leads_refl _
    · dsimp only
      split
      · exact s.leads_refl _
      · exact s.setBank_leads _ _

theorem State.programErase_leads (s : State) (a b c : Byte) : s.leads (s.programErase a b c).1 [.tbs] := by
  unfold State.programErase
  split
  · split
    · exact s.leads_refl _
    · dsimp only
      split
      · exact s.leads_refl _
      · exact s.setBank_leads _ _
  · exact s.leads_refl _

theorem State.tableCommit_leads (s : State) : s.leads s.tableCommit.1 [.tbs, .emu, .lif] := by
  unfold State.tableCommit
  split
  · exact s.leads_refl _
  · exact s.commit_leads

theorem State.stationEnable_leads (s : State) (n : Byte) : s.leads (s.stationEnable n).1 [.stc] := by
  unfold State.stationEnable
  split
  · exact s.leads_refl _
  · split
    · exact s.leads_refl _
    · exact State.leads_trans (s.setStation_leads _ _) (State.callPass_leads _ _)

theorem State.stationDisable_leads (s : State) (n : Byte) : s.leads (s.stationDisable n).1 passBlocks := by
  unfold State.stationDisable
  split
  · exact s.leads_refl _
  · split
    · exact s.cleanup_leads _
    · exact s.leads_refl _

theorem State.robotEnable_leads (s : State) (n : Byte) : s.leads (s.robotEnable n).1 [.rbc] := by
  unfold State.robotEnable
  split
  · exact s.leads_refl _
  · split
    · exact s.leads_refl _
    · exact s.setRobotState_leads _ _

theorem State.bypassEntry_leads (i : Fin 128) (s : State) :
    s.leads (State.bypassEntry i s) [.lif, .dtr, .rbc, .spa, .stc, .emu] := by
  unfold State.bypassEntry
  split
  · exact s.leads_refl _
  · split
    · exact s.endCore_leads _ _ _ _
    · exact State.leads_mono (s.free_leads _ _) (by simp)

theorem State.robotDisable_leads (s : State) (n : Byte) :
    s.leads (s.robotDisable n).1 [.lif, .dtr, .rbc, .spa, .stc, .emu] := by
  unfold State.robotDisable
  split
  · exact s.leads_refl _
  · split
    · exact s.leads_refl _
    · exact s.leads_refl _
    · exact State.leads_after (State.setRobotState_leads _ _ _) (by simp) (forAll_leads State.bypassEntry_leads _ s)
    · exact State.leads_after (State.setRobotState_leads _ _ _) (by simp) (forAll_leads State.bypassEntry_leads _ s)

theorem State.forceProgram_leads (s : State) (r p : Byte) : s.leads (s.forceProgram r p).1 workBlocks := by
  unfold State.forceProgram
  split
  · exact s.leads_refl _
  · split
    · exact s.leads_refl _
    · split
      · exact s.leads_refl _
      · split
        · exact s.leads_refl _
        · exact State.leads_after (State.attemptOffer_leads _ _) (by simp)
            (State.leads_mono (s.append_leads _) (by simp))

theorem State.wearSet_leads (s : State) (r : Byte) (v : Half) : s.leads (s.wearSet r v).1 [.rbc] := by
  unfold State.wearSet
  split
  · exact s.leads_refl _
  · exact s.setRobot_leads _ _

theorem State.outputForce_leads (s : State) (a b c : Byte) : s.leads (s.outputForce a b c).1 [.piu] := by
  unfold State.outputForce
  split
  · dsimp only
    split
    · exact s.leads_refl _
    · exact s.setBit_leads _ _ _
  · exact s.leads_refl _

theorem State.outputRelease_leads (s : State) (a b : Byte) : s.leads (s.outputRelease a b).1 [.piu] := by
  unfold State.outputRelease
  split
  · exact s.setBit_leads _ _ _
  · exact s.leads_refl _

theorem State.outputUnprotect_leads (s : State) (a b : Byte) : s.leads (s.outputUnprotect a b).1 [.piu] := by
  unfold State.outputUnprotect
  split
  · exact s.setBit_leads _ _ _
  · exact s.leads_refl _

theorem State.ackItem_leads (x : Option (Fin 16) × Byte) (s : State) : s.leads (State.ackItem x s) [.emu] :=
  forAll_leads (fun n s => by
    split
    · split
      · exact s.setStationStatus_leads _ _ _
      · exact s.setDeviceStatus_leads _ _
    · exact s.leads_refl _) _ s

theorem State.eventAck_leads (s : State) (items : List (Byte × Byte)) : s.leads (s.eventAck items).1 [.emu] := by
  unfold State.eventAck
  split
  · exact s.leads_refl _
  · exact forAll_leads State.ackItem_leads _ s

theorem State.maskItem_leads (x : Option (Fin 16) × Byte) (s : State) : s.leads (State.maskItem x s) [.emu, .lif] :=
  forAll_leads (fun n s => by
    dsimp only
    split
    · split
      · exact State.leads_seq (s.setStationStatus_leads _ _ _) (State.report_leads _ _ _ _) (by simp) (by simp)
      · exact State.leads_mono (s.setStationStatus_leads _ _ _) (by simp)
    · split
      · exact State.leads_seq (s.setDeviceStatus_leads _ _) (State.report_leads _ _ _ _) (by simp) (by simp)
      · exact State.leads_mono (s.setDeviceStatus_leads _ _) (by simp)) _ s

theorem State.eventMask_leads (s : State) (items : List (Byte × Byte)) : s.leads (s.eventMask items).1 [.emu, .lif] := by
  unfold State.eventMask
  split
  · exact s.leads_refl _
  · exact forAll_leads State.maskItem_leads _ s

theorem State.counterSet_leads (s : State) (f : CounterFields) : s.leads (s.counterSet f).1 [.emu] := by
  unfold State.counterSet
  split
  · exact s.setCounter_leads _ _
  · exact s.leads_refl _

theorem State.deviceReset_leads (s : State) : s.leads s.deviceReset everyBlock := by
  have cancel (i : Fin 128) (s : State) : s.leads (match s.entry? i with
      | none => s
      | some e => if e.beyondQueued then s.issueToRobot e.robot (.dispatchCancel · (s.tag i)) else s) everyBlock := by
    split
    · exact s.leads_refl _
    · split
      · exact State.leads_mono (s.issueToRobot_leads _ _) (by simp)
      · exact s.leads_refl _
  have put (t : State) (d : Dtr) : t.leads { t with dtr := d } everyBlock :=
    ⟨⟨rfl, fun b hb => by cases b <;> simp at hb⟩, List.prefix_rfl, rfl, rfl, rfl, fun _ => rfl⟩
  have tracker : s.leads s.resetTracker everyBlock := by
    unfold State.resetTracker
    exact State.leads_trans (forAll_leads cancel allIndices s) (put _ _)
  have records (t : State) : t.leads t.resetRecords everyBlock :=
    ⟨⟨rfl, fun b hb => by cases b <;> simp at hb⟩, List.prefix_rfl, rfl, rfl, rfl, fun _ => rfl⟩
  have events (t : State) : t.leads t.resetEvents everyBlock :=
    ⟨⟨rfl, fun b hb => by cases b <;> simp at hb⟩, List.prefix_rfl, rfl, rfl, rfl, fun _ => rfl⟩
  exact State.leads_trans (State.leads_after (State.comparePoint_leads _) (by simp)
    (State.leads_trans tracker (records _))) (events _)

/-! ## The management queue -/

theorem State.run_leads (s : State) (r : Request) : s.leads (s.run r).1 everyBlock := by
  cases r with
  | configLine l r => exact State.leads_mono (s.configLine_leads l r) (by simp)
  | configStation f => exact State.leads_mono (s.configStation_leads f) (by simp)
  | configRobot f => exact State.leads_mono (s.configRobot_leads f) (by simp)
  | configGroup g c h => exact State.leads_mono (s.configGroup_leads g c h) (by simp)
  | styleWrite f => exact State.leads_mono (s.styleWrite_leads f) (by simp)
  | styleErase n => exact State.leads_mono (s.styleErase_leads n) (by simp)
  | programWrite f => exact State.leads_mono (s.programWrite_leads f) (by simp)
  | programErase a b c => exact State.leads_mono (s.programErase_leads a b c) (by simp)
  | tableCopy => exact s.leads_refl _
  | tableClear => exact s.leads_refl _
  | tableCommit => exact State.leads_mono s.tableCommit_leads (by simp)
  | stationEnable n => exact State.leads_mono (s.stationEnable_leads n) (by simp)
  | stationDisable n => exact State.leads_mono (s.stationDisable_leads n) (by simp)
  | robotEnable n => exact State.leads_mono (s.robotEnable_leads n) (by simp)
  | robotDisable n => exact State.leads_mono (s.robotDisable_leads n) (by simp)
  | resolve st a => exact State.leads_mono (s.resolveStation_leads st a) (by simp)
  | forceProgram r p => exact State.leads_mono (s.forceProgram_leads r p) (by simp)
  | wearSet r v => exact State.leads_mono (s.wearSet_leads r v) (by simp)
  | outputForce a b c => exact State.leads_mono (s.outputForce_leads a b c) (by simp)
  | outputRelease a b => exact State.leads_mono (s.outputRelease_leads a b) (by simp)
  | outputUnprotect a b => exact State.leads_mono (s.outputUnprotect_leads a b) (by simp)
  | eventAck items => exact State.leads_mono (s.eventAck_leads items) (by simp)
  | eventMask items => exact State.leads_mono (s.eventMask_leads items) (by simp)
  | counterSet f => exact State.leads_mono (s.counterSet_leads f) (by simp)
  | counterRead c => exact s.leads_refl _
  | counterFreeze => exact State.leads_mono (s.setFreeze_leads true) (by simp)
  | counterUnfreeze => exact State.leads_mono (s.setFreeze_leads false) (by simp)
  | query q => exact s.leads_refl _
  | deviceReset => exact s.deviceReset_leads
  | bad code => exact s.leads_refl _

theorem State.respond_leads (s : State) (m : MgmtEntry) (r : Result) (p : List Byte) : s.leads (s.respond m r p) [.lif] :=
  s.issue_leads _

theorem State.complete_leads (s : State) (m : MgmtEntry) (a : Result × List Byte) (rest : List MgmtEntry) :
    s.leads (s.complete m a rest) everyBlock := by
  unfold State.complete
  refine State.leads_after (State.setRequests_leads _ _) (by simp) ?_
  refine State.leads_after (State.respond_leads _ _ _ _) (by simp) ?_
  refine State.leads_after (State.comparePoint_leads _) (by simp) ?_
  exact State.leads_mono s.runPass_leads (by simp)

theorem State.drain_leads : ∀ (n : Nat) (s : State), s.leads (s.drain n) everyBlock
  | 0, s => s.leads_refl _
  | n + 1, s => by
    unfold State.drain
    split
    · exact s.leads_refl _
    · split
      · exact ⟨⟨rfl, fun b hb => by cases b <;> simp at hb⟩, List.prefix_rfl, rfl, rfl, rfl, fun _ => rfl⟩
      · exact State.leads_trans (State.leads_trans (s.run_leads _) (State.complete_leads _ _ _ _))
          (State.drain_leads n _)

theorem State.take_leads (s : State) (f : Sender) (r : Request) : s.leads (s.take f r) everyBlock := by
  unfold State.take
  dsimp only
  split
  · refine State.leads_after (State.deviceEvent_leads _ _ _) (by simp) ?_
    refine State.leads_after (State.respond_leads _ _ _ _) (by simp) ?_
    exact State.leads_mono s.comparePoint_leads (by simp)
  · split
    · exact State.leads_after (State.drain_leads _ _) (by simp) (State.leads_mono (s.setRequests_leads _) (by simp))
    · exact State.leads_mono (s.setRequests_leads _) (by simp)

theorem State.tableEnd_leads (s : State) (clear : Bool) : s.leads (s.tableEnd clear) everyBlock := by
  have h (x : Bank) : s.leads
      { s.setBank s.tbs.active.other x with mge := { (s.setBank s.tbs.active.other x).mge with job := none } }
      everyBlock := by
    have k := State.leads_mono (m := everyBlock) (s.setBank_leads s.tbs.active.other x) (by simp)
    exact ⟨⟨k.1.1, fun b hb => by cases b <;> simp at hb⟩, k.2⟩
  unfold State.tableEnd
  split
  · dsimp only
    split
    · exact h _
    · exact State.leads_trans (State.leads_trans (h _) (State.complete_leads _ _ _ _)) (State.drain_leads _ _)
  · exact s.leads_refl _

/-! ## The link -/

theorem State.setPort_leads (s : State) (id : PortId) (x : Port) :
    s.leads { s with lif := s.lif.setPort id x } [.lif] :=
  ⟨⟨rfl, fun b hb => by cases b <;> first | rfl | simp at hb⟩, List.prefix_rfl, by simp, by simp, by simp, fun _ => rfl⟩

theorem State.forwardFrame_leads (s : State) (id : PortId) (f : Frame) : s.leads (s.forwardFrame id f) [.lif] :=
  s.setPort_leads _ _

theorem State.portTransmit_leads (s : State) (id : PortId) : s.leads (s.portTransmit id) [.lif] := s.setPort_leads _ _

theorem State.linkUpChange_leads (s : State) (id : PortId) (up : Bool) : s.leads (s.linkUpChange id up) [.lif] :=
  s.setPort_leads _ _

theorem State.watch_leads (s : State) (node : Byte) (f : Frame) : s.leads (s.watch node f) passBlocks := by
  unfold State.watch
  split
  · split
    · exact s.leads_refl _
    · have h (st : Fin 16) (r : Option (Fin 64)) : s.leads (s.stationEvent st .ownership r none) passBlocks :=
        State.leads_mono (s.stationEvent_leads _ _ _ _) (by simp)
      dsimp only
      split
      · exact h _ _
      · exact State.leads_trans (h _ _) (State.cleanup_leads _ _)
  · exact s.leads_refl _

theorem State.hand_leads (s : State) (f : Frame) : s.leads (s.hand f) everyBlock := by
  unfold State.hand
  dsimp only
  split
  · exact State.leads_mono (s.bodyArrive_leads _ _ _ _) (by simp)
  · exact State.leads_mono (s.stationInputs_leads _ _) (by simp)
  · exact State.leads_mono (s.selEcho_leads _ _ _ _) (by simp)
  · exact State.leads_mono (s.cycleStart_leads _ _) (by simp)
  · exact State.leads_mono (s.weldReq_leads _ _) (by simp)
  · exact State.leads_mono (s.weldFree_leads _ _) (by simp)
  · exact State.leads_mono (s.weldDone_leads _ _ _ _) (by simp)
  · exact s.take_leads _ _
  · exact s.leads_refl _

theorem State.takeIn_leads (s : State) (node : Byte) (f : Frame) : s.leads (s.takeIn node f) everyBlock := by
  unfold State.takeIn
  split
  · split
    · exact s.leads_refl _
    · exact State.leads_mono (s.deviceEvent_leads _ _) (by simp)
    · exact s.hand_leads _
  · exact s.leads_refl _

theorem State.receiveFrame_leads (s : State) (id : PortId) (f : Frame) : s.leads (s.receiveFrame id f) everyBlock := by
  have h := State.leads_mono (m := everyBlock) (s.forwardFrame_leads id f) (by simp)
  unfold State.receiveFrame
  dsimp only
  split
  · exact h
  · split
    · exact State.leads_trans (State.leads_after (State.watch_leads _ _ _) (by simp) h) (State.takeIn_leads _ _ _)
    · exact h

/-! ## Events and the tick -/

/-- The end of an event keeps the records of the blocks that a pass does not change, MGE's among them. -/
theorem State.finish_keeps (s : State) : s.keeps s.finish passBlocks := by
  have h := State.leads_after (State.comparePoint_leads _) (by simp) s.runPass_leads
  exact ⟨h.1.1, fun b hb => by have g := h.1.2 b hb; cases b <;> exact g⟩

/-- After an event the nodes in use are those of CONFIG_LINE. -/
theorem State.finish_inUse (s : State) :
    s.finish.lineInUse = s.finish.mge.lineNode ∧ s.finish.reportInUse = s.finish.mge.reportNode := ⟨rfl, rfl⟩

theorem State.finish_leads (s : State) : s.leads s.finish everyBlock := by
  have h := State.leads_after (State.comparePoint_leads _) (by simp) s.runPass_leads
  exact ⟨State.keeps_mono s.finish_keeps (by simp), h.2.1, h.2.2.1, h.2.2.2.1, h.2.2.2.2.1, fun hb => by simp at hb⟩

theorem State.runTimers_leads (s : State) : s.leads s.runTimers [.stc, .dtr, .mge] :=
  ⟨⟨rfl, fun b hb => by cases b <;> first | rfl | simp at hb⟩, List.prefix_rfl, rfl, rfl, rfl, fun _ => rfl⟩

theorem State.takeDue_leads (s : State) : s.leads s.takeDue everyBlock := by
  have fin {s t : State} (h : s.leads t everyBlock) : s.leads t.finish everyBlock :=
    State.leads_after (State.finish_leads _) (by simp) h
  have stations (st : Fin 16) (s : State) : s.leads ((s.seatExpiry st).finish.cycleExpiry st).finish everyBlock :=
    fin (State.leads_after (State.cycleExpiry_leads _ _) (by simp)
      (fin (State.leads_mono (s.seatExpiry_leads _) (by simp))))
  have entries (i : Fin 128) (s : State) : s.leads ((s.selectExpiry i).finish.holdExpiry i).finish everyBlock :=
    fin (State.leads_after (State.holdExpiry_leads _ _) (by simp)
      (fin (State.leads_mono (s.selectExpiry_leads _) (by simp))))
  exact fin (State.leads_trans (fin (State.leads_trans
    (State.leads_trans (forAll_leads stations _ s) (forAll_leads entries _ _)) (State.tableEnd_leads _ _)))
      (State.tableEnd_leads _ _))

theorem State.tick_leads (s : State) : s.leads s.tick everyBlock :=
  State.leads_after (State.sample_leads _) (by simp)
    (State.leads_after (State.runTimers_leads _) (by simp) s.takeDue_leads)

/-- An event of the part keeps the waiting commands and the straps. -/
theorem State.event_kept (s : State) (work : State → State) (h : ∀ t : State, t.leads (work t) everyBlock) :
    (s.event work).pending = s.pending ∧ (s.event work).lif.nodeStraps = s.lif.nodeStraps
      ∧ (s.event work).lif.typeValue = s.lif.typeValue ∧ (s.event work).lif.inReset = s.lif.inReset := by
  unfold State.event
  split
  · exact ⟨rfl, rfl, rfl, rfl⟩
  · have k := State.leads_after (State.finish_leads _) (by simp) (h s.begin)
    exact ⟨k.1.1, k.2.2.2.1, k.2.2.2.2.1, k.2.2.1⟩

theorem State.telegram_pending (s : State) (work : State → State) (h : ∀ t : State, t.leads (work t) everyBlock) :
    (s.telegram work).pending = s.pending := by
  unfold State.telegram
  split
  · exact (s.event_kept work h).1
  · rfl

theorem State.request_pending (s : State) (f : Sender) (r : Request) : (s.request f r).pending = s.pending :=
  s.telegram_pending _ (fun t => t.take_leads f r)

/-- Every command answers a next state. -/
theorem exec_next (c : Instr) (s : State) : ∃ t, exec c s = .next t := by
  cases c <;> exact ⟨_, rfl⟩

/-- No command touches the commands that wait. -/
theorem exec_pending {c : Instr} {s t : State} (h : exec c s = .next t) : t.pending = s.pending := by
  cases c <;> cases h
  case powerOn => rfl
  case resetInputAssert => rfl
  case linkUpChange p up => exact (s.event_kept _ (fun t => State.leads_mono (t.linkUpChange_leads p up) (by simp))).1
  case frameReceive p f => exact (s.event_kept _ (fun t => t.receiveFrame_leads p f)).1
  case portTransmit p => exact (s.event_kept _ (fun t => State.leads_mono (t.portTransmit_leads p) (by simp))).1
  case tick => exact (s.event_kept _ State.tick_leads).1
  case bodyArrive f a b c =>
    exact s.telegram_pending _ (fun t => State.leads_mono (t.bodyArrive_leads f a b c) (by simp))
  case stationInputs n v => exact s.telegram_pending _ (fun t => State.leads_mono (t.stationInputs_leads n v) (by simp))
  case selEcho n tag p v r => exact s.telegram_pending _ (fun t => State.leads_mono (t.selEcho_leads n tag p v) (by simp))
  case cycleStart n tag => exact s.telegram_pending _ (fun t => State.leads_mono (t.cycleStart_leads n tag) (by simp))
  case weldReq n tag => exact s.telegram_pending _ (fun t => State.leads_mono (t.weldReq_leads n tag) (by simp))
  case weldFree n tag => exact s.telegram_pending _ (fun t => State.leads_mono (t.weldFree_leads n tag) (by simp))
  case weldDone n tag c x => exact s.telegram_pending _ (fun t => State.leads_mono (t.weldDone_leads n tag c x) (by simp))
  case selectTimerExpiry i => exact (s.event_kept _ (fun t => State.leads_mono (t.selectExpiry_leads i) (by simp))).1
  case seatTimerExpiry st => exact (s.event_kept _ (fun t => State.leads_mono (t.seatExpiry_leads st) (by simp))).1
  case cycleTimerExpiry st => exact (s.event_kept _ (fun t => State.leads_mono (t.cycleExpiry_leads st) (by simp))).1
  case holdTimerExpiry i => exact (s.event_kept _ (fun t => State.leads_mono (t.holdExpiry_leads i) (by simp))).1
  case tableCopyEnd => exact (s.event_kept _ (fun t => t.tableEnd_leads false)).1
  case tableClearEnd => exact (s.event_kept _ (fun t => t.tableEnd_leads true)).1
  all_goals exact s.request_pending _ _

/-! ## Reading a MGMT_REQUEST -/

/-- A MGMT_REQUEST hands the request that its payload is read as to the MGE. -/
theorem exec_mgmtRequest (f : Sender) (p : List Byte) (s : State) :
    exec (.mgmtRequest f p) s = .next (s.request f (readRequest p)) := rfl

/-- A payload of another length than 0 gives nothing. -/
theorem bytes0_none {α : Type} (r : α) (p : List Byte) (h : p.length ≠ 0) : bytes0 r p = none := by
  unfold bytes0; split <;> simp_all

/-- A payload of another length than one byte gives nothing. -/
theorem bytes1_none {α : Type} (r : Byte → α) (p : List Byte) (h : p.length ≠ 1) : bytes1 r p = none := by
  unfold bytes1; split <;> simp_all

/-- A payload of another length than two bytes gives nothing. -/
theorem bytes2_none {α : Type} (r : Byte → Byte → α) (p : List Byte) (h : p.length ≠ 2) : bytes2 r p = none := by
  unfold bytes2; split <;> simp_all

/-- A payload of another length than three bytes gives nothing. -/
theorem bytes3_none {α : Type} (r : Byte → Byte → Byte → α) (p : List Byte) (h : p.length ≠ 3) : bytes3 r p = none := by
  unfold bytes3; split <;> simp_all

/-- A payload of another length than four bytes gives nothing. -/
theorem bytes4_none {α : Type} (r : Byte → Byte → Byte → Byte → α) (p : List Byte) (h : p.length ≠ 4) : bytes4 r p = none := by
  unfold bytes4; split <;> simp_all

/-- A payload of another length than `n` gives nothing. -/
theorem bytesN_none {α : Type} (n : Nat) (r : List Byte → α) (p : List Byte) (h : p.length ≠ n) : bytesN n r p = none := by
  simp [bytesN, h]

/-- The items written one after another are read back. -/
theorem itemPairs_flatMap (items : List (Byte × Byte)) : itemPairs (items.flatMap (fun x => [x.1, x.2])) = items := by
  induction items with
  | nil => rfl
  | cons x l ih => simp [itemPairs, ih]

/-- The length of the items written one after another. -/
theorem length_flatMap_items (items : List (Byte × Byte)) :
    (items.flatMap (fun x => [x.1, x.2])).length = 2 * items.length := by
  induction items with
  | nil => rfl
  | cons x l ih => simp [ih]; omega

/-- A counted list of at most seventeen items is read as those items. -/
theorem items?_counted (items : List (Byte × Byte)) (h : items.length ≤ 17) :
    items? (BitVec.ofNat 8 items.length :: items.flatMap (fun x => [x.1, x.2])) = some items := by
  have h1 : items.length % 256 = items.length := by omega
  simp [items?, Config.maxItems, itemPairs_flatMap, h1, h, Nat.mul_comm]

end Sys2Proof.Machine
end

