-- ==== Sys2Proof/Tests/Slice0.lean ====
section
/-! SUPPORT. Tests of the model: the well-formedness checks, the manual's worked cases, and for each statement of
Certificates/Slice0/Obligations.lean a state and operands that meet its hypotheses (the theorems `witness_…`). -/

namespace Sys2Proof.Tests

set_option Elab.async false

open Sys2Proof Sys2Proof.Machine

/-! ## Well-formedness -/

/-- Check 2 of R195: a telegram from node 0 is not well formed. -/
theorem test_source_zero_refused : (Instr.tableCommit ⟨0, 1⟩).wellFormed = false := by decide
/-- Check 2 of R195: a telegram from the broadcast node is not well formed. -/
theorem test_source_broadcast_refused : (Instr.weldReq 255 ⟨0, 0⟩).wellFormed = false := by decide
/-- R205: a MGMT_REQUEST has at least one payload byte. -/
theorem test_empty_request_refused : (Instr.mgmtRequest ⟨210, 1⟩ []).wellFormed = false := by decide
/-- R205: a MGMT_REQUEST has at most 36 payload bytes. -/
theorem test_long_request_refused : (Instr.mgmtRequest ⟨210, 1⟩ (List.replicate 37 0)).wellFormed = false := by decide
/-- R208: an EVENT_ACK holds at most 17 items. -/
theorem test_many_items_refused : (Instr.eventAck ⟨210, 1⟩ (List.replicate 18 (0, 0))).wellFormed = false := by decide
/-- A request of 36 bytes from a node is well formed. -/
theorem test_request_accepted : (Instr.mgmtRequest ⟨210, 1⟩ (List.replicate 36 0)).wellFormed = true := by decide

/-! ## Chapter 1: the worked case of 1.7 and the tables of 1.2 and 1.8 -/

/-- The build code of 1.2 and 1.7. -/
def buildX : Word := 0x2C419A07

/-- The table of 1.2. -/
theorem test_shift_table :
    shift .rl 4 buildX = 0x02C419A0 ∧ shift .ll 4 buildX = 0xC419A070 ∧ shift .rc 4 buildX = 0x72C419A0
    ∧ shift .lc 4 buildX = 0xC419A072 := by decide

/-- The style table of 1.7. -/
def styles17 : Vector StylePlace 128 :=
  ((((((Vector.replicate 128 ({} : StylePlace)).set 0 ⟨true, 0x80, 0x80, 40, 0xFFFF⟩).set 2 ⟨true, 0x20, 0xF0, 3, 0x000F⟩
    ).set 3 ⟨true, 0x2D, 0xFF, 7, 0xFFFF⟩).set 4 ⟨true, 0x3C, 0x3C, 9, 0xFFFF⟩).set 5 ⟨true, 0x2C, 0xFC, 12, 0x00F0⟩
    ).set 6 ⟨true, 0, 0, 63, 0x00FF⟩

/-- The program records of 1.7. -/
def programs17 : List (Nat × ProgramRecord) :=
  [(programKey 6 0 12, ⟨0x21, 60, none, []⟩),
   (programKey 6 2 12, ⟨0x40, 42, some ⟨.rl, 1, 0x03⟩, [⟨0, 6⟩, ⟨1, -2⟩]⟩),
   (programKey 6 3 12, ⟨0x10, 18, some ⟨.lc, 4, 0x30⟩, [⟨4, 3⟩, ⟨5, 3⟩]⟩),
   (programKey 6 4 12, ⟨0x04, 12, some ⟨.rl, 8, 0x04⟩, []⟩),
   (programKey 6 5 12, ⟨0x80, 1020, some ⟨.ll, 3, 0x0F⟩, [⟨3, 10⟩, ⟨0, 40⟩]⟩),
   (programKey 6 6 12, ⟨0xF0, 5, some ⟨.rc, 28, 0x0F⟩, [⟨1, -9⟩]⟩)]

/-- Bank A of 1.7. -/
def bank17 : Bank := { styles := styles17, programs := programs17 }

/-- The key template of station 6 in 1.7, with the configuration of 7.11. -/
def config6 : StationConfig :=
  { shiftKind := .rl, shiftCount := 24, mask := 0xFF, seatDelay := 500, cycleLimit := 3000, selectTimeout := 200
    seatEdge := .rising, departureEdge := .falling }

/-- The table at the end of 1.7 for station 6. -/
theorem test_resolution_station6 :
    resolve config6 bank17 6 buildX
      = ⟨some 12, #v[some ⟨33, 60⟩, none, some ⟨67, 46⟩, some ⟨48, 24⟩, none, some ⟨136, 1023⟩, some ⟨242, 0⟩, none]⟩ := by
  decide +kernel

/-- The same body at station 9: key 0x2C again, and NO_STYLE. -/
theorem test_resolution_station9 :
    key { shiftKind := .lc, shiftCount := 8, mask := 0xFF } buildX = 0x2C
    ∧ (resolve { shiftKind := .lc, shiftCount := 8, mask := 0xFF } bank17 9 buildX).style = none := by decide +kernel

/-- The examples of 1.8, for E = 46. -/
theorem test_reconciliation :
    reportOutcome .weld 46 46 false = .done ∧ reportOutcome .weld 46 40 false = .short
    ∧ shortfallOf .short 46 (some 40) = 6 ∧ reportOutcome .weld 46 47 false = .excess
    ∧ clampReport 2000 = 1023 ∧ reportOutcome .weld 46 12 true = .robotFault
    ∧ shortfallOf .robotFault 46 (some 12) = 34 := by decide

/-! ## The states of the tests -/

/-- A state whose image has been reported, as between events. -/
def shown (s : State) : State := { s with piu := { s.piu with reported := s.image } }

/-- The image does not depend on the reported one, so that such a state is settled. -/
theorem shown_settled (s : State) : (shown s).settled = true := decide_eq_true rfl

/-- Such a state without a request waiting is quiet where it takes requests. -/
theorem shown_quiet {s : State} (h : s.ready = true) (hq : s.mge.queue = []) : (shown s).quiet = true := by
  have hr : (shown s).ready = true := h
  have hm : (shown s).mge.queue = [] := hq
  simp [State.quiet, hr, hm, shown_settled]

/-- The part of 11.7, node 7, with line node 200 and report node 210. -/
def base : State := { State.reset with mge := { lineNode := 200, reportNode := 210 } }

/-- A management station. -/
def from210 : Sender := ⟨210, 7⟩

/-- Body X at station 6 as in 4.12, row 10: positions 0 and 2 pending. -/
def slotX : Slot where
  state := .seated
  body := 0x11
  build := buildX
  style := some 12
  stamp := .a
  reasons := {}
  abortMark := false
  positions := #v[some ⟨33, 60, .pending, none, 0⟩, none, some ⟨67, 46, .pending, none, 0⟩, none, none, none, none, none]

/-- Robot 20 of 4.12, BUSY. -/
def robot20 : Robot :=
  { configured := true, node := 40, station := 6, position := 0, dress := 250, interval := 2000, limit := 2500
    state := .busy, wear := 500 }

/-- Robot 22 of 4.12, BUSY. -/
def robot22 : Robot :=
  { configured := true, node := 42, station := 6, position := 2, dress := 250, interval := 300, limit := 320
    state := .busy, wear := 260 }

/-- The weld entry of robot 20 for body X. -/
def weld20 : Entry :=
  { kind := .weld, robot := 20, station := 6, body := 0x11, position := 0, program := 33, expected := 60, state := .welding }

/-- The weld entry of robot 22 for body X, OFFERED with its re-offer unused. -/
def weld22 : Entry :=
  { kind := .weld, robot := 22, station := 6, body := 0x11, position := 2, program := 67, expected := 46, state := .offered
    selectTimer := some 201 }

/-- Station 6 RUNNING with body X in CURRENT. -/
def station6 : Station := { config := config6, enabled := true, current := some slotX }

/-- A part whose station 6 is in the state given, with its two robots and an entry at index 0 and one at index 1. -/
def cell (x : Station) (a b : Robot) (e0 e1 : Entry) : State :=
  shown (((((((base.setStation 6 x).setRobot 20 a).setRobot 22 b).setPlace 0 ⟨18, some e0⟩).setPlace 1 ⟨5, some e1⟩).setList 20
    [0]).setList 22 [1])

/-- Station 6 at work. -/
def atWork : State := cell station6 robot20 robot22 weld20 weld22

/-! ## Witnesses: the step and the conditions that every step keeps -/

/-- Body X's slot with position 0 REJECTED and position 2 DONE: it holds the station. -/
def slotHeld : Slot :=
  { slotX with
    reasons := { rejected := true }
    positions := #v[some ⟨33, 60, .rejected, none, 60⟩, none, some ⟨67, 46, .done, some 46, 0⟩, none, none, none, none,
      none] }

/-- Station 6 held on body X, with its robot 20 FAULTED and both lists empty. -/
def heldAt : State :=
  shown (((base.setStation 6 { station6 with current := some slotHeld }).setRobot 20 { robot20 with state := .faulted }
    ).setRobot 22 { robot22 with state := .idle })

/-- Station 6 held on BODY_LOST alone, without a CURRENT body. -/
def lostAt : State := shown (base.setStation 6 { config := config6, enabled := true, bodyLost := true })

/-- A part at work whose robot 20 asks for a credit. -/
def asking : State := { atWork with pending := [.weldReq 40 ⟨0, 18⟩] }

/-- A state at work that meets every condition of the invariants, and whose step answers a next state. -/
theorem witness_invariants :
    (asking.settled ∧ asking.stampsAgree ∧ asking.tablesWf ∧ asking.queuesBounded ∧ asking.wearBounded
      ∧ asking.disabledClear ∧ asking.listsAgree ∧ asking.creditsBounded ∧ asking.slotsInOrder)
    ∧ ∃ t, step asking = .next t :=
  ⟨by decide +kernel, _, rfl⟩

/-- DisabledRobotStays: robot 0 is DISABLED while robot 20 asks for a credit. -/
theorem witness_DisabledRobotStays :
    (atWork.robot 0).state = .disabled ∧ ∃ t, exec (.weldReq 40 ⟨0, 18⟩) atWork = .next t :=
  ⟨by decide +kernel, _, rfl⟩

/-! ## Witnesses: program resolution -/

/-- Shifts: the counts 0 and 31, and a bit number at each bound. -/
theorem witness_Shifts :
    0 ≤ 31 ∧ 31 ≤ 31 ∧ 1 ≤ 31 ∧ (31 ≤ 31 ∧ 31 < 32) ∧ (32 - 31 ≤ 1 ∧ 1 < 32) ∧ 0 + 31 < 32 ∧ 30 < 31 := by decide

/-- KeyAndOptionField: both shift kinds, an empty mask, and records with and without an overlay. -/
theorem witness_KeyAndOptionField :
    ({ shiftKind := .ll, shiftCount := 31, mask := 0 } : StationConfig).shiftCount ≤ 31
    ∧ config6.shiftKind = .rl ∧ 32 - config6.shiftCount ≤ 8
    ∧ (⟨0x10, 18, some ⟨.lc, 4, 0x30⟩, [⟨4, 3⟩, ⟨5, 3⟩]⟩ : ProgramRecord).overlay = some ⟨.lc, 4, 0x30⟩
    ∧ (⟨0x21, 60, none, []⟩ : ProgramRecord).overlay = none := by decide

/-- The two totals of the examples of 1.7 outside 0..1023, and one in it. -/
theorem witness_Composition :
    (⟨0x04, 12, some ⟨.rl, 8, 0x04⟩, []⟩ : ProgramRecord).compose buildX = 0
    ∧ (⟨0x21, 60, none, []⟩ : ProgramRecord).compose buildX ≠ 0
    ∧ (⟨0x21, 60, none, []⟩ : ProgramRecord).work? buildX = some ⟨33, 60⟩
    ∧ (5 : Int) + ([⟨1, -9⟩] : List Adder).foldl (fun n a => n + a.delta) 0 < 0 ∧ (1023 : Int) < 1020 + (10 + 40)
    ∧ 0 ≤ (42 : Int) + (6 + -2) ∧ (42 : Int) + (6 + -2) ≤ 1023
    ∧ (∀ a ∈ ([⟨0, -64⟩, ⟨1, 63⟩] : List Adder), -64 ≤ a.delta ∧ a.delta ≤ 63) := by decide

/-- StyleMatchAndRecords: place 5 of 1.7 matches at station 6 and no place before it does; none does at station 9. -/
theorem witness_StyleMatchAndRecords :
    ((bank17.styles[(5 : Fin 128)]).valid ∧ 0x2C &&& (bank17.styles[(5 : Fin 128)]).care
      = (bank17.styles[(5 : Fin 128)]).value ∧ (bank17.styles[(5 : Fin 128)]).stations.getLsbD (6 : Fin 16))
    ∧ (∀ j : Fin 128, j < 5 → ¬ ((bank17.styles[j]).valid ∧ 0x2C &&& (bank17.styles[j]).care = (bank17.styles[j]).value
        ∧ (bank17.styles[j]).stations.getLsbD (6 : Fin 16)))
    ∧ (∀ j : Fin 128, ¬ ((bank17.styles[j]).valid ∧ 0x2C &&& (bank17.styles[j]).care = (bank17.styles[j]).value
        ∧ (bank17.styles[j]).stations.getLsbD (9 : Fin 16)))
    ∧ bank17.styleMatch (key config6 buildX) 9 = none ∧ bank17.styleMatch (key config6 buildX) 6 = some 12 := by
  decide +kernel

/-! ## Witnesses: tables -/

/-- A program record. -/
def record21 : ProgramRecord := ⟨0x21, 60, none, []⟩

/-- The SHADOW bank holds a style at place 127 and a record at the last key. -/
def loaded : State :=
  base.setBank .b
    { styles := (Vector.replicate 128 ({} : StylePlace)).set 127 ⟨true, 1, 1, 63, 1⟩, programs := [(8191, record21)] }

/-- The SHADOW bank's program table is full, without the last key. -/
def full : State := base.setBank .b { programs := (List.range 1024).map (fun k => (k, record21)) }

/-- A waiting arrival carries the stamp of bank A, and bank B is ACTIVE. -/
def draining : State :=
  { (base.setQueue [⟨6, 0x11, buildX, .a, 0, false⟩]).setBank .a { stamps := 1 } with
    tbs := { bankA := { stamps := 1 }, active := .b, draining := true } }

/-- StyleTableWritten: the last place and the last style; both indices above the range; a value outside its care bits. -/
theorem witness_StyleTableWritten :
    loaded.quiet ∧ loaded.tbs.draining = false ∧ BankId.b = loaded.tbs.active.other
    ∧ (127 : Byte).toNat = (127 : Fin 128) ∧ (63 : Byte).toNat = (63 : Fin 64) ∧ (1 : Word) &&& ~~~1 = 0
    ∧ 128 ≤ (128 : Byte).toNat ∧ 64 ≤ (64 : Byte).toNat ∧ (1 : Word) &&& ~~~0 ≠ 0
    ∧ ((loaded.bank .b).styles[(127 : Fin 128)]).valid ∧ (loaded.bank .b).styles[(0 : Fin 128)].valid = false := by
  decide +kernel

/-- The last key. -/
def lastKey : ProgramFields :=
  { station := 15, position := 7, style := 63, program := 0x21, expected := 60, overlay := 0, kind := 0, count := 0
    mask := 0, adders := 0, places := Vector.replicate 4 (0, 0) }

/-- The last key with the greatest overlay and two adders, at both ends of their range; the places behind them are not read. -/
def lastOverlay : ProgramFields :=
  { lastKey with overlay := 1, kind := 3, count := 31, mask := 0x81, adders := 2
                 places := #v[(0, -64), (7, 63), (9, 100), (0, 0)] }

/-- ProgramWritten: a new key with room, a held key, a new key into a full table; a record without an overlay, whose overlay
fields are not read, and one with; and each field one out of its range. -/
theorem witness_ProgramWritten :
    (loaded.quiet ∧ loaded.tbs.draining = false ∧ BankId.b = loaded.tbs.active.other ∧ (loaded.bank .b).record? 8191 ≠ none
      ∧ (loaded.bank .b).recordCount < 1024 ∧ loaded.tablesWf)
    ∧ (full.quiet ∧ full.tbs.draining = false ∧ (full.bank .b).record? 8191 = none
      ∧ 1024 ≤ (full.bank .b).recordCount)
    ∧ programWrite? { lastKey with kind := 9, count := 99, places := Vector.replicate 4 (9, 99) } = some (8191, record21)
    ∧ programWrite? lastOverlay = some (8191, ⟨0x21, 60, some ⟨.lc, 31, 0x81⟩, [⟨0, -64⟩, ⟨7, 63⟩]⟩)
    ∧ ([{ lastKey with program := 0 }, { lastKey with expected := 1024 }, { lastKey with adders := 1 },
        { lastKey with overlay := 2 }, { lastOverlay with kind := 4 }, { lastOverlay with count := 32 },
        { lastOverlay with mask := 0 }, { lastOverlay with adders := 3 }, { lastOverlay with adders := 5 },
        { lastOverlay with mask := 0x80 }, { lastOverlay with places := #v[(0, -65), (7, 63), (0, 0), (0, 0)] },
        { lastOverlay with places := #v[(0, 64), (7, 63), (0, 0), (0, 0)] },
        { lastOverlay with places := #v[(7, 1), (7, 63), (0, 0), (0, 0)] }] : List ProgramFields).all
          (fun x => (programWrite? x).isNone) := by decide +kernel

/-- ProgramErased: the last key held and the first absent, and each field above its range. -/
theorem witness_ProgramErased :
    loaded.quiet ∧ loaded.tbs.draining = false ∧ BankId.b = loaded.tbs.active.other
    ∧ (15 : Byte).toNat = (15 : Fin 16) ∧ (7 : Byte).toNat = (7 : Fin 8) ∧ (63 : Byte).toNat = (63 : Fin 64)
    ∧ (loaded.bank .b).record? (programKey 15 7 63) ≠ none ∧ (loaded.bank .b).record? (programKey 0 0 0) = none
    ∧ loaded.tablesWf ∧ 16 ≤ (16 : Byte).toNat ∧ 8 ≤ (8 : Byte).toNat ∧ 64 ≤ (64 : Byte).toNat := by decide +kernel

/-- A copy or clear at its end. -/
def jobDue (clear : Bool) : State :=
  { base with
    mge := { base.mge with
      queue := [⟨from210, if clear then .tableClear else .tableCopy⟩], job := some ⟨clear, 0⟩ } }

/-- CopyAndClear: a part at rest, and one at the end of each job. -/
theorem witness_CopyAndClear :
    base.quiet ∧ base.tbs.draining = false
    ∧ ((jobDue false).ready ∧ (jobDue false).settled ∧ BankId.b = (jobDue false).tbs.active.other
      ∧ (jobDue false).mge.queue = [⟨from210, .tableCopy⟩] ∧ (jobDue false).mge.job = some ⟨false, 0⟩)
    ∧ ((jobDue true).ready ∧ (jobDue true).settled ∧ BankId.b = (jobDue true).tbs.active.other
      ∧ (jobDue true).mge.queue = [⟨from210, .tableClear⟩] ∧ (jobDue true).mge.job = some ⟨true, 0⟩) := by decide +kernel

/-- Committed: with a stamp out and with none. -/
theorem witness_Committed :
    base.quiet ∧ base.tbs.draining = false ∧ (base.bank base.tbs.active).stamps = 0
    ∧ (base.setBank .a { stamps := 1 }).quiet ∧ (base.setBank .a { stamps := 1 }).tbs.draining = false
    ∧ 0 < ((base.setBank .a { stamps := 1 }).bank .a).stamps := by decide +kernel

/-- WritesRefusedDraining: a DRAINING bank, and fields in range at their greatest values. -/
theorem witness_WritesRefusedDraining :
    draining.quiet ∧ draining.tbs.draining = true ∧ (127 : Byte).toNat < 128 ∧ (63 : Byte).toNat < 64
    ∧ (1 : Word) &&& ~~~1 = 0
    ∧ programWrite? lastKey ≠ none ∧ (15 : Byte).toNat < 16 ∧ (7 : Byte).toNat < 8 ∧ (63 : Byte).toNat < 64 := by
  decide +kernel

/-! ## Witnesses: configuration and robots -/

/-- LineAndGroupConfigured: nodes free and taken, outside an event and written in it; groups 1 and 8 without and with a holder; each field out of range. -/
theorem witness_LineAndGroupConfigured :
    base.quiet ∧ (7 : Byte) = base.lif.nodeStraps ∧ (254 : Byte) ≠ 255 ∧ (254 : Byte) ≠ base.lif.nodeStraps
    ∧ (0 : Byte) ≠ base.lif.nodeStraps ∧ (base.configLine 254 0).2 = .ok ∧ base.formerNodes = none
    ∧ ((1 : Byte).toNat = (0 : Fin 8) + 1 ∧ (8 : Byte).toNat = (7 : Fin 8) + 1 ∧ 1 ≤ (1 : Byte).toNat ∧ (4 : Byte).toNat ≤ 4
      ∧ 100 ≤ (100 : Half).toNat ∧ base.holders 7 = [] ∧ base.waiters 7 = [])
    ∧ ((cell station6 { robot20 with group := 8 } robot22 { weld20 with supply := .holding } weld22).quiet
      ∧ (cell station6 { robot20 with group := 8 } robot22 { weld20 with supply := .holding } weld22).holders 7 ≠ [])
    ∧ 8 < (9 : Byte).toNat ∧ 4 < (5 : Byte).toNat ∧ (99 : Half).toNat < 100 := by decide +kernel

/-- StationConfigured: the greatest values at station 15, and each field out of range. -/
theorem witness_StationConfigured :
    base.quiet ∧ (15 : Byte).toNat = (15 : Fin 16) ∧ shiftKind? 3 = some .lc ∧ (31 : Byte).toNat ≤ 31
    ∧ (10000 : Half).toNat ≤ 10000 ∧ (1 : Half) ≠ 0 ∧ 10 ≤ (10 : Half).toNat ∧ (5000 : Half).toNat ≤ 5000
    ∧ policy? 1 = some .pass ∧ edgeMode? 3 = some .both ∧ (base.station 15).state = .disabled
    ∧ atWork.quiet ∧ (6 : Byte).toNat = (6 : Fin 16) ∧ (atWork.station 6).state ≠ .disabled
    ∧ 16 ≤ (16 : Byte).toNat ∧ 4 ≤ (4 : Byte).toNat ∧ 31 < (32 : Byte).toNat ∧ 10000 < (10001 : Half).toNat
    ∧ (9 : Half).toNat < 10 ∧ 5000 < (5001 : Half).toNat ∧ 2 ≤ (2 : Byte).toNat := by decide +kernel

/-- RobotConfigured: the greatest values at robot 63, and each field out of range. -/
theorem witness_RobotConfigured :
    base.quiet ∧ (63 : Byte).toNat = (63 : Fin 64) ∧ (15 : Byte).toNat = (15 : Fin 16) ∧ (7 : Byte).toNat = (7 : Fin 8)
    ∧ (8 : Byte).toNat = (8 : Fin 9) ∧ (254 : Byte) ≠ 0 ∧ (254 : Byte) ≠ 255 ∧ (254 : Byte) ≠ base.lif.nodeStraps
    ∧ (60000 : Half).toNat ≤ 60000 ∧ (60000 : Half).toNat ≤ (60000 : Half).toNat ∧ (base.robot 63).state = .disabled
    ∧ atWork.quiet ∧ (20 : Byte).toNat = (20 : Fin 64) ∧ (atWork.robot 20).state ≠ .disabled
    ∧ 64 ≤ (64 : Byte).toNat ∧ (7 : Byte) = base.lif.nodeStraps ∧ 16 ≤ (16 : Byte).toNat ∧ 8 ≤ (8 : Byte).toNat
    ∧ 9 ≤ (9 : Byte).toNat ∧ 60000 < (60001 : Half).toNat ∧ (299 : Half).toNat < (300 : Half).toNat := by decide +kernel

/-- A part with robot 63 in the state given, at station 6, position 0, without entries. -/
def robotAt (x : RobotState) : State := base.setRobot 63 { robot20 with state := x }

/-- WearAndEnable: a robot that may be enabled; one that is not configured; one whose node is taken. -/
theorem witness_WearAndEnable :
    base.quiet ∧ (63 : Byte).toNat = (63 : Fin 64) ∧ 64 ≤ (64 : Byte).toNat
    ∧ ((robotAt .disabled).quiet ∧ ((robotAt .disabled).robot 63).configured
      ∧ ((robotAt .disabled).robot 63).state = .disabled
      ∧ ∀ q : Fin 64, q ≠ 63 → ((robotAt .disabled).robot q).state ≠ .disabled →
          ((robotAt .disabled).robot q).node ≠ ((robotAt .disabled).robot 63).node
          ∧ ¬ (((robotAt .disabled).robot q).station = ((robotAt .disabled).robot 63).station
            ∧ ((robotAt .disabled).robot q).position = ((robotAt .disabled).robot 63).position))
    ∧ (base.robot 63).configured = false ∧ ((robotAt .idle).robot 63).state ≠ .disabled
    ∧ (((robotAt .idle).setRobot 0 { robot22 with state := .disabled, node := 40 }).quiet
      ∧ ∃ q : Fin 64, q ≠ 0
        ∧ (((robotAt .idle).setRobot 0 { robot22 with state := .disabled, node := 40 }).robot q).state ≠ .disabled
        ∧ (((robotAt .idle).setRobot 0 { robot22 with state := .disabled, node := 40 }).robot q).node = 40) := by
  decide +kernel

/-- The entry of robot 20 for body X, QUEUED. -/
def queued20 : Entry := { weld20 with state := .queued }

/-- Body X's slot as it stands in NEXT, with another body ID. -/
def slotY : Slot := { slotX with state := .announced, body := 0x22 }

/-- Robot 20 in the state given with two QUEUED entries, for the bodies of both slots of its station, whose short policy is
given. -/
def idleQueued (x : RobotState) (sh : Policy) : State :=
  shown (((cell { station6 with config := { config6 with short := sh }, next := some slotY } { robot20 with state := x }
    robot22 queued20 { queued20 with body := 0x22 }).setList 20 [0, 1]).setList 22 [])

/-- RobotDisabled: a number above the range, a DISABLED robot, a BUSY one, and IDLE and FAULTED ones with a QUEUED entry for
CURRENT and one for NEXT under both short policies. -/
theorem witness_RobotDisabled :
    64 ≤ (64 : Byte).toNat ∧ (base.quiet ∧ (63 : Byte).toNat = (63 : Fin 64) ∧ (base.robot 63).state = .disabled)
    ∧ (atWork.quiet ∧ (20 : Byte).toNat = (20 : Fin 64) ∧ (atWork.robot 20).state = .busy)
    ∧ (queued20.robot = 20 ∧ queued20.state = .queued ∧ queued20.supply = .none ∧ queued20.kind = .weld
      ∧ slotX.body = queued20.body ∧ slotY.body = 0x22
      ∧ slotX.positions[(0 : Fin 8)] = some ⟨33, 60, .pending, none, 0⟩
      ∧ slotY.positions[(0 : Fin 8)] = some ⟨33, 60, .pending, none, 0⟩)
    ∧ (∀ x sh, (idleQueued x sh).quiet)
    ∧ [(RobotState.idle, Policy.hold), (.faulted, .hold), (.idle, .pass), (.faulted, .pass)].all (fun x =>
      let s := idleQueued x.1 x.2
      s.arq.queue.isEmpty && (s.robot 20).state == x.1 && s.list 20 == [0, 1] && s.entry? 0 == some queued20
        && s.entry? 1 == some { queued20 with body := 0x22 } && (s.station 6).config.short == x.2
        && (s.station 6).state != .disabled && (s.station 6).current == some slotX
        && (s.station 6).next == some slotY) :=
  ⟨by decide, by decide +kernel, by decide +kernel, by decide +kernel, fun _ _ => shown_quiet rfl rfl, by decide +kernel⟩

/-- A part with robot 63 IDLE at station 6, which is MANUAL. -/
def manualIdle : State := (robotAt .idle).setPanel 6 { manual := true }

/-- A part with robot 63 IDLE and every index in use. -/
def noIndex : State :=
  { robotAt .idle with dtr := { (robotAt .idle).dtr with tracker := Vector.replicate 128 ⟨0, some weld20⟩ } }

/-- ProgramForced: an IDLE robot without entries at a station that is and is not MANUAL; the refusals. -/
theorem witness_ProgramForced :
    ((robotAt .idle).quiet ∧ (63 : Byte).toNat = (63 : Fin 64) ∧ (255 : Byte) ≠ 0 ∧ ((robotAt .idle).robot 63).state = .idle
      ∧ (robotAt .idle).list 63 = [] ∧ (robotAt .idle).entry? 0 = none
      ∧ (∀ j : Fin 128, j < 0 → (robotAt .idle).entry? j ≠ none)
      ∧ ((robotAt .idle).panel ((robotAt .idle).robot 63).station).manual = false)
    ∧ (manualIdle.quiet ∧ (manualIdle.robot 63).state = .idle ∧ manualIdle.list 63 = []
      ∧ (manualIdle.panel (manualIdle.robot 63).station).manual = true)
    ∧ 64 ≤ (64 : Byte).toNat ∧ (atWork.quiet ∧ (atWork.robot 20).state ≠ .idle)
    ∧ (noIndex.quiet ∧ (noIndex.robot 63).state = .idle ∧ noIndex.list 63 = []
      ∧ ∀ j : Fin 128, noIndex.entry? j ≠ none) := by decide +kernel

/-! ## Witnesses: stations -/

/-- StationEnabled and StationDisabled: a DISABLED station, one at work, and a number above the range. -/
theorem witness_StationEnabled_StationDisabled :
    (base.quiet ∧ (15 : Byte).toNat = (15 : Fin 16) ∧ (base.station 15).state = .disabled ∧ base.arq.queue = [])
    ∧ (atWork.quiet ∧ (6 : Byte).toNat = (6 : Fin 16) ∧ (atWork.station 6).state ≠ .disabled)
    ∧ 16 ≤ (16 : Byte).toNat := by decide +kernel

/-- ResolvedAccept: station 6 held on a REJECTED position with its robot FAULTED. -/
theorem witness_ResolvedAccept :
    heldAt.quiet ∧ (6 : Byte).toNat = (6 : Fin 16) ∧ (heldAt.station 6).state = .held ∧ heldAt.arq.queue = []
    ∧ (∀ r ∈ heldAt.stationRobots 6, heldAt.list r = []) ∧ (heldAt.station 6).current = some slotHeld
    ∧ slotHeld.blocking 0 ∧ slotHeld.positions[(0 : Fin 8)] = some ⟨33, 60, .rejected, none, 60⟩ ∧ ¬ slotHeld.blocking 7
    ∧ slotHeld.state = .seated ∧ 20 ∈ heldAt.stationRobots 6 ∧ (heldAt.robot 20).state = .faulted := by decide +kernel

/-- Station 6 held as in `heldAt`, with the tables of 1.7 in the bank of the slot's stamp. -/
def retryAt : State := heldAt.setBank .a bank17

/-- ResolvedRetry: position 0 has work in the slot's bank, and its robot is FAULTED below its limit; a full list, and no free
index; no serving robot, under both short policies; and no work. -/
theorem witness_ResolvedRetry :
    (retryAt.quiet ∧ (6 : Byte).toNat = (6 : Fin 16) ∧ (retryAt.station 6).state = .held ∧ retryAt.arq.queue = []
      ∧ (∀ q ∈ retryAt.stationRobots 6, retryAt.list q = []) ∧ (retryAt.station 6).current = some slotHeld
      ∧ slotHeld.style = some 12 ∧ slotHeld.blockingPositions = [0]
      ∧ (retryAt.bank slotHeld.stamp).work? 6 0 12 slotHeld.build = some ⟨33, 60⟩ ∧ retryAt.servingRobot? 6 0 = some 20
      ∧ (retryAt.robot 20).state = .faulted ∧ (retryAt.robot 20).wear < (retryAt.robot 20).limit
      ∧ (retryAt.panel 6).manual = false ∧ retryAt.entry? 0 = none
      ∧ ∀ j : Fin 128, j < 0 → retryAt.entry? j ≠ none)
    ∧ 3 ≤ ((retryAt.setList 20 [1, 2, 3]).list 20).length
    ∧ (∀ j : Fin 128,
      ({ retryAt with dtr := { tracker := Vector.replicate 128 ⟨0, some weld20⟩ } } : State).entry? j ≠ none)
    ∧ (∀ sh ∈ [Policy.hold, .pass], ∀ s : State,
      s = (retryAt.setRobot 20 { robot20 with state := .disabled }).setStation 6
        { retryAt.station 6 with config := { config6 with short := sh } } →
      s.quiet ∧ (s.station 6).state = .held ∧ (s.station 6).current = some slotHeld
      ∧ (s.bank slotHeld.stamp).work? 6 0 12 slotHeld.build = some ⟨33, 60⟩ ∧ s.servingRobot? 6 0 = none
      ∧ (s.station 6).config.short = sh)
    ∧ (heldAt.quiet ∧ (heldAt.bank slotHeld.stamp).work? 6 0 12 slotHeld.build = none) := by
  refine ⟨by decide +kernel, by decide +kernel, by decide +kernel, ?_, by decide +kernel⟩
  rintro sh hsh s rfl
  revert sh
  decide +kernel

/-- ResolvedAbort: a slot with a reason, SEATED with nothing pending; BODY_LOST alone; and the refused stations. -/
theorem witness_ResolvedAbort :
    (heldAt.quiet ∧ (6 : Byte).toNat = (6 : Fin 16) ∧ (heldAt.station 6).state = .held ∧ heldAt.arq.queue = []
      ∧ (heldAt.station 6).current = some slotHeld ∧ slotHeld.reasons ≠ {} ∧ heldAt.mge.lineNode ≠ 0
      ∧ slotHeld.state = .seated
      ∧ ∀ p : Fin 8, slotHeld.positions[p].all (fun y => decide (y.outcome ≠ .pending)))
    ∧ (lostAt.quiet ∧ (lostAt.station 6).state = .held ∧ lostAt.arq.queue = [] ∧ (lostAt.station 6).current = none
      ∧ ∀ r ∈ lostAt.stationRobots 6, lostAt.list r = [])
    ∧ 16 ≤ (16 : Byte).toNat ∧ (atWork.quiet ∧ (atWork.station 6).state ≠ .held) := by decide +kernel

/-! ## Witnesses: the process image -/

/-- Station 15's bit 3 FORCED to 0, so that the image is not the reported one. -/
def forced15 : State :=
  base.setPanel 15 { bits := (Vector.replicate 4 ({} : OutputBit)).set 3 ⟨true, false, false⟩ }

/-- OutputImage: a bit of each source; an image as reported, and one not reported with and without a line node. -/
theorem witness_OutputImage :
    (forced15.panel 15).bits[(3 : Fin 4)].forced = true ∧ (forced15.panel 15).bits[(0 : Fin 4)].forced = false
    ∧ base.image = base.piu.reported ∧ forced15.image ≠ forced15.piu.reported ∧ forced15.mge.lineNode ≠ 0
    ∧ ({ forced15 with mge := {} } : State).image ≠ forced15.piu.reported := by decide +kernel

/-- OutputsWritten: the last bit of the last station protected and not, and each field above its range. -/
theorem witness_OutputsWritten :
    base.quiet ∧ (15 : Byte).toNat = (15 : Fin 16) ∧ (3 : Byte).toNat = (3 : Fin 4) ∧ (1 : Byte).toNat ≤ 1
    ∧ (base.panel 15).bits[(3 : Fin 4)].protect = true
    ∧ ((shown forced15).quiet ∧ ((shown forced15).panel 15).bits[(3 : Fin 4)].protect = false)
    ∧ 16 ≤ (16 : Byte).toNat ∧ 4 ≤ (4 : Byte).toNat ∧ 2 ≤ (2 : Byte).toNat := by decide +kernel



/-- Inputs that differ from the history of a fresh part by one station's byte. -/
def inputs (st : Fin 16) (b : Byte) : Vector Byte 16 := (Vector.replicate 16 0).set st b

/-- Station 6 with its MANUAL input raised and its enabled flag given, and robot 20 with the state, gun wear and entry given at
the head of its list, in front of another. -/
def manualWith (en : Bool) (x : RobotState) (wear : Nat) (e : Entry) : State :=
  shown ((((cell { station6 with enabled := en } { robot20 with state := x, wear := wear } robot22 e queued20).setList 20
    [0, 1]).setList 22 []).setPanel 6 { manual := true })

/-- InputsTaken: from the line node and from another; the falling MANUAL of station 6 with a head that is offered, one of a robot
at its limit, and heads that stay, of a BUSY robot, OFFERED, and at a DISABLED station. -/
theorem witness_InputsTaken :
    (base.ready ∧ base.settled ∧ base.mge.lineNode ≠ 0 ∧ (200 : Byte) = base.mge.lineNode
      ∧ (210 : Byte) ≠ base.mge.lineNode)
    ∧ (∀ en x wear e, (manualWith en x wear e).settled)
    ∧ [manualWith true .idle 2499 queued20, manualWith true .idle 2500 queued20, manualWith true .busy 0 queued20,
        manualWith true .idle 0 { queued20 with state := .offered }, manualWith false .idle 0 queued20].all (fun s =>
      s.ready && s.mge.lineNode != 0 && s.arq.queue.isEmpty
        && (List.finRange 16).all (fun q => ((inputs 6 0)[q]).getLsbD 0 == (s.panel q).present
          && ((inputs 6 0)[q]).getLsbD 1 == (s.panel q).clamped
          && (q == 6 || ((inputs 6 0)[q]).getLsbD 2 == (s.panel q).manual))
        && (s.panel 6).manual && !((inputs 6 0)[(6 : Fin 16)]).getLsbD 2 && (s.stationRobots 6).contains 20
        && (s.stationRobots 6).all (fun q => q == 20 || (s.list q).isEmpty) && s.list 20 == [0, 1]
        && (s.entry? 0).any (fun e => e.robot == 20 && e.station == 6 && e.kind == .weld && e.supply == .none))
    ∧ ((manualWith true .idle 2499 queued20).station 6).state ≠ .disabled
    ∧ ((manualWith true .idle 2499 queued20).robot 20).wear < ((manualWith true .idle 2499 queued20).robot 20).limit
    ∧ ((manualWith true .idle 2500 queued20).robot 20).limit ≤ ((manualWith true .idle 2500 queued20).robot 20).wear
    ∧ ((manualWith true .idle 2500 queued20).station 6).current = some slotX ∧ slotX.body = queued20.body
    ∧ slotX.positions[queued20.position] = some ⟨33, 60, .pending, none, 0⟩
    ∧ ((manualWith false .idle 0 queued20).station 6).state = .disabled :=
  ⟨by decide +kernel, fun _ _ _ _ => shown_settled _, by decide +kernel⟩

/-- Station 6 with the two edge modes given, its CURRENT slot given, body Y in NEXT, and the history of PRESENT and CLAMPED
given. -/
def edgeAt (en : Bool) (m d : EdgeMode) (c n : Option Slot) (was : Bool) : State :=
  shown ((base.setStation 6
    { config := { config6 with seatEdge := m, departureEdge := d }, enabled := en, current := c, next := n }).setPanel 6
      { present := was, clamped := was })

/-- SeatEdge: an edge that each mode selects, with a body ANNOUNCED, one in another state, and none; an edge that a mode does
not select, a level without an edge, and a DISABLED station. -/
theorem witness_SeatEdge :
    (∀ en m d c n was, (edgeAt en m d c n was).settled)
    ∧ (∀ x ∈ [(EdgeMode.rising, false, 3), (.falling, true, 1), (.both, false, 3), (.both, true, 1)],
      ∀ c ∈ [some slotY, some slotX, none], ∀ s ∈ [edgeAt true x.1 .none c none x.2.1],
      s.ready ∧ s.mge.lineNode ≠ 0 ∧ (s.station 6).state ≠ .disabled ∧ (s.station 6).current = c
      ∧ (∀ q : Fin 16, q ≠ 6 → ((inputs 6 x.2.2)[q]).getLsbD 1 = (s.panel q).clamped)
      ∧ (s.station 6).config.seatEdge.selects (s.panel 6).clamped (((inputs 6 x.2.2)[(6 : Fin 16)]).getLsbD 1) = true)
    ∧ slotY.state = .announced ∧ slotX.state ≠ .announced
    ∧ (∀ x ∈ [(EdgeMode.none, false, 2), (.rising, true, 0), (.falling, false, 2), (.both, true, 2)],
      x.1.selects x.2.1 (((inputs 6 x.2.2)[(6 : Fin 16)]).getLsbD 1) = false)
    ∧ ((edgeAt false .rising .none none none false).station 6).state = .disabled :=
  ⟨fun _ _ _ _ _ _ => shown_settled _, by decide +kernel⟩

/-- DepartureEdge: an edge that each mode selects, with a body RELEASED before an occupied and an EMPTY NEXT, one SEATED, and
none; an edge that a mode does not select, a level without an edge, and a DISABLED station. -/
theorem witness_DepartureEdge :
    (∀ en m d c n was, (edgeAt en m d c n was).settled)
    ∧ (∀ x ∈ [(EdgeMode.rising, false, 1), (.falling, true, 2), (.both, false, 1), (.both, true, 2)],
      ∀ c ∈ [(some { slotX with state := .released }, some slotY), (some { slotX with state := .released }, none),
        (some slotX, some slotY), (none, none)], ∀ s ∈ [edgeAt true .none x.1 c.1 c.2 x.2.1],
      s.ready ∧ s.mge.lineNode ≠ 0 ∧ s.arq.queue = [] ∧ (s.station 6).state ≠ .disabled
      ∧ (s.station 6).current = c.1 ∧ (s.station 6).next = c.2
      ∧ (∀ q : Fin 16, q ≠ 6 → ((inputs 6 x.2.2)[q]).getLsbD 0 = (s.panel q).present)
      ∧ (s.station 6).config.departureEdge.selects (s.panel 6).present (((inputs 6 x.2.2)[(6 : Fin 16)]).getLsbD 0)
        = true)
    ∧ (∀ x ∈ [(EdgeMode.none, false, 1), (.rising, true, 0), (.falling, false, 1), (.both, true, 1)],
      x.1.selects x.2.1 (((inputs 6 x.2.2)[(6 : Fin 16)]).getLsbD 0) = false)
    ∧ ((edgeAt false .none .falling none none true).station 6).state = .disabled :=
  ⟨fun _ _ _ _ _ _ => shown_settled _, by decide +kernel⟩

/-! ## Witnesses: events and counters -/

/-- A part whose counter 7 counts EARLY_START's kind of event with a trigger one above its value and is enabled for the
freeze, and whose station 15 has status 7 unmasked. -/
def counting : State :=
  (base.setCounter 7 ⟨0xFFFFFFFFFFFE, { event := .offers, freezeEnable := true, trigger := some 0xFFFFFFFFFFFF }, false⟩
    ).setStationStatus 15 7 { mask := false }

/-- Occurrence: a status set, clear and masked, and clear and unmasked; a counter that selects, one that does not, one held
by the freeze, and a trigger reached at the last value below the wrap. -/
theorem witness_Occurrence :
    (7 : Fin 8) = stationEventNumber .dressFailed
    ∧ ((counting.setStationStatus 15 7 { set := true }).stationStatus 15 7).set
    ∧ ((base.stationStatus 15 7).set = false ∧ (base.stationStatus 15 7).mask)
    ∧ ((counting.stationStatus 15 7).set = false ∧ (counting.stationStatus 15 7).mask = false ∧ counting.mge.reportNode ≠ 0)
    ∧ (base.counter 7).config.event ≠ .offers ∧ ((counting.setFreeze true).counter 7).config.freezeEnable
    ∧ ((counting.counter 7).config.mode = .count ∧ (counting.counter 7).config.event = .offers
      ∧ (counting.counter 7).config.selects {} ∧ counting.emu.freeze = false
      ∧ (counting.counter 7).config.trigger = some 0xFFFFFFFFFFFF
      ∧ (counting.counter 7).value.toNat < (0xFFFFFFFFFFFF : Long).toNat
      ∧ (0xFFFFFFFFFFFF : Long).toNat ≤ ((counting.counter 7).value.toNat + 1) % 2 ^ 48)
    ∧ ((base.setCounter 7 ⟨5, { event := .offers }, false⟩).counter 7).config.trigger = none := by decide +kernel

/-- EventsAcknowledged: seventeen items, for station 15 and the device group, and an item that names no group. -/
theorem witness_EventsAcknowledged :
    base.quiet ∧ ((255, 255) :: List.replicate 16 ((15, 255) : Byte × Byte)).length ≤ 17
    ∧ ((255, 255) :: List.replicate 16 ((15, 255) : Byte × Byte)).all (fun x => decide (x.1.toNat < 16 ∨ x.1 = 255))
    ∧ 16 ≤ ((16, 255) : Byte × Byte).1.toNat ∧ ((16, 255) : Byte × Byte).1 ≠ 255 := by decide +kernel

/-- EventsMasked: items of the last station, twice, and of the device group, an item that names no group, and single
items. -/
theorem witness_EventsMasked :
    base.quiet ∧ ([(15, 1), (255, 2), (15, 4)] : List (Byte × Byte)).length ≤ 17
    ∧ ([(15, 1), (255, 2), (15, 4)] : List (Byte × Byte)).all (fun x => decide (x.1.toNat < 16 ∨ x.1 = 255))
    ∧ ([(15, 1), (16, 2)] : List (Byte × Byte)).any (fun x => decide (16 ≤ x.1.toNat ∧ x.1 ≠ 255))
    ∧ (15 : Byte).toNat = (15 : Fin 16) ∧ (255 : Byte) = 255 := by decide +kernel

/-- The greatest configuration of the last counter. -/
def lastCounter : CounterFields := ⟨7, 5, 15, 15, 63, 63, 3, 2, 1, 1, 1, 1⟩

/-- CountersWritten: the last counter with configurations in range, with every filter and with ANY; each field one out of its
range, and modes that do not fit; and counters above the range. -/
theorem witness_CountersWritten :
    base.quiet ∧ (7 : Byte).toNat = (7 : Fin 8)
    ∧ counterConfig? lastCounter = some ⟨.supplyWaiters, some 15, some 63, some 63, .edge, 2, true, true, some 1⟩
    ∧ counterConfig? ⟨7, 5, 12, 255, 255, 255, 0, 0, 0, 0, 0, 9⟩ = some ⟨.weldsReported, none, none, none, .count, 0, false,
        false, none⟩
    ∧ counterConfig? ⟨7, 5, 0, 255, 255, 255, 3, 0, 0, 0, 0, 0⟩ ≠ none
    ∧ ([{ lastCounter with event := 16 }, { lastCounter with station := 16 }, { lastCounter with robot := 64 },
        { lastCounter with style := 64 }, { lastCounter with mode := 4 }, { lastCounter with mode := 0 },
        { lastCounter with event := 12 }, { lastCounter with invert := 2 }, { lastCounter with freezeEnable := 2 },
        { lastCounter with triggerPresent := 2 }, { lastCounter with trigger := 0 }] : List CounterFields).all
          (fun x => (counterConfig? x).isNone)
    ∧ 8 ≤ (8 : Byte).toNat ∧ (8 ≤ (254 : Byte).toNat ∧ (254 : Byte) ≠ 255) := by decide +kernel

/-- A part at work with a level counter of each mode. -/
def sampling : State :=
  ((atWork.setCounter 0 ⟨0, { event := .trackerInUse, mode := .level }, false⟩).setCounter 1
    ⟨0, { event := .queueDepth, mode := .threshold, threshold := 1, invert := true }, false⟩).setCounter 2
    ⟨0, { event := .trackerInUse, mode := .edge, threshold := 2 }, false⟩

/-- Tick: running timers that are not due, and a counter of each mode. -/
theorem witness_Tick :
    sampling.ready ∧ sampling.settled ∧ sampling.nothingDue
    ∧ ∀ k : Fin 8, k < 3 → (sampling.counter k).config.event.isLevel ∧ (sampling.counter k).config.freezeEnable = false
      ∧ (sampling.counter k).config.mode = ((#v[.level, .threshold, .edge] : Vector CounterMode 3).toList.getD k .count) := by
  decide +kernel

/-! ## Witnesses: management -/

/-- A part with the number of requests given waiting behind a copy. -/
def waiting (n : Nat) : State :=
  { base with
    mge := { base.mge with
      queue := ⟨from210, .tableCopy⟩ :: List.replicate (n - 1) ⟨from210, .counterFreeze⟩, job := some ⟨false, 3⟩ } }

/-- RequestTaken: one to four requests waiting, codes and forms that no request has, and payloads of each length that fits or
is one off. -/
theorem witness_RequestTaken :
    (∀ n : Fin 5, 1 ≤ (n : Nat) → (waiting n).ready ∧ (waiting n).settled ∧ (waiting n).mge.queue.length = n)
    ∧ 29 < (30 : Byte).toNat ∧ base.quiet
    ∧ (List.replicate 17 (0 : Byte)).length = 17 ∧ (List.replicate 10 (0 : Byte)).length = 10
    ∧ (List.replicate 12 (0 : Byte)).length = 12 ∧ (List.replicate 19 (0 : Byte)).length = 19
    ∧ (List.replicate 23 (0 : Byte)).length = 23 ∧ (List.replicate 17 ((255, 0) : Byte × Byte)).length ≤ 17
    ∧ ([5] : List Byte).length ≠ 2 ∧ 17 < (byteAt [18] 0).toNat ∧ 9 < (byteAt [10] 0).toNat
    ∧ ((byteAt [9, 0] 0).toNat = 9 ∧ ([9, 0] : List Byte).length ≠ 1) := by
  decide +kernel

/-- QueriesAnswered: the last free index, an empty last style place, an absent last record, the selectors just above each
range, and a part with its node and a short queue; an entry in use, a record held, and the last station, robot and group. -/
theorem witness_QueriesAnswered :
    base.quiet ∧ (127 : Byte).toNat = (127 : Fin 128) ∧ base.entry? 127 = none ∧ 128 ≤ (128 : Byte).toNat
    ∧ 16 ≤ (16 : Byte).toNat ∧ 64 ≤ (64 : Byte).toNat ∧ 8 < (9 : Byte).toNat ∧ 2 ≤ (2 : Byte).toNat
    ∧ base.tbs.bankB.styles[(127 : Fin 128)] = ⟨false, 0, 0, 0, 0⟩
    ∧ ((15 : Byte).toNat = (15 : Fin 16) ∧ (7 : Byte).toNat = (7 : Fin 8) ∧ (63 : Byte).toNat = (63 : Fin 64)
      ∧ base.tbs.bankA.record? (programKey 15 7 63) = none)
    ∧ base.lif.node?.isSome ∧ base.mge.queue.length ≤ 4 ∧ base.mge.job = none
    ∧ (0 : Byte).toNat = (0 : Fin 128) ∧ atWork.entry? 0 = some weld20 ∧ slotX.state ≠ .complete
    ∧ (loaded.bank .b).record? (programKey 15 7 63) = some record21 ∧ (8 : Byte).toNat = (7 : Fin 8) + 1
    ∧ 65535 < 65536 := by decide +kernel

/-- DeviceReset: a part at work, with an entry beyond QUEUED. -/
theorem witness_DeviceReset :
    atWork.quiet ∧ atWork.entry? 0 = some weld20 ∧ weld20.state ≠ .queued := by decide +kernel

/-! ## Witnesses: the link -/

/-- PowerAndReset: a part held in reset, and one without a node, with a command that each leaves aside. -/
theorem witness_PowerAndReset :
    ({ base with lif := { base.lif with inReset := true } } : State).lif.inReset ∧ Instr.tick ≠ .resetInputAssert
    ∧ (∀ n ty u1 u2, Instr.tick ≠ .powerOn n ty u1 u2)
    ∧ ({ base with lif := { base.lif with nodeStraps := 255 } } : State).lif.node? = none
    ∧ (Instr.weldReq 40 ⟨0, 18⟩).source?.isSome := by
  refine ⟨rfl, by decide, ?_, by decide +kernel, by decide⟩
  intro n ty u1 u2 h
  cases h

/-- A frame of the part's type with the kind, source, destination and payload given; its length field is the payload's. -/
def frameOf (kind source destination : Byte) (payload : List Byte) : Frame :=
  ⟨0, [1, kind, source, destination, 0, 5, 0, BitVec.ofNat 8 payload.length] ++ payload, true⟩

/-- A frame for the part that is no conflict over a station. -/
def forPart (f : Frame) : Bool :=
  f.fcsOk && f.frameType == base.lif.typeValue && (f.destination == 7 || f.destination == 255) && f.kind != 0x04
    && f.kind != 0x11 && f.kind != 0x14

/-- FrameChecked: frames for another node that are no conflict over a station. -/
theorem witness_FrameChecked_otherNode :
    ∀ f ∈ [frameOf 0x22 40 8 [0, 0], frameOf 0x11 210 8 [], frameOf 0x04 210 8 [15], frameOf 0x04 210 8 []],
      f.fcsOk ∧ f.frameType = base.lif.typeValue ∧ (∀ st : Fin 16, ¬ base.conflictOver 7 f st) ∧ f.destination ≠ 7
      ∧ f.destination ≠ 255 := by decide +kernel

/-- FrameChecked: a frame of another type, the part's own, and one that fails each form check; those for the part are of kinds
that are no conflict. -/
theorem witness_FrameChecked :
    (base.lif.inReset = false ∧ base.settled ∧ base.lif.node? = some 7 ∧ (1 : Half) ≠ base.lif.typeValue)
    ∧ (forPart (frameOf 0x22 7 7 [0, 0]) ∧ (frameOf 0x22 7 7 [0, 0]).source = 7)
    ∧ (forPart (frameOf 0x22 0 7 [0, 0]) ∧ (frameOf 0x22 0 7 [0, 0]).source = 0)
    ∧ (forPart (frameOf 0x22 255 7 [0, 0]) ∧ (frameOf 0x22 255 7 [0, 0]).source = 255)
    ∧ (forPart ⟨0, [2, 0x22, 40, 7, 0, 5, 0, 2, 0, 0], true⟩ ∧ byteAt [2, 0x22, 40, 7, 0, 5, 0, 2, 0, 0] 0 ≠ 1)
    ∧ (forPart (frameOf 0x06 40 255 [])
      ∧ (frameOf 0x06 40 255 []).kind ∉
        [0x01, 0x02, 0x03, 0x04, 0x05, 0x11, 0x12, 0x13, 0x14, 0x21, 0x22, 0x23, 0x24, 0x25, 0x31, 0x32, 0x33])
    ∧ (forPart (frameOf 0x33 40 7 [])
      ∧ (frameOf 0x33 40 7 []).kind ∈ [0x03, 0x05, 0x12, 0x13, 0x32, 0x33] ∧ (frameOf 0x33 40 7 []).destination = 7)
    ∧ (forPart (frameOf 0x22 40 7 [0]) ∧ (frameOf 0x22 40 7 [0]).payloadLength ≠ 2)
    ∧ (forPart (frameOf 0x31 40 7 (List.replicate 37 1)) ∧ 36 < (frameOf 0x31 40 7 (List.replicate 37 1)).payloadLength)
    ∧ (forPart ⟨0, [1, 0x22, 40, 7, 0, 5, 0, 2, 0], true⟩
      ∧ [1, 0x22, 40, 7, 0, 5, 0, 2, 0].length < 8 + (⟨0, [1, 0x22, 40, 7, 0, 5, 0, 2, 0], true⟩ : Frame).payloadLength)
    ∧ (forPart (frameOf 0x33 40 255 []) ∧ (frameOf 0x33 40 255 []).source ≠ 7 ∧ (frameOf 0x33 40 255 []).source ≠ 0
      ∧ (frameOf 0x33 40 255 []).source ≠ 255 ∧ byteAt (frameOf 0x33 40 255 []).bytes 0 = 1
      ∧ (frameOf 0x33 40 255 []).destination ≠ 7) := by decide +kernel

/-- FrameHandedOn: a frame of each kind that the part takes in, with the shortest and longest MGMT_REQUEST. -/
theorem witness_FrameHandedOn :
    base.lif.inReset = false ∧ base.lif.node? = some 7
    ∧ ∀ x ∈ ([(0x01, 9), (0x02, 16), (0x21, 5), (0x22, 2), (0x23, 2), (0x24, 2), (0x25, 5), (0x31, 1), (0x31, 36)] :
        List (Byte × Nat)),
      (frameOf x.1 200 7 (List.replicate x.2 1)).fcsOk ∧ (frameOf x.1 200 7 (List.replicate x.2 1)).frameType = 0
      ∧ (frameOf x.1 200 7 (List.replicate x.2 1)).destination = 7
      ∧ (frameOf x.1 200 7 (List.replicate x.2 1)).source = 200
      ∧ byteAt (frameOf x.1 200 7 (List.replicate x.2 1)).bytes 0 = 1
      ∧ 8 + (frameOf x.1 200 7 (List.replicate x.2 1)).payloadLength ≤ (frameOf x.1 200 7 (List.replicate x.2 1)).bytes.length
      ∧ (frameOf x.1 200 7 (List.replicate x.2 1)).kind = x.1.toNat
      ∧ (frameOf x.1 200 7 (List.replicate x.2 1)).payloadLength = x.2 := by decide +kernel

/-- OwnershipConflict: a PROG_SELECT of another node to robot 20's node at a station at work, and a STATION_RELEASE of that
station cut behind the station byte, also to the part itself and from node 0 to all; a DISPATCH_CANCEL where the station is
DISABLED. -/
theorem witness_OwnershipConflict :
    (∀ f ∈ [frameOf 0x11 50 40 [], frameOf 0x04 50 200 [6], frameOf 0x04 50 7 [6], frameOf 0x04 0 255 [6]],
      atWork.lif.inReset = false ∧ atWork.settled ∧ atWork.lif.node? = some 7 ∧ f.fcsOk
      ∧ f.frameType = atWork.lif.typeValue ∧ atWork.conflictOver 7 f 6 ∧ (atWork.station 6).state ≠ .disabled)
    ∧ ((shown (robotAt .idle)).settled ∧ (shown (robotAt .idle)).lif.node? = some 7
      ∧ (shown (robotAt .idle)).conflictOver 7 (frameOf 0x14 50 40 []) 6
      ∧ ((shown (robotAt .idle)).station 6).state = .disabled) := by decide +kernel

/-- A port with one frame and one telegram waiting. -/
def bothWait (turn : Bool) : State :=
  { base with
    lif := { base.lif with
      p1 := ⟨true, none, [frameOf 0x22 40 200 [0, 0]], [.cycleHold 40 ⟨0, 18⟩], turn⟩ } }

/-- PortsTransmit: both claimants wait with either turn, and none waits; a store with room for one and a full one. -/
theorem witness_PortsTransmit :
    ((bothWait false).lif.inReset = false ∧ (bothWait false).settled ∧ (bothWait false).lif.node? = some 7
      ∧ ((bothWait false).lif.port .p1).forward = [frameOf 0x22 40 200 [0, 0]]
      ∧ ((bothWait false).lif.port .p1).ownTurn = false)
    ∧ ((bothWait true).settled ∧ ((bothWait true).lif.port .p1).own = [.cycleHold 40 ⟨0, 18⟩]
      ∧ ((bothWait true).lif.port .p1).ownTurn = true)
    ∧ (base.lif.port .p1).own = [] ∧ (base.lif.port .p1).forward = []
    ∧ ({ base with lif := { base.lif with nodeStraps := 0 } } : State).lif.node? = none ∧ base.lif.node?.isSome := by
  decide +kernel

/-! ## Witnesses: arrivals -/

/-- Station 6 with both slots occupied. -/
def bothSlots : State :=
  shown (base.setStation 6 { station6 with next := some { slotX with state := .announced, body := 0x22 } })

/-- Station 6 without a body. -/
def emptyAt : State := shown (base.setStation 6 { station6 with current := none })

/-- Station 6 without a body, with the tables of 1.7 in the ACTIVE bank, robot 20 IDLE, and robot 22 IDLE with a dress due. -/
def receiving : State :=
  ((emptyAt.setBank .a bank17).setRobot 20 { robot20 with state := .idle }).setRobot 22
    { robot22 with state := .idle, wear := 300 }

/-- The arrival of body X at station 6. -/
def arrivalX : Arrival := { station := 6, body := 0x33, build := buildX, stamp := .a }

/-- ArrivalAccepted: station 6 with no free slot; and with both free, positions with and without a serving robot, and a robot
with and without a dress due. -/
theorem witness_ArrivalAccepted :
    (bothSlots.ready ∧ bothSlots.mge.lineNode ≠ 0 ∧ (200 : Byte) = bothSlots.mge.lineNode ∧ (6 : Byte).toNat = (6 : Fin 16)
      ∧ (bothSlots.station 6).state ≠ .disabled ∧ (0x33 : Word) ≠ 0 ∧ bothSlots.arq.queue = []
      ∧ (bothSlots.station 6).current.all (fun c => decide (c.body ≠ 0x33))
      ∧ (bothSlots.station 6).next.all (fun c => decide (c.body ≠ 0x33)) ∧ (bothSlots.station 6).current ≠ none
      ∧ (bothSlots.station 6).next ≠ none ∧ bothSlots.settled)
    ∧ (receiving.ready ∧ receiving.mge.lineNode ≠ 0 ∧ (200 : Byte) = receiving.mge.lineNode
      ∧ (receiving.station 6).state ≠ .disabled ∧ receiving.arq.queue = [] ∧ (receiving.station 6).current = none
      ∧ (receiving.station 6).next = none ∧ (receiving.station 6).bodyLost = false ∧ receiving.listsAgree
      ∧ receiving.allocatable [] (receiving.plans 6 (receiving.resolveArrival arrivalX).works)
      ∧ (∀ r ∈ receiving.stationRobots 6, (receiving.robot r).wear < (receiving.robot r).limit)
      ∧ (receiving.resolveArrival arrivalX).works
        = #v[some ⟨33, 60⟩, none, some ⟨67, 46⟩, some ⟨48, 24⟩, none, some ⟨136, 1023⟩, some ⟨242, 0⟩, none]
      ∧ receiving.servingRobot? 6 0 = some 20 ∧ receiving.servingRobot? 6 2 = some 22 ∧ receiving.servingRobot? 6 3 = none
      ∧ receiving.dressDue 20 = false ∧ receiving.dressDue 22 = true ∧ (receiving.panel 6).manual = false) := by
  decide +kernel

/-- The same arrival: robot 20 is offered its WELD entry at index 0, and robot 22 its DRESS entry at index 1 ahead of its WELD
entry at index 2 (R54, R56, R105). -/
theorem test_allocated :
    (match exec (.bodyArrive ⟨200, 9⟩ 6 0x33 buildX) receiving with
      | .next t => t.list 20 == [0] && t.list 22 == [1, 2]
          && t.entry? 1 == some { kind := .dress, robot := 22, station := 6, body := 0x33, position := 2, program := 250
                                  expected := 0, state := .offered, selectTimer := some 201 }
          && t.entry? 2 == some { kind := .weld, robot := 22, station := 6, body := 0x33, position := 2, program := 67
                                  expected := 46 }
      | _ => false) = true := by decide +kernel

/-- Station 6 at work with the queue full of another station's arrivals. -/
def queueFull : State := atWork.setQueue (List.replicate 32 ⟨5, 0x44, 0, .a, 0, false⟩)

/-- ArrivalRefused: from another node; station 16; a DISABLED station; body 0; a body that the station holds; a full queue. -/
theorem witness_ArrivalRefused :
    (atWork.ready ∧ atWork.settled ∧ (210 : Byte) ≠ atWork.mge.lineNode ∧ atWork.mge.lineNode ≠ 0
      ∧ (200 : Byte) = atWork.mge.lineNode)
    ∧ 16 ≤ (16 : Byte).toNat ∧ ((15 : Byte).toNat = (15 : Fin 16) ∧ (atWork.station 15).state = .disabled)
    ∧ ((6 : Byte).toNat = (6 : Fin 16) ∧ (atWork.station 6).state ≠ .disabled ∧ atWork.duplicates 6 0x11)
    ∧ (queueFull.ready ∧ queueFull.settled ∧ (200 : Byte) = queueFull.mge.lineNode
      ∧ (queueFull.station 6).state ≠ .disabled ∧ (0x55 : Word) ≠ 0 ∧ queueFull.duplicates 6 0x55 = false
      ∧ 32 ≤ queueFull.arq.queue.length) := by decide +kernel

/-- A part with a pass due and arrivals of station 6: the head with the skip count given, and one behind it. -/
def passAt (s : State) (n : Nat) : State :=
  { s.setQueue [{ arrivalX with skips := n, starved := n == 8 }, { arrivalX with body := 0x44 }] with passDue := true }

/-- PassKeepsOrder: skip counts 6, 7 and 8; a head that is not eligible, one that is and is not allocated (robot 22's list is
full), alone and ahead of another, and the same heads STARVED. -/
theorem witness_PassKeepsOrder :
    (∀ s ∈ [bothSlots, receiving.setList 22 [5, 6]], ∀ n ∈ [6, 7, 8], ∀ a ∈ [{ arrivalX with skips := n, starved := n == 8 }],
      (passAt s n).passDue ∧ (passAt s n).arq.queue = [a, { arrivalX with body := 0x44 }])
    ∧ bothSlots.eligible [] arrivalX = false ∧ (receiving.setList 22 [5, 6]).eligible [] arrivalX = true
    ∧ (receiving.setList 22 [5, 6]).allocatable []
        ((receiving.setList 22 [5, 6]).plans 6 ((receiving.setList 22 [5, 6]).resolveArrival arrivalX).works) = false := by
  decide +kernel

/-! ## Witnesses: the handshake -/

/-- Station 6 at work with the entry of robot 20 given; `weld22` waits at index 1. -/
def withEntry (e : Entry) : State := cell station6 robot20 robot22 e weld22

/-- The entry of robot 20, OFFERED with its select timer due. -/
def offered20 : Entry := { weld20 with state := .offered, selectTimer := some 0 }

/-- EchoAndReoffer: an OFFERED entry with its re-offer unused and its timer due. -/
theorem witness_EchoAndReoffer :
    (withEntry offered20).ready ∧ (withEntry offered20).settled
    ∧ (withEntry offered20).live 40 ⟨0, 18⟩ 0 offered20 [.offered] ∧ (33 : Byte) = offered20.program
    ∧ offered20.reoffered = false ∧ ¬ ((1 : Byte) = 1 ∧ (34 : Byte) = offered20.program)
    ∧ offered20.selectTimer = some 0 := by decide +kernel

/-- OfferEnds: the same with the re-offer spent. -/
theorem witness_OfferEnds :
    (withEntry { offered20 with reoffered := true }).ready ∧ (withEntry { offered20 with reoffered := true }).settled
    ∧ (withEntry { offered20 with reoffered := true }).live 40 ⟨0, 18⟩ 0 { offered20 with reoffered := true } [.offered]
    ∧ offered20.kind = .weld ∧ offered20.supply = .none ∧ (withEntry { offered20 with reoffered := true }).list 20 = [0]
    ∧ ((withEntry { offered20 with reoffered := true }).robot 20).state = .busy
    ∧ (withEntry { offered20 with reoffered := true }).arq.queue = []
    ∧ ((withEntry { offered20 with reoffered := true }).station 6).current = some slotX ∧ slotX.body = offered20.body
    ∧ slotX.positions[(0 : Fin 8)] = some ⟨33, 60, .pending, none, 0⟩
    ∧ ((withEntry { offered20 with reoffered := true }).station 6).state ≠ .disabled := by decide +kernel

/-- The entry of robot 20, SELECTED. -/
def selected20 : Entry := { weld20 with state := .selected }

/-- The same with the body still SEATING. -/
def seating : State :=
  cell { station6 with current := some { slotX with state := .seating } } robot20 robot22 selected20 weld22

/-- CycleStarted: the body SEATED, and SEATING; a DRESS entry. -/
theorem witness_CycleStarted :
    ((withEntry selected20).ready ∧ (withEntry selected20).settled
      ∧ (withEntry selected20).live 40 ⟨0, 18⟩ 0 selected20 [.selected]
      ∧ ((withEntry selected20).station 6).slotOf? selected20.body = some slotX ∧ slotX.state = .seated)
    ∧ (seating.ready ∧ seating.settled ∧ seating.live 40 ⟨0, 18⟩ 0 selected20 [.selected] ∧ selected20.kind = .weld
      ∧ (seating.station 6).slotOf? selected20.body = some { slotX with state := .seating })
    ∧ (withEntry { selected20 with kind := .dress }).live 40 ⟨0, 18⟩ 0 { selected20 with kind := .dress } [.selected] := by
  decide +kernel

/-- Robots 20 and 22 in group 1, whose capacity is 1, with entries of the supply states given. -/
def supplied (x y : SupplyState) : State :=
  cell station6 { robot20 with group := 1 } { robot22 with group := 1 } { weld20 with supply := x }
    { weld22 with state := .welding, selectTimer := none, supply := y }

/-- CreditRequested: group 0; group 1 with a free credit; group 1 with its credit held. -/
theorem witness_CreditRequested :
    (atWork.ready ∧ atWork.settled ∧ atWork.live 40 ⟨0, 18⟩ 0 weld20 [.welding] ∧ weld20.supply = .none
      ∧ (atWork.robot 20).group = 0)
    ∧ ((supplied .none .none).ready ∧ (supplied .none .none).settled
      ∧ (supplied .none .none).live 40 ⟨0, 18⟩ 0 weld20 [.welding]
      ∧ (((supplied .none .none).robot 20).group : Nat) = (0 : Fin 8) + 1
      ∧ ((supplied .none .none).holders 0).length < ((supplied .none .none).group 0).capacity
      ∧ (supplied .none .none).waiters 0 = [])
    ∧ ((supplied .none .holding).settled ∧ (supplied .none .holding).live 40 ⟨0, 18⟩ 0 weld20 [.welding]
      ∧ ((supplied .none .holding).group 0).capacity ≤ ((supplied .none .holding).holders 0).length) := by decide +kernel

/-- CreditReturned: a waiter; a holder of group 0; a holder without and with a waiter behind it, with no pointer and with
the pointer before the waiter. -/
theorem witness_CreditReturned :
    ((supplied .waiting .holding).ready ∧ (supplied .waiting .holding).settled
      ∧ (supplied .waiting .holding).live 40 ⟨0, 18⟩ 0 { weld20 with supply := .waiting } [.welding])
    ∧ ((withEntry { weld20 with supply := .holding }).settled
      ∧ (withEntry { weld20 with supply := .holding }).live 40 ⟨0, 18⟩ 0 { weld20 with supply := .holding } [.welding]
      ∧ ((withEntry { weld20 with supply := .holding }).robot 20).group = 0)
    ∧ ((supplied .holding .none).settled
      ∧ (supplied .holding .none).live 40 ⟨0, 18⟩ 0 { weld20 with supply := .holding } [.welding]
      ∧ (((supplied .holding .none).robot 20).group : Nat) = (0 : Fin 8) + 1 ∧ (supplied .holding .none).waiters 0 = [])
    ∧ (∀ p : Option (Fin 64), p = none ∨ p = some 20 ∨ p = some 22 →
      ((supplied .holding .waiting).setGroup 0 { pointer := p }).settled
      ∧ ((supplied .holding .waiting).setGroup 0 { pointer := p }).waiters 0 = [1]
      ∧ ((supplied .holding .waiting).setGroup 0 { pointer := p }).robotNumber 1 = 22
      ∧ (((supplied .holding .waiting).setGroup 0 { pointer := p }).group 0).pointer = p) := by
  refine ⟨by decide +kernel, by decide +kernel, by decide +kernel, ?_⟩
  rintro p (rfl | rfl | rfl) <;> decide +kernel

/-- GunWear, WeldReported: robot 20's WELD entry, the only one of its robot, without a credit; and a telegram that names
none. -/
theorem witness_GunWear_WeldReported :
    atWork.ready ∧ atWork.live 40 ⟨0, 18⟩ 0 weld20 [.selected, .welding] ∧ weld20.supply = .none
    ∧ atWork.list weld20.robot = [0] ∧ (atWork.robot weld20.robot).state = .busy ∧ atWork.arq.queue = []
    ∧ (1023 : Nat) = min (0xFFFF : Half).toNat 1023 ∧ (atWork.station 6).current = some slotX
    ∧ slotX.body = weld20.body ∧ slotX.positions[weld20.position] = some ⟨33, 60, .pending, none, 0⟩
    ∧ weld20.kind = .weld ∧ atWork.wearBounded
    ∧ (∀ (i : Fin 128), (atWork.entry? i).all (fun e => decide (¬ atWork.live 40 ⟨0, 17⟩ i e [.selected, .welding]))) := by
  decide +kernel

/-- WeldReported: a MAINT entry. -/
theorem witness_WeldReported_maint :
    (withEntry { weld20 with kind := .maint }).live 40 ⟨0, 18⟩ 0 { weld20 with kind := .maint } [.selected, .welding]
    ∧ (withEntry { weld20 with kind := .maint }).list 20 = [0] := by decide +kernel

/-- Robot 20's entry, a holder of group 1 whose hold timer is due. -/
def held20 : Entry := { weld20 with supply := .holding, holdTimer := some 0 }

/-- Robot 20 in group 1 with its hold timer due; no entry waits. -/
def holdDue : State := cell station6 { robot20 with group := 1 } robot22 held20 weld22

/-- HoldExpired: a holder of group 1 without waiters. -/
theorem witness_HoldExpired :
    holdDue.ready ∧ holdDue.settled ∧ holdDue.entry? 0 = some held20 ∧ held20.holdTimer = some 0
    ∧ held20.supply = .holding ∧ held20.kind = .weld ∧ holdDue.list 20 = [0] ∧ (holdDue.robot 20).state = .busy
    ∧ holdDue.arq.queue = [] ∧ ((holdDue.robot 20).group : Nat) = (0 : Fin 8) + 1 ∧ holdDue.waiters 0 = []
    ∧ (∀ g : Fin 8, ((holdDue.robot 20).group : Nat) = g + 1 → holdDue.waiters g = [])
    ∧ (holdDue.station 6).current = some slotX ∧ slotX.body = held20.body
    ∧ slotX.positions[held20.position] = some ⟨33, 60, .pending, none, 0⟩ := by decide +kernel

/-- Station 6 with the CURRENT slot and timers given. -/
def timed (c : Slot) (seat cycle : Option Nat) : State :=
  shown (base.setStation 6 { station6 with current := some c, seatTimer := seat, cycleTimer := cycle })

/-- StationTimers: a seat timer due with work pending and with none, and a cycle timer due. -/
theorem witness_StationTimers :
    ((timed { slotX with state := .seating } (some 0) none).ready
      ∧ (timed { slotX with state := .seating } (some 0) none).settled
      ∧ ((timed { slotX with state := .seating } (some 0) none).station 6).current = some { slotX with state := .seating }
      ∧ ((timed { slotX with state := .seating } (some 0) none).station 6).seatTimer = some 0
      ∧ (∃ (p : Fin 8), (slotX.positions[p]).any (fun y => y.outcome == .pending)))
    ∧ ((timed { slotX with state := .seating, positions := Vector.replicate 8 none } (some 0) none).settled
      ∧ ((timed { slotX with state := .seating, positions := Vector.replicate 8 none } (some 0) none).station 6).state
        = .running)
    ∧ ((timed slotX none (some 0)).settled ∧ ((timed slotX none (some 0)).station 6).cycleTimer = some 0) := by
  decide +kernel

/-- StaleDropped: an issue number of the past names no entry for any of the telegrams; a WELDING entry that waits for a credit
and one that holds one, and one that does neither. -/
theorem witness_StaleDropped :
    (atWork.ready ∧ atWork.settled
      ∧ ∀ l ∈ ([[.offered], [.selected], [.welding], [.selected, .welding]] : List (List EntryState)), ∀ i : Fin 128,
        (atWork.entry? i).all (fun e => decide (¬ atWork.live 40 ⟨0, 17⟩ i e l)))
    ∧ (∀ x ∈ [SupplyState.none, .waiting, .holding],
      (withEntry { weld20 with supply := x }).ready ∧ (withEntry { weld20 with supply := x }).settled
      ∧ (withEntry { weld20 with supply := x }).live 40 ⟨0, 18⟩ 0 { weld20 with supply := x } [.welding]) := by
  decide +kernel

/-! ## Rows of the manual's worked sequences -/

/-- 4.12, row 2: ACCEPT of the offered program selects the entry and stops its timer. -/
theorem test_echo_accepted :
    (match exec (.selEcho 42 ⟨1, 5⟩ 67 1 0) atWork with
      | .next t => t == atWork.setPlace 1 ⟨5, some { weld22 with state := .selected, selectTimer := none }⟩
      | _ => false) = true := by decide +kernel

/-- 4.12, row 3: the echo of another program spends the re-offer, and the new tag is (1, 6). -/
theorem test_echo_reoffers :
    (match exec (.selEcho 42 ⟨1, 5⟩ 76 1 0) atWork with
      | .next t => t.issued == [.progSelect 42 ⟨1, 6⟩ 67 46 0x11 .weld]
      | _ => false) = true := by decide +kernel

/-- 4.12, row 4: the late repeat names issue 5 while the issue is another: STALE_TELEGRAM. -/
theorem test_echo_stale :
    (match exec (.selEcho 42 ⟨1, 4⟩ 67 0 0) atWork with
      | .next t => (t.deviceStatus 4).set && t.entry? 1 == some weld22
      | _ => false) = true := by decide +kernel

/-- 4.12, row 11: the report of 60 of robot 20, and its gun wear of 560. -/
theorem test_weld_done :
    (match exec (.weldDone 40 ⟨0, 18⟩ 60 0) atWork with
      | .next t => (t.robot 20).wear == 560 && (t.entry? 0).isNone
          && (t.station 6).current.any (fun c => c.positions[(0 : Fin 8)] == some ⟨33, 60, .done, some 60, 0⟩)
      | _ => false) = true := by decide +kernel

/-- The examples of completed slots in 7.5: their overall outcomes and shortfall lists. -/
theorem test_overall :
    ({ slotX with positions := #v[some ⟨33, 60, .done, some 60, 0⟩, none, some ⟨67, 46, .excess, some 47, 0⟩, none, none, none,
        none, none] } : Slot).overall = .welded
    ∧ ({ slotX with positions := #v[some ⟨33, 60, .done, some 60, 0⟩, none, some ⟨67, 46, .accepted, none, 46⟩, none, none,
        none, none, none] } : Slot).shortfalls = [(2, 46)]
    ∧ ({ slotX with style := none, positions := Vector.replicate 8 none } : Slot).overall = .unwelded
    ∧ ({ slotX with abortMark := true } : Slot).overall = .rejected
    ∧ ({ slotX with positions := #v[none, none, none, some ⟨9, 24, .bypassed, none, 24⟩, none, none, none, none] } : Slot).overall
      = .short := by decide +kernel

/-- 9.6, ticks 1 and 2 at levels 120 and 126: what each of the four modes adds. -/
theorem test_samples :
    (⟨0, { event := .trackerInUse, mode := .level }, false⟩ : Counter).sampled 120 = 120
    ∧ (⟨0, { event := .trackerInUse, mode := .threshold, threshold := 126 }, false⟩ : Counter).sampled 126 = 1
    ∧ (⟨0, { event := .trackerInUse, mode := .edge, threshold := 126 }, true⟩ : Counter).sampled 127 = 0
    ∧ (⟨0, { event := .trackerInUse, mode := .edge, threshold := 126, invert := true }, false⟩ : Counter).sampled 120 = 1 := by
  decide

/-- 10.8, row 5: a fifth request is answered BUSY with its own sequence number, and MGMT_BUSY is set. -/
theorem test_busy :
    (match exec (.counterRead ⟨212, 3⟩ 0) (waiting 4) with
      | .next t => t.issued == [.mgmtResponse 212 3 25 .busy []] && (t.deviceStatus 6).set && t.mge == (waiting 4).mge
      | _ => false) = true := by decide +kernel

/-- The rows of 11.7: a padded WELD_DONE passes, a length of 4 fails, a kind that the part sends fails, the part's own frame
is dropped without an event, and an EVENT_ACK of two items is read. -/
theorem test_length_checks :
    formCheck 7 (⟨0, [1, 0x25, 40, 7, 0, 0, 0, 5] ++ List.replicate 46 0, true⟩ : Frame) = .passes
    ∧ formCheck 7 (⟨0, [1, 0x25, 40, 7, 0, 0, 0, 4] ++ List.replicate 46 0, true⟩ : Frame) = .bad
    ∧ formCheck 7 (⟨0, [1, 0x01, 200, 7, 0, 0, 0, 9] ++ List.replicate 6 0, true⟩ : Frame) = .bad
    ∧ formCheck 7 (⟨0, [1, 0x04, 200, 7, 0, 0, 0, 7] ++ List.replicate 46 0, true⟩ : Frame) = .bad
    ∧ formCheck 7 (⟨0, [1, 0x22, 7, 7, 0, 0, 0, 2] ++ List.replicate 46 0, true⟩ : Frame) = .silent
    ∧ readRequest [22, 2, 6, 1, 255, 0x40] = .eventAck [(6, 1), (255, 0x40)] ∧ readRequest [16, 6, 0, 0] = .bad 16 := by
  decide +kernel

end Sys2Proof.Tests
end

section
/-! Program resolution (chapter 1): one law per shift kind that says which bit of the build code each bit of the result is,
the laws of a key and of an option field, and from them the statements O9 and O10. -/

namespace Sys2Proof.Machine

/-! ## The bits of a shifted build code (R3, R4) -/

theorem shift_rl_toNat (k : Nat) (b : Word) : (shift .rl k b).toNat = b.toNat / 2 ^ k := by
  simp [shift, Nat.shiftRight_eq_div_pow]

theorem shift_ll_toNat (k : Nat) (b : Word) : (shift .ll k b).toNat = b.toNat * 2 ^ k % 2 ^ 32 := by
  simp [shift, Nat.shiftLeft_eq]

@[simp] theorem getLsbD_shift_rl (k n : Nat) (b : Word) : (shift .rl k b).getLsbD n = b.getLsbD (n + k) := by
  simp [shift, Nat.add_comm]

theorem getLsbD_shift_ll_of_lt {k n : Nat} (h : n < k) (b : Word) : (shift .ll k b).getLsbD n = false := by
  simp [shift, h]

theorem getLsbD_shift_ll_of_le {k n : Nat} (hk : k ≤ n) (hn : n < 32) (b : Word) :
    (shift .ll k b).getLsbD n = b.getLsbD (n - k) := by
  have notVacated : ¬ n < k := by omega
  rw [shift, BitVec.getLsbD_shiftLeft]
  simp only [hn, notVacated, decide_true, decide_false, Bool.not_false, Bool.true_and]

/-- RC by `k` reads `k` places higher, around the word. -/
theorem getLsbD_shift_rc {k n : Nat} (hk : k ≤ 31) (hn : n < 32) (b : Word) :
    (shift .rc k b).getLsbD n = b.getLsbD ((n + k) % 32) := by
  rw [shift, BitVec.getLsbD_rotateRight, Nat.mod_eq_of_lt (by omega : k < 32)]
  by_cases h : n < 32 - k
  · have index : (n + k) % 32 = k + n := by omega
    simp [h, index]
  · have index : (n + k) % 32 = n - (32 - k) := by omega
    simp [h, hn, index]

/-- LC by `k` reads `k` places lower, around the word. -/
theorem getLsbD_shift_lc {k n : Nat} (hk : k ≤ 31) (hn : n < 32) (b : Word) :
    (shift .lc k b).getLsbD n = b.getLsbD ((n + 32 - k) % 32) := by
  rw [shift, BitVec.getLsbD_rotateLeft_of_le (by omega)]
  by_cases h : n < k
  · have index : (n + 32 - k) % 32 = 32 - k + n := by omega
    simp [h, index]
  · have index : (n + 32 - k) % 32 = n - k := by omega
    simp [h, hn, index]

/-- Where the bit read does not go around the word, RC is RL. -/
theorem getLsbD_shift_rc_eq_rl {k n : Nat} (h : n + k < 32) (b : Word) :
    (shift .rc k b).getLsbD n = (shift .rl k b).getLsbD n := by
  rw [getLsbD_shift_rc (by omega) (by omega), getLsbD_shift_rl, Nat.mod_eq_of_lt h]

/-- Where the bit read does not go around the word, LC is LL. -/
theorem getLsbD_shift_lc_eq_ll {k n : Nat} (hk : k ≤ n) (hn : n < 32) (b : Word) :
    (shift .lc k b).getLsbD n = (shift .ll k b).getLsbD n := by
  have index : (n + 32 - k) % 32 = n - k := by omega
  rw [getLsbD_shift_lc (by omega) hn, getLsbD_shift_ll_of_le hk hn, index]

theorem shift_rc_eq_shift_lc {k : Nat} (hpos : 1 ≤ k) (hk : k ≤ 31) (b : Word) :
    shift .rc k b = shift .lc (32 - k) b := by
  refine BitVec.eq_of_getLsbD_eq fun n hn => ?_
  have index : n + 32 - (32 - k) = n + k := by omega
  rw [getLsbD_shift_rc hk hn, getLsbD_shift_lc (by omega) hn, index]

@[simp] theorem shift_zero (kind : ShiftKind) (b : Word) : shift kind 0 b = b := by
  refine BitVec.eq_of_getLsbD_eq fun n hn => ?_
  cases kind with
  | rl => rw [getLsbD_shift_rl, Nat.add_zero]
  | rc => rw [getLsbD_shift_rc (by omega) hn, Nat.add_zero, Nat.mod_eq_of_lt hn]
  | ll => rw [getLsbD_shift_ll_of_le (by omega) hn, Nat.sub_zero]
  | lc => rw [getLsbD_shift_lc (by omega) hn, Nat.sub_zero, Nat.add_mod_right, Nat.mod_eq_of_lt hn]

/-- Settles O9, from the law of each shift kind: what is left is which index the law reads. -/
theorem shifts : Obligations.Shifts := by
  refine ⟨fun b k hk => ⟨shift_rl_toNat k b, shift_ll_toNat k b, ?rlMoves, ?rlVacates, ?llMoves,
      fun n hn => getLsbD_shift_ll_of_lt hn b⟩,
    fun b k hk => ⟨?rcMoves, ?lcMoves, fun hpos => shift_rc_eq_shift_lc hpos hk b, fun kind => shift_zero kind b,
      fun n hn => getLsbD_shift_rc_eq_rl hn b, fun n hkn hn => getLsbD_shift_lc_eq_ll hkn hn b,
      ?rcWraps, ?lcWraps⟩⟩
  case rlMoves =>
    intro n hkn _
    rw [getLsbD_shift_rl, Nat.sub_add_cancel hkn]
  case rlVacates =>
    intro n hn _
    rw [getLsbD_shift_rl, BitVec.getLsbD_of_ge b (n + k) (by omega)]
  case llMoves =>
    intro n hn
    rw [getLsbD_shift_ll_of_le (by omega) hn, Nat.add_sub_cancel]
  case rcMoves =>
    intro n hn
    have index : ((n + 32 - k) % 32 + k) % 32 = n := by omega
    rw [getLsbD_shift_rc hk (by omega), index]
  case lcMoves =>
    intro n hn
    have index : ((n + k) % 32 + 32 - k) % 32 = n := by omega
    rw [getLsbD_shift_lc hk (by omega), index]
  case rcWraps =>
    intro n hkn hn
    have index : (n + k) % 32 = n + k - 32 := by omega
    rw [getLsbD_shift_rc hk hn, index]
  case lcWraps =>
    intro n hn
    rw [getLsbD_shift_lc hk (by omega), Nat.mod_eq_of_lt (by omega)]

/-! ## Keys (R5) -/

@[simp] theorem getLsbD_key (c : StationConfig) (b : Word) (n : Nat) :
    (key c b).getLsbD n = ((shift c.shiftKind c.shiftCount b).getLsbD n && c.mask.getLsbD n) := by
  simp [key]

theorem key_of_mask_zero {c : StationConfig} (h : c.mask = 0) (b : Word) : key c b = 0 := by
  simp [key, h]

theorem getLsbD_key_of_rl {c : StationConfig} (h : c.shiftKind = .rl) {n : Nat} (hn : 32 - c.shiftCount ≤ n) (b : Word) :
    (key c b).getLsbD n = false := by
  have outside : b.getLsbD (n + c.shiftCount) = false := BitVec.getLsbD_of_ge b _ (by omega)
  rw [getLsbD_key, h, getLsbD_shift_rl, outside, Bool.false_and]

theorem getLsbD_key_of_ll {c : StationConfig} (h : c.shiftKind = .ll) {n : Nat} (hn : n < c.shiftCount) (b : Word) :
    (key c b).getLsbD n = false := by
  rw [getLsbD_key, h, getLsbD_shift_ll_of_lt hn, Bool.false_and]

/-! ## Overlays and option fields (R11) -/

theorem ProgramRecord.mask_of_overlay {x : ProgramRecord} {o : Overlay} (h : x.overlay = some o) : x.mask = o.mask := by
  simp [ProgramRecord.mask, h]

theorem ProgramRecord.mask_of_no_overlay {x : ProgramRecord} (h : x.overlay = none) : x.mask = 0 := by
  simp [ProgramRecord.mask, h]

theorem ProgramRecord.options_of_overlay {x : ProgramRecord} {o : Overlay} (h : x.overlay = some o) (b : Word) :
    x.options b = (shift o.kind o.count b).setWidth 8 &&& o.mask := by
  simp [ProgramRecord.options, h]

theorem ProgramRecord.options_of_no_overlay {x : ProgramRecord} (h : x.overlay = none) (b : Word) : x.options b = 0 := by
  simp [ProgramRecord.options, h]

theorem ProgramRecord.getLsbD_options {x : ProgramRecord} {o : Overlay} (h : x.overlay = some o) (b : Word) {n : Nat}
    (hn : n < 8) : (x.options b).getLsbD n = ((shift o.kind o.count b).getLsbD n && o.mask.getLsbD n) := by
  simp [options_of_overlay h, hn]

/-- The option field lies inside the overlay mask. -/
theorem ProgramRecord.options_and_not_mask (x : ProgramRecord) (b : Word) : x.options b &&& ~~~x.mask = 0 := by
  cases h : x.overlay with
  | none => rw [options_of_no_overlay h]; exact BitVec.zero_and
  | some o => rw [options_of_overlay h, mask_of_overlay h, BitVec.and_assoc, BitVec.and_not_self]; exact BitVec.and_zero

/-- Settles O10, from the laws of the key and of the option field. -/
theorem keyAndOptionField : Obligations.KeyAndOptionField :=
  ⟨fun c b _ => ⟨fun n _ => getLsbD_key c b n, fun h => key_of_mask_zero h b, fun h _ hn => getLsbD_key_of_rl h hn b,
      fun h _ hn => getLsbD_key_of_ll h hn b⟩,
    fun x b => ⟨fun _ h => ⟨ProgramRecord.mask_of_overlay h, fun _ hn => ProgramRecord.getLsbD_options h b hn⟩,
      fun h => ⟨ProgramRecord.options_of_no_overlay h b, ProgramRecord.mask_of_no_overlay h⟩, x.options_and_not_mask b⟩⟩

end Sys2Proof.Machine
end

section
/-! Program tables (chapter 2): the laws of the record at a key and of the erasing of a program table, the outcome of a
request that is handed to a quiet part, and from them the statement O15. -/

namespace Sys2Proof.Machine

/-! ## Program tables (R33, R36) -/

theorem keysRise_cons (p : Nat × ProgramRecord) (l : List (Nat × ProgramRecord)) :
    keysRise (p :: l) = true ↔ (∀ q ∈ l, p.1 < q.1) ∧ keysRise l = true := by
  induction l generalizing p with
  | nil => simp [keysRise]
  | cons q l ih =>
    simp only [keysRise, Bool.and_eq_true, decide_eq_true_eq, List.forall_mem_cons]
    refine ⟨fun ⟨first, rest⟩ => ⟨⟨first, fun x hx => ?_⟩, rest⟩, fun ⟨⟨first, _⟩, rest⟩ => ⟨first, rest⟩⟩
    exact first.trans (((ih q).mp rest).1 x hx)

theorem State.tablesWf_keysRise {s : State} (h : s.tablesWf = true) (id : BankId) :
    keysRise (s.bank id).programs = true := by
  simp only [State.tablesWf, List.all_cons, List.all_nil, Bool.and_true, Bool.and_eq_true] at h
  obtain ⟨⟨riseA, _⟩, riseB, _⟩ := h
  cases id with
  | a => exact riseA
  | b => exact riseB

theorem eraseRecord_cons_self (k : Nat) (x : ProgramRecord) (l : List (Nat × ProgramRecord)) :
    eraseRecord k ((k, x) :: l) = eraseRecord k l := by
  simp [eraseRecord]

theorem eraseRecord_cons_of_ne {k n : Nat} (h : n ≠ k) (x : ProgramRecord) (l : List (Nat × ProgramRecord)) :
    eraseRecord k ((n, x) :: l) = (n, x) :: eraseRecord k l := by
  simp [eraseRecord, h]

theorem lookup_eraseRecord_self (k : Nat) (l : List (Nat × ProgramRecord)) : (eraseRecord k l).lookup k = none := by
  refine List.lookup_eq_none_iff.mpr fun p hp => ?_
  obtain ⟨_, kept⟩ := List.mem_filter.mp hp
  rwa [bne_comm] at kept

theorem lookup_eraseRecord_of_ne {k k' : Nat} (h : k' ≠ k) (l : List (Nat × ProgramRecord)) :
    (eraseRecord k l).lookup k' = l.lookup k' := by
  induction l with
  | nil => rfl
  | cons p l ih =>
    obtain ⟨n, x⟩ := p
    by_cases erased : n = k
    · subst erased
      have other : (k' == n) = false := beq_eq_false_iff_ne.mpr h
      rw [eraseRecord_cons_self, ih, List.lookup_cons, other]
    · rw [eraseRecord_cons_of_ne erased, List.lookup_cons, List.lookup_cons, ih]

/-- Where the keys rise, the key erased stands at one place only. -/
theorem length_eraseRecord {k : Nat} {l : List (Nat × ProgramRecord)} (rise : keysRise l = true)
    (held : l.lookup k ≠ none) : (eraseRecord k l).length + 1 = l.length := by
  induction l with
  | nil => exact absurd rfl held
  | cons p l ih =>
    obtain ⟨n, x⟩ := p
    obtain ⟨above, rise⟩ := (keysRise_cons _ _).mp rise
    by_cases erased : n = k
    · subst erased
      have rest : eraseRecord n l = l :=
        List.filter_eq_self.mpr fun q hq => bne_iff_ne.mpr (above q hq).ne'
      rw [eraseRecord_cons_self, rest, List.length_cons]
    · have other : (k == n) = false := beq_eq_false_iff_ne.mpr (Ne.symm erased)
      rw [List.lookup_cons, other] at held
      rw [eraseRecord_cons_of_ne erased, List.length_cons, List.length_cons, ih rise held]

/-! ## The fields of a program key (R34) -/

theorem below?_of_eq {n : Nat} {b : Byte} {i : Fin n} (h : b.toNat = i) : below? n b = some i := by
  simp [below?, h]

theorem below?_of_le {n : Nat} {b : Byte} (h : n ≤ b.toNat) : below? n b = none := by
  simp [below?, h]

/-! ## A bank without a record (R36) -/

/-- What PROGRAM_ERASE makes of a bank that holds the key. -/
def Bank.erased (x : Bank) (k : Nat) : Bank := { x with programs := eraseRecord k x.programs }

theorem Bank.record?_erased_self (x : Bank) (k : Nat) : (x.erased k).record? k = none :=
  lookup_eraseRecord_self k x.programs

theorem Bank.record?_erased_of_ne {k k' : Nat} (h : k' ≠ k) (x : Bank) : (x.erased k).record? k' = x.record? k' :=
  lookup_eraseRecord_of_ne h x.programs

theorem Bank.work?_erased (x : Bank) (st : Fin 16) (p : Fin 8) (style : Fin 64) (build : Word) :
    (x.erased (programKey st p style)).work? st p style build = none := by
  rw [Bank.work?, Bank.record?_erased_self, Option.bind_none]

theorem Bank.recordCount_erased {x : Bank} {k : Nat} (rise : keysRise x.programs = true) (held : x.record? k ≠ none) :
    (x.erased k).recordCount + 1 = x.recordCount :=
  length_eraseRecord rise held

/-! ## PROGRAM_ERASE -/

theorem BankId.ne_other (id : BankId) : id ≠ id.other := by
  cases id <;> decide

theorem Tbs.shadow?_of_not_draining {x : Tbs} (h : x.draining = false) : x.shadow? = some x.active.other := by
  simp [Tbs.shadow?, h]

theorem State.programErase_of_range (s : State) {b1 b2 b3 : Byte}
    (h : 16 ≤ b1.toNat ∨ 8 ≤ b2.toNat ∨ 64 ≤ b3.toNat) : s.programErase b1 b2 b3 = (s, .range) := by
  unfold State.programErase
  split
  case h_1 hst hp hsy =>
    rcases h with h | h | h
    · simp [below?_of_le h] at hst
    · simp [below?_of_le h] at hp
    · simp [below?_of_le h] at hsy
  case h_2 => rfl

/-- With each field in range and a SHADOW bank, the record at the key decides. -/
theorem State.programErase_of_shadow {s : State} {b1 b2 b3 : Byte} {id : BankId} {st : Fin 16} {p : Fin 8} {sy : Fin 64}
    (hst : b1.toNat = st) (hp : b2.toNat = p) (hsy : b3.toNat = sy) (shadow : s.tbs.shadow? = some id) :
    s.programErase b1 b2 b3 =
      if (s.bank id).record? (programKey st p sy) = none then (s, .notFound)
      else (s.setBank id ((s.bank id).erased (programKey st p sy)), .ok) := by
  simp only [State.programErase, below?_of_eq hst, below?_of_eq hp, below?_of_eq hsy, shadow, Option.isNone_iff_eq_none,
    Bank.erased]

/-! ## A request handed to a quiet part (R197, R198) -/

theorem State.quiet_iff (s : State) :
    s.quiet = true ↔ (s.lif.inReset = false ∧ s.lif.node?.isSome = true) ∧ s.mge.queue = [] ∧ s.settled = true := by
  simp [State.quiet, State.ready, and_assoc]

theorem State.runPass_of_not_due {s : State} (h : s.passDue = false) : s.runPass = s := by
  simp [State.runPass, h]

theorem State.comparePoint_of_settled {s : State} (h : s.settled = true) : s.comparePoint = s := by
  rw [State.settled, decide_eq_true_eq] at h
  simp [State.comparePoint, h]

theorem State.setRequests_setRequests_of_queue {s : State} {q : List MgmtEntry} (h : s.mge.queue = q) (q' : List MgmtEntry) :
    (s.setRequests q').setRequests q = s := by
  subst h; rfl

theorem State.setBank_setRequests (s : State) (q : List MgmtEntry) (id : BankId) (x : Bank) :
    (s.setRequests q).setBank id x = (s.setBank id x).setRequests q := by
  cases id <;> rfl

theorem State.answered_setRequests (s : State) (q : List MgmtEntry) (f : Sender) (code : Byte) (result : Result)
    (payload : List Byte) :
    (s.setRequests q).answered f code result payload = (s.answered f code result payload).setRequests q := by
  unfold State.answered State.issue
  rw [State.setRequests_lif]
  split <;> rfl

theorem State.answered_leads (s : State) (f : Sender) (code : Byte) (result : Result) (payload : List Byte) :
    s.leads (s.answered f code result payload) [.lif] :=
  s.issue_leads _

@[simp] theorem State.answered_tbs (s : State) (f : Sender) (code : Byte) (result : Result) (payload : List Byte) :
    (s.answered f code result payload).tbs = s.tbs :=
  (s.answered_leads f code result payload).1.2 .tbs (by simp)

@[simp] theorem State.answered_bank (s : State) (f : Sender) (code : Byte) (result : Result) (payload : List Byte)
    (id : BankId) : (s.answered f code result payload).bank id = s.bank id := by
  cases id <;> simp [State.bank]

@[simp] theorem State.answered_mge (s : State) (f : Sender) (code : Byte) (result : Result) (payload : List Byte) :
    (s.answered f code result payload).mge = s.mge :=
  (s.answered_leads f code result payload).1.2 .mge (by simp)

@[simp] theorem State.answered_passDue (s : State) (f : Sender) (code : Byte) (result : Result) (payload : List Byte) :
    (s.answered f code result payload).passDue = s.passDue := by
  unfold State.answered State.issue
  split <;> rfl

@[simp] theorem State.answered_formerNodes (s : State) (f : Sender) (code : Byte) (result : Result)
    (payload : List Byte) : (s.answered f code result payload).formerNodes = s.formerNodes := by
  unfold State.answered State.issue
  split <;> rfl

theorem State.answered_issued {s : State} (node : s.lif.node?.isSome = true) (f : Sender) (code : Byte)
    (result : Result) (payload : List Byte) :
    (s.answered f code result payload).issued = s.issued ++ [.mgmtResponse f.node f.seq code result payload] := by
  obtain ⟨n, hn⟩ := Option.isSome_iff_exists.mp node
  simp [State.answered, State.issue, hn]

/-- Whether the reported image is the effective one is read from the stations, the tracker and PIU alone. -/
theorem State.keeps_settled {s t : State} {l : List Block} (h : s.keeps t l) (stc : .stc ∉ l) (dtr : .dtr ∉ l)
    (piu : .piu ∉ l) : t.settled = s.settled := by
  have piuKept : t.piu = s.piu := h.2 .piu piu
  have image : t.image = s.image := State.image_congr (h.2 .stc stc) (h.2 .dtr dtr) (congrArg Piu.panels piuKept)
  rw [State.settled, State.settled, image, piuKept]

/-- The end of an event that called for no pass, left the image as reported and goes on with the nodes of CONFIG_LINE. -/
theorem State.finish_of_settled {s : State} (pass : s.passDue = false) (settled : s.settled = true)
    (nodes : s.formerNodes = none) : s.finish = s := by
  rw [State.finish, State.runPass_of_not_due pass, State.comparePoint_of_settled settled, ← nodes]

/-- The completion of a request that called for no pass and left the image as reported is its answer. -/
theorem State.complete_of_settled {s : State} {m : MgmtEntry} (queue : s.mge.queue = []) (pass : s.passDue = false)
    (settled : s.settled = true) (result : Result) (payload : List Byte) :
    (s.setRequests [m]).complete m (result, payload) []
      = s.answered m.sender (requestCode m.request) result (if result = .ok then payload else []) := by
  have notDue : (s.setRequests [m]).passDue = false := pass
  have still : (s.setRequests [m]).settled = true := settled
  rw [State.complete, State.runPass_of_not_due notDue, State.comparePoint_of_settled still]
  change ((s.setRequests [m]).answered _ _ _ _).setRequests [] = _
  rw [State.answered_setRequests, State.setRequests_setRequests_of_queue (by rw [State.answered_mge, queue])]

/-- A request that is no copy or clear, handed to a quiet part, is executed at once. Where what it did calls for no pass and
leaves the image as reported and the nodes in use, it is answered and nothing more is done. -/
theorem State.request_of_quiet {s t : State} {f : Sender} {r : Request} {result : Result} {payload : List Byte}
    (quiet : s.quiet = true) (job : (s.begin.setRequests [⟨f, r⟩]).jobOf? r = none)
    (ran : (s.begin.setRequests [⟨f, r⟩]).run r = (t.setRequests [⟨f, r⟩], result, payload))
    (queue : t.mge.queue = []) (pass : t.passDue = false) (settled : t.settled = true) (nodes : t.formerNodes = none) :
    s.request f r = t.answered f (requestCode r) result (if result = .ok then payload else []) := by
  obtain ⟨⟨running, node⟩, empty, _⟩ := s.quiet_iff.mp quiet
  have taken : s.begin.take f r = (s.begin.setRequests [⟨f, r⟩]).drain 1 := by
    simp [State.take, empty, Config.maxRequests]
  have drained : (s.begin.setRequests [⟨f, r⟩]).drain 1
      = t.answered f (requestCode r) result (if result = .ok then payload else []) := by
    simp only [State.drain, State.requests_setRequests, job, ran, ite_self,
      State.complete_of_settled queue pass settled]
  have answeredSettled : (t.answered f (requestCode r) result (if result = .ok then payload else [])).settled = true :=
    (State.keeps_settled (t.answered_leads _ _ _ _).1 (by simp) (by simp) (by simp)).trans settled
  rw [State.request, State.telegram, if_pos node, State.event, if_neg (by simp [running]), taken, drained,
    State.finish_of_settled (by simp [pass]) answeredSettled (by simp [nodes])]

/-- A request whose execution writes no block but the table store, handed to a quiet part. -/
theorem State.request_of_tables_only {s t : State} {f : Sender} {r : Request} {result : Result}
    (quiet : s.quiet = true) (job : (s.begin.setRequests [⟨f, r⟩]).jobOf? r = none)
    (ran : (s.begin.setRequests [⟨f, r⟩]).run r = bare (t.setRequests [⟨f, r⟩], result))
    (kept : s.keeps t [.tbs]) (pass : t.passDue = false) (nodes : t.formerNodes = none) :
    s.request f r = t.answered f (requestCode r) result [] := by
  obtain ⟨_, empty, settled⟩ := s.quiet_iff.mp quiet
  have mge : t.mge = s.mge := kept.2 .mge (by simp)
  have stays : t.settled = true := (State.keeps_settled kept (by simp) (by simp) (by simp)).trans settled
  have answer := State.request_of_quiet quiet job ran (by rw [mge, empty]) pass stays nodes
  rwa [ite_self] at answer

/-! ## PROGRAM_ERASE handed to a quiet part (R36) -/

theorem exec_programErase_of_tables_only {s t : State} {f : Sender} {b1 b2 b3 : Byte} {result : Result}
    (quiet : s.quiet = true)
    (ran : (s.begin.setRequests [⟨f, .programErase b1 b2 b3⟩]).programErase b1 b2 b3
      = (t.setRequests [⟨f, .programErase b1 b2 b3⟩], result))
    (kept : s.keeps t [.tbs]) (pass : t.passDue = false) (nodes : t.formerNodes = none) :
    exec (.programErase f b1 b2 b3) s = .next (t.answered f 8 result []) :=
  congrArg _ (State.request_of_tables_only (r := .programErase b1 b2 b3) quiet rfl (congrArg bare ran) kept pass nodes)

theorem exec_programErase_of_refused {s : State} {f : Sender} {b1 b2 b3 : Byte} {result : Result}
    (quiet : s.quiet = true)
    (ran : (s.begin.setRequests [⟨f, .programErase b1 b2 b3⟩]).programErase b1 b2 b3
      = (s.begin.setRequests [⟨f, .programErase b1 b2 b3⟩], result)) :
    exec (.programErase f b1 b2 b3) s = .next (s.begin.answered f 8 result []) :=
  exec_programErase_of_tables_only quiet ran (State.keeps_mono (s.keeps_refl []) (by simp)) rfl rfl

section
variable {s : State} {f : Sender} {b1 b2 b3 : Byte} {id : BankId} {st : Fin 16} {p : Fin 8} {sy : Fin 64}

theorem exec_programErase_of_absent (quiet : s.quiet = true) (shadow : s.tbs.shadow? = some id)
    (hst : b1.toNat = st) (hp : b2.toNat = p) (hsy : b3.toNat = sy)
    (absent : (s.bank id).record? (programKey st p sy) = none) :
    exec (.programErase f b1 b2 b3) s = .next (s.begin.answered f 8 .notFound []) := by
  refine exec_programErase_of_refused quiet ?_
  rw [State.programErase_of_shadow hst hp hsy (by exact shadow)]
  simp [absent]

theorem exec_programErase_of_held (quiet : s.quiet = true) (shadow : s.tbs.shadow? = some id)
    (hst : b1.toNat = st) (hp : b2.toNat = p) (hsy : b3.toNat = sy)
    (held : (s.bank id).record? (programKey st p sy) ≠ none) :
    exec (.programErase f b1 b2 b3) s
      = .next ((s.begin.setBank id ((s.bank id).erased (programKey st p sy))).answered f 8 .ok []) := by
  refine exec_programErase_of_tables_only quiet ?_ (State.setBank_leads s.begin id _).1 (State.setBank_passDue ..)
    (State.setBank_formerNodes ..)
  rw [State.programErase_of_shadow hst hp hsy (by exact shadow)]
  simp [held, State.setBank_setRequests]

end

/-- Settles O15: each outcome of the request is an equation of the state that it leaves, and the effect is then read from the
laws of the bank without the record. -/
theorem programErased : Obligations.ProgramErased := by
  intro s f b1 b2 b3 quiet
  refine ⟨?_, fun outside => exec_programErase_of_refused quiet (State.programErase_of_range _ outside)⟩
  intro drained id hid st p sy hst hp hsy
  have shadow : s.tbs.shadow? = some id := hid ▸ Tbs.shadow?_of_not_draining drained
  refine ⟨fun held => ⟨_, exec_programErase_of_held quiet shadow hst hp hsy held, ?_⟩,
    exec_programErase_of_absent quiet shadow hst hp hsy⟩
  obtain ⟨⟨_, node⟩, _⟩ := s.quiet_iff.mp quiet
  simp only [State.answered_bank, State.answered_tbs, State.bank_setBank, if_true, if_neg id.ne_other,
    State.active_setBank, State.draining_setBank]
  refine ⟨Bank.record?_erased_self _ _, Bank.work?_erased _ st p sy, fun k other => Bank.record?_erased_of_ne other _,
    rfl, rfl, rfl, rfl, drained, fun wf => Bank.recordCount_erased (State.tablesWf_keysRise wf id) held, ?issued, ?frame⟩
  case issued => rw [State.answered_issued (by simpa using node), State.setBank_issued]; rfl
  case frame => exact (State.leads_seq (s.begin.setBank_leads id _) (State.answered_leads ..) (by simp) (by simp)).1

end Sys2Proof.Machine
end

section
/-! The work of an event taken apart: `WorkKept` lists the single writes that the telegrams, the timers and the allocation pass
are made of, each with what is known where it is made. A condition that each of them keeps is kept by all that work. -/

namespace Sys2Proof.Machine

/-! ## Small laws of the operations -/

/-- The records that the conditions between events speak of: all but the event unit, the process image, the straps and the
model's own fields. -/
def State.records (s : State) : (Port × Port × Mge × Tbs × Arq) × Dtr × Rbc × Spa × Stc :=
  ((s.lif.p1, s.lif.p2, s.mge, s.tbs, s.arq), s.dtr, s.rbc, s.spa, s.stc)

/-- A station that is DISABLED is clear: no slot, no running timer, no body-lost flag (R138, R139). -/
def Station.clear (x : Station) : Prop :=
  x.enabled = true ∨ x.bodyLost = false ∧ x.seatTimer = none ∧ x.cycleTimer = none ∧ x.current = none ∧ x.next = none

/-- The NEXT slot is occupied only while the CURRENT slot is (R140). -/
def Station.inOrder (x : Station) : Prop := x.current = none → x.next = none

/-- A station record that may follow another: it keeps both conditions. -/
structure Station.Follows (x y : Station) : Prop where
  clear : x.clear → y.clear
  inOrder : x.inOrder → y.inOrder

theorem forAll_keep {α : Type} {P : State → Prop} {f : α → State → State} (h : ∀ a s, P s → P (f a s)) :
    ∀ (l : List α) {s : State}, P s → P (forAll l f s)
  | [], _, hs => hs
  | a :: l, _, hs => forAll_keep h l (h a _ hs)

theorem foldl_keep {α : Type} {P : State → Prop} {f : State → α → State} (h : ∀ a s, P s → P (f s a)) :
    ∀ (l : List α) {s : State}, P s → P (l.foldl f s)
  | [], _, hs => hs
  | a :: l, _, hs => foldl_keep h l (h a _ hs)

theorem State.setEntry_self {s : State} {i : Fin 128} {e : Option Entry} (h : s.entry? i = e) : s.setEntry i e = s := by
  subst h
  have same : s.setPlace i (s.place i) = s := by simp [State.setPlace, State.place]
  exact same

theorem State.modEntry_of_some {s : State} {i : Fin 128} {e : Entry} (h : s.entry? i = some e) (f : Entry → Entry) :
    s.modEntry i f = s.setEntry i (some (f e)) := by
  simp [State.modEntry, h]

theorem State.modEntry_of_none {s : State} {i : Fin 128} (h : s.entry? i = none) (f : Entry → Entry) :
    s.modEntry i f = s := by
  simp [State.modEntry, h, State.setEntry_self h]

/-- The robot of the entry at an index. -/
def State.robotOf? (s : State) (i : Fin 128) : Option (Fin 64) := (s.entry? i).map (·.robot)

theorem State.robotOf?_of_some {s : State} {i : Fin 128} {e : Entry} (h : s.entry? i = some e) :
    s.robotOf? i = some e.robot := by
  simp [State.robotOf?, h]

theorem State.robotOf?_setEntry_of_robot {s : State} {i : Fin 128} {e x : Entry} (h : s.entry? i = some e)
    (hx : x.robot = e.robot) (j : Fin 128) : (s.setEntry i (some x)).robotOf? j = s.robotOf? j := by
  unfold State.robotOf?
  rw [State.entry_setEntry]
  split
  · next hij => subst hij; simp [h, hx]
  · rfl

theorem State.entry?_congr {s t : State} (h : t.dtr = s.dtr) (i : Fin 128) : t.entry? i = s.entry? i := by
  simp [State.entry?, State.place, h]

theorem State.place_congr {s t : State} (h : t.dtr = s.dtr) (i : Fin 128) : t.place i = s.place i := by
  simp [State.place, h]

theorem State.list_congr {s t : State} (h : t.dtr = s.dtr) (r : Fin 64) : t.list r = s.list r := by
  simp [State.list, h]

theorem State.robot_congr {s t : State} (h : t.rbc = s.rbc) (r : Fin 64) : t.robot r = s.robot r := by
  simp [State.robot, h]

theorem State.station_congr {s t : State} (h : t.stc = s.stc) (st : Fin 16) : t.station st = s.station st := by
  simp [State.station, h]

theorem State.group_congr {s t : State} (h : t.spa = s.spa) (g : Fin 8) : t.group g = s.group g := by
  simp [State.group, h]

theorem State.robotOf?_congr {s t : State} (h : t.dtr = s.dtr) (i : Fin 128) : t.robotOf? i = s.robotOf? i := by
  simp [State.robotOf?, State.entry?_congr h]

theorem State.issue_dtr (s : State) (x : Telegram) : (s.issue x).dtr = s.dtr := (s.issue_leads x).1.2 .dtr (by simp)

theorem State.grant_robotOf? (s : State) (g : Fin 8) (i j : Fin 128) : (s.grant g i).robotOf? j = s.robotOf? j := by
  unfold State.grant
  split
  · rfl
  · next e he => exact (State.robotOf?_congr (State.issue_dtr _ _) j).trans (State.robotOf?_setEntry_of_robot he (by rfl) j)

theorem State.handOn_robotOf? (s : State) (g : Fin 8) (ban : List (Fin 128)) (j : Fin 128) :
    (s.handOn g ban).robotOf? j = s.robotOf? j := by
  unfold State.handOn
  split
  · rfl
  · exact s.grant_robotOf? _ _ _

theorem State.releaseSupply_robotOf? (s : State) (i : Fin 128) (ban : List (Fin 128)) (j : Fin 128) :
    (s.releaseSupply i ban).robotOf? j = s.robotOf? j := by
  unfold State.releaseSupply
  split
  · rfl
  · next e he =>
    dsimp only
    split
    · exact (State.handOn_robotOf? _ _ _ _).trans (State.robotOf?_setEntry_of_robot he (by rfl) j)
    · exact State.robotOf?_setEntry_of_robot he (by rfl) j

theorem State.modEntry_robotOf? (s : State) (i : Fin 128) {f : Entry → Entry} (hf : ∀ e, (f e).robot = e.robot)
    (j : Fin 128) : (s.modEntry i f).robotOf? j = s.robotOf? j := by
  cases h : s.entry? i with
  | none => rw [State.modEntry_of_none h]
  | some e => rw [State.modEntry_of_some h]; exact State.robotOf?_setEntry_of_robot h (hf e) j

theorem State.grant_list (s : State) (g : Fin 8) (i : Fin 128) (r : Fin 64) : (s.grant g i).list r = s.list r := by
  unfold State.grant
  split
  · rfl
  · exact State.list_congr (State.issue_dtr _ _) r

theorem State.releaseSupply_list (s : State) (i : Fin 128) (ban : List (Fin 128)) (r : Fin 64) :
    (s.releaseSupply i ban).list r = s.list r := by
  unfold State.releaseSupply State.handOn
  split
  · rfl
  · dsimp only
    split
    · split
      · rfl
      · exact (State.grant_list _ _ _ _).trans rfl
    · rfl

theorem robotAfter_eq_disabled (e : Entry) (o : EntryOutcome) (now : RobotState) :
    robotAfter e o now = .disabled ↔ now = .disabled := by
  unfold robotAfter
  split
  · next h => simp [h]
  · next h => cases o <;> simp only [] <;> (try split) <;> simp_all

theorem State.servingRobot?_spec {s : State} {st : Fin 16} {p : Fin 8} {r : Fin 64} (h : s.servingRobot? st p = some r) :
    (s.robot r).enabled = true ∧ (s.robot r).station = st ∧ (s.robot r).position = p := by
  have found := List.find?_some h
  simpa [and_assoc] using found

/-- What a plan says of its robot: it is enabled and serves the plan's position. -/
def State.planned (s : State) (x : Plan) : Prop :=
  ∀ r, x.robot = some r → (s.robot r).enabled = true ∧ (s.robot r).position = x.position

/-- Plans of distinct positions name distinct robots. -/
theorem State.servingRobots_nodup {s : State} {plans : List Plan} (served : ∀ x ∈ plans, s.planned x)
    (distinct : plans.Pairwise (fun x y => x.position ≠ y.position)) : (servingRobots plans).Nodup := by
  induction plans with
  | nil => exact List.nodup_nil
  | cons x plans ih =>
    obtain ⟨first, rest⟩ := List.pairwise_cons.mp distinct
    have tail := ih (fun y hy => served y (List.mem_cons_of_mem _ hy)) rest
    unfold servingRobots at tail ⊢
    cases hx : x.robot with
    | none => simpa [hx] using tail
    | some r =>
      rw [List.filterMap_cons_some hx]
      refine List.nodup_cons.mpr ⟨fun hr => ?_, tail⟩
      obtain ⟨y, hy, hyr⟩ := List.mem_filterMap.mp hr
      refine first y hy ?_
      rw [← (served x List.mem_cons_self r hx).2, ← (served y (List.mem_cons_of_mem _ hy) r hyr).2]

theorem State.plans_planned (s : State) (st : Fin 16) (works : Vector (Option Work) 8) :
    ∀ x ∈ s.plans st works, s.planned x := by
  intro x hx r hr
  obtain ⟨p, _, hp⟩ := List.mem_filterMap.mp hx
  obtain ⟨w, _, rfl⟩ := Option.map_eq_some_iff.mp hp
  obtain ⟨enabled, _, position⟩ := State.servingRobot?_spec hr
  exact ⟨enabled, position⟩

/-- Plans made position by position name distinct positions. -/
theorem pairwise_position_filterMap {f : Fin 8 → Option Plan} (hf : ∀ p x, f p = some x → x.position = p)
    {l : List (Fin 8)} (nodup : l.Nodup) : (l.filterMap f).Pairwise (fun x y => x.position ≠ y.position) := by
  refine List.Pairwise.filterMap f (R := (· ≠ ·)) (fun p q hne x hx y hy => ?_) nodup
  rwa [hf p x hx, hf q y hy]

theorem State.plans_pairwise (s : State) (st : Fin 16) (works : Vector (Option Work) 8) :
    (s.plans st works).Pairwise (fun x y => x.position ≠ y.position) := by
  refine pairwise_position_filterMap (fun p x h => ?_) (List.nodup_finRange 8)
  obtain ⟨w, _, rfl⟩ := Option.map_eq_some_iff.mp h
  rfl

end Sys2Proof.Machine
end

section
/-! A condition kept by every single write is kept by all the work of telegrams, timers and passes. -/

namespace Sys2Proof.Machine

/-- Offers and allocation passes keep a condition: each single write that they are made of does, under what is known where
the write is made. A station of `loose` may be written in any way; any other only as `Station.Follows` says. -/
structure PassKept (loose : Fin 16 → Prop) (P : State → Prop) : Prop where
  aside : ∀ {s t : State}, P s → t.records = s.records → P t
  issue : ∀ (s : State) (x : Telegram), P s → P (s.issue x)
  update : ∀ (s : State) (i : Fin 128) (e x : Entry), s.entry? i = some e → x.robot = e.robot →
    (x.supply = .holding → e.supply = .holding ∨ s.groupOf? e = none) → P s → P (s.setEntry i (some x))
  renew : ∀ (s : State) (i : Fin 128) (n : Byte), P s → P (s.setPlace i { s.place i with issue := n })
  grant : ∀ (s : State) (g : Fin 8) (i : Fin 128), 0 < s.freeCredits g →
    (∀ e, s.entry? i = some e → s.groupOf? e = some g) → P s → P (s.grant g i)
  release : ∀ (s : State) (i : Fin 128) (ban : List (Fin 128)), P s → P (s.releaseSupply i ban)
  free : ∀ (s : State) (i : Fin 128) (r : Fin 64), s.robotOf? i = some r → P s → P (s.free i r)
  fill : ∀ (s : State) (st : Fin 16) (body : Word) (plans : List Plan), (servingRobots plans).Nodup →
    (∀ r ∈ servingRobots plans,
      (s.robot r).enabled = true ∧ (s.list r).length + s.additions r ≤ Config.maxList) →
    P s → P (forAll plans (State.createFor st body) s)
  robotState : ∀ (s : State) (r : Fin 64) (x : RobotState), (x = .disabled ↔ (s.robot r).state = .disabled) →
    P s → P (s.setRobotState r x)
  station : ∀ (s : State) (st : Fin 16) (x : Station), (loose st ∨ (s.station st).Follows x) → P s →
    P (s.setStation st x)
  skip : ∀ (s : State) (l m : List Arrival) (a : Arrival), s.arq.queue = l ++ a :: m → P s →
    P (s.setQueue (l ++ a.skipped :: m))
  leave : ∀ (s : State) (l m : List Arrival) (a : Arrival), s.arq.queue = l ++ a :: m → P s →
    P ((s.setQueue (l ++ m)).dropStamp a.stamp)

/-- The work of telegrams, timers and passes keeps a condition: the writes of the passes do, and besides them those of a
robot's gun wear and maintenance outcome and of an arrival that is accepted. -/
structure WorkKept (loose : Fin 16 → Prop) (P : State → Prop) : Prop extends PassKept loose P where
  gun : ∀ (s : State) (r : Fin 64) (x : Robot), x.state = (s.robot r).state → x.group = (s.robot r).group →
    (x.wear = (s.robot r).wear ∨ x.wear ≤ Config.maxWear) → P s → P (s.setRobot r x)
  accept : ∀ (s : State) (a : Arrival), s.arq.queue.length < Config.maxArrivals → a.stamp = s.tbs.active → P s →
    P ((s.setQueue (s.arq.queue ++ [a])).addStamp a.stamp)

namespace PassKept

variable {loose : Fin 16 → Prop} {P : State → Prop} (k : PassKept loose P)

include k

/-! ## Events, counters and the image -/

theorem callPass {s : State} (h : P s) : P s.callPass := k.aside h rfl

theorem issueToLine (s : State) (x : Byte → Telegram) (h : P s) : P (s.issueToLine x) := by
  unfold State.issueToLine
  split
  · exact h
  · exact k.issue _ _ h

theorem issueToRobot (s : State) (r : Fin 64) (x : Byte → Telegram) (h : P s) : P (s.issueToRobot r x) := k.issue _ _ h

theorem report (s : State) (d : Bool) (n : Fin 8) (c : Capture) (h : P s) : P (s.report d n c) := by
  unfold State.report
  split
  · exact h
  · exact k.issue _ _ h

theorem stationEvent (s : State) (st : Fin 16) (e : StationEvent) (r : Option (Fin 64)) (b : Option Word) (h : P s) :
    P (s.stationEvent st e r b) := by
  have set (x : Status) : P (s.setStationStatus st (stationEventNumber e) x) :=
    k.aside h rfl
  unfold State.stationEvent
  dsimp only
  split
  · exact k.report _ _ _ _ (set _)
  · exact set _

theorem deviceEvent (s : State) (e : DeviceEvent) (c : Capture) (h : P s) : P (s.deviceEvent e c) := by
  have set (x : Status) : P (s.setDeviceStatus (deviceEventNumber e) x) :=
    k.aside h rfl
  unfold State.deviceEvent
  dsimp only
  split
  · exact k.report _ _ _ _ (set _)
  · exact set _

theorem increase (s : State) (c : Fin 8) (n : Nat) (h : P s) : P (s.increase c n) := by
  unfold State.increase
  dsimp only
  split
  · exact k.deviceEvent _ _ _ (k.aside h rfl)
  · exact k.aside h rfl

theorem count (s : State) (e : CounterEvent) (n : Nat) (a : Attributes) (h : P s) : P (s.count e n a) := by
  refine foldl_keep (fun c s h => ?_) _ h
  unfold State.offerCounter
  dsimp only
  split
  · exact k.increase _ _ _ h
  · exact h

theorem sample (s : State) (h : P s) : P s.sample := by
  refine foldl_keep (fun c s h => ?_) _ h
  have inc : P (if s.counterHeld c then s else s.increase c ((s.counter c).sampled (s.level (s.counter c).config))) := by
    split
    · exact h
    · exact k.increase _ _ _ h
  unfold State.sampleCounter
  dsimp only
  split
  · split
    · exact k.aside inc rfl
    · exact inc
  · exact h

theorem comparePoint (s : State) (h : P s) : P s.comparePoint := by
  unfold State.comparePoint
  split
  · exact h
  · exact k.aside (k.issueToLine _ _ h) rfl

/-! ## Stations -/

theorem updateStation (s : State) (st : Fin 16) (x : Station) (hx : loose st ∨ (s.station st).Follows x) (h : P s) :
    P (s.updateStation st x) := by
  unfold State.updateStation
  dsimp only
  split
  · exact k.stationEvent _ _ _ _ _ (k.station _ _ _ hx h)
  · exact k.station _ _ _ hx h

theorem checkCompletion (s : State) (st : Fin 16) (h : P s) : P (s.checkCompletion st) := by
  unfold State.checkCompletion
  dsimp only
  split
  · exact h
  · next c hc =>
    split
    · next done =>
      have enabled : (s.station st).enabled = true := by
        cases he : (s.station st).enabled with
        | true => rfl
        | false => simp [Station.completes, Station.state, he] at done
      have station : ((s.setStation st { s.station st with current := some { c with state := .complete } }).issueToLine
          (.stationRelease · st c.body c.overall c.shortfalls)).station st
          = { s.station st with current := some { c with state := .complete } } := by
        rw [State.station_congr ((State.issueToLine_leads _ _).1.2 .stc (by simp))]
        simp
      refine k.station _ _ _ (.inr ?_) (k.issueToLine _ _ (k.station _ _ _ (.inr ?_) h))
      · rw [station]
        exact ⟨fun _ => .inl enabled, fun _ hn => by simp at hn⟩
      · exact ⟨fun _ => .inl enabled, fun _ hn => by simp at hn⟩
    · exact h

theorem writeOutcome (s : State) (e : Entry) (o : EntryOutcome) (d : Option Nat) (h : P s) : P (s.writeOutcome e o d) := by
  unfold State.writeOutcome
  dsimp only
  split
  · refine k.checkCompletion _ _ (k.updateStation _ _ _ (.inr ⟨fun hc => ?_, fun ho hn => ?_⟩) h)
    · rcases hc with hc | ⟨h1, h2, h3, h4, h5⟩
      · exact .inl hc
      · exact .inr ⟨h1, h2, h3, by simp [h4], h5⟩
    · exact ho (by simpa using hn)
  · split
    · refine k.updateStation _ _ _ (.inr ⟨fun hc => ?_, fun ho hn => ?_⟩) h
      · rcases hc with hc | ⟨h1, h2, h3, h4, h5⟩
        · exact .inl hc
        · exact .inr ⟨h1, h2, h3, h4, by simp [h5]⟩
      · simp [ho hn]
    · exact h

theorem promote (s : State) (st : Fin 16) (h : P s) : P (s.promote st) := by
  refine k.callPass (k.updateStation _ _ _ (.inr ⟨fun hc => ?_, fun _ _ => rfl⟩) h)
  rcases hc with hc | ⟨h1, h2, h3, _, h5⟩
  · exact .inl hc
  · exact .inr ⟨h1, h2, h3, by simp [h5], rfl⟩

/-! ## The end of an entry -/

theorem handWeld (s : State) (e : Entry) (o : EntryOutcome) (d : Option Nat) (h : P s) : P (s.handWeld e o d) := by
  unfold State.handWeld
  dsimp only
  split
  · exact k.writeOutcome _ _ _ _ (k.count _ _ _ _ h)
  · exact k.writeOutcome _ _ _ _ (k.count _ _ _ _ (k.stationEvent _ _ _ _ _ h))
  · exact k.writeOutcome _ _ _ _ (k.count _ _ _ _ h)
  · exact k.writeOutcome _ _ _ _ h

theorem modEntry (s : State) (i : Fin 128) {f : Entry → Entry} (robot : ∀ e, (f e).robot = e.robot)
    (supply : ∀ e, (f e).supply = .holding → e.supply = .holding) (h : P s) : P (s.modEntry i f) := by
  cases he : s.entry? i with
  | none => rwa [State.modEntry_of_none he]
  | some e =>
    rw [State.modEntry_of_some he]
    exact k.update _ _ _ _ he (robot e) (fun hs => .inl (supply e hs)) h

/-- The end of an entry, where the handing-on of its outcome keeps the condition. -/
theorem endCore_of_hand (s : State) (i : Fin 128) (o : EntryOutcome) (d : Option Nat) (ban : List (Fin 128))
    (hand : ∀ e u, s.entry? i = some e → P u → P (u.handOutcome e o d)) (h : P s) : P (s.endCore i o d ban) := by
  unfold State.endCore
  split
  · exact h
  · next e he =>
    dsimp only
    refine k.robotState _ _ _ (robotAfter_eq_disabled _ _ _) (k.free _ _ _ ?_ (hand _ _ he
      (k.modEntry _ _ (fun _ => rfl) (fun _ => id) (k.release _ _ _ h))))
    rw [State.robotOf?_congr ((State.handOutcome_leads _ _ _ _).1.2 .dtr (by simp)),
      State.modEntry_robotOf? _ _ (by exact fun _ => rfl), State.releaseSupply_robotOf?]
    exact State.robotOf?_of_some he

theorem endCore_of_weld (s : State) (i : Fin 128) (o : EntryOutcome) (d : Option Nat) (ban : List (Fin 128)) {e : Entry}
    (he : s.entry? i = some e) (weld : e.kind = .weld) (h : P s) : P (s.endCore i o d ban) := by
  refine k.endCore_of_hand s i o d ban (fun x u hx hu => ?_) h
  rw [he] at hx
  cases hx
  rw [State.handOutcome, weld]
  exact k.handWeld u e o d hu

/-! ## Offers -/

theorem sendSelect (s : State) (i : Fin 128) (h : P s) : P (s.sendSelect i) := by
  unfold State.sendSelect
  split
  · exact h
  · dsimp only
    exact k.count _ _ _ _ (k.modEntry _ _ (fun _ => rfl) (fun _ => id)
      (k.issueToRobot _ _ _ (k.comparePoint _ (k.renew _ _ _ h))))

theorem attemptOffer (s : State) (r : Fin 64) (h : P s) : P (s.attemptOffer r) := by
  unfold State.attemptOffer
  split
  · exact h
  · split
    · exact h
    · next i _ e he =>
      split
      · next offered =>
        split
        · next worn => exact k.endCore_of_weld _ _ _ _ _ he worn.1 h
        · have idle : (s.robot r).state = .idle := by
            simp only [State.offerable, Bool.and_eq_true, beq_iff_eq] at offered
            exact offered.1.1.2
          refine k.sendSelect _ _ (k.robotState _ _ _ ?_ (k.modEntry _ _ (fun _ => rfl) (fun _ => id) h))
          simp [idle]
      · exact h

theorem attemptOffers (s : State) (rs : List (Fin 64)) (h : P s) : P (s.attemptOffers rs) :=
  foldl_keep (fun r s h => k.attemptOffer s r h) rs h

theorem returnFaulted (s : State) (st : Fin 16) (h : P s) : P (s.returnFaulted st) := by
  refine forAll_keep (fun r s h => ?_) _ h
  split
  · next faulted => exact k.robotState _ _ _ (by simp [faulted]) h
  · exact h

/-! ## The arrival queue -/

theorem writeSlot (s : State) (st : Fin 16) (x : Slot) (enabled : (s.station st).enabled = true) (h : P s) :
    P (s.writeSlot st x) := by
  unfold State.writeSlot
  dsimp only
  split
  · exact k.updateStation _ _ _ (.inr ⟨fun _ => .inl enabled, fun _ hn => by simp at hn⟩) h
  · next occupied =>
    exact k.updateStation _ _ _ (.inr ⟨fun _ => .inl enabled, fun _ hn => by simp at hn; simp [hn] at occupied⟩) h

theorem passWalk : ∀ (l ahead : List Arrival) (s : State), s.arq.queue = ahead ++ l → P s → P (passWalk ahead l s)
  | [], _, _, _, h => h
  | a :: rest, ahead, s, queue, h => by
    unfold Sys2Proof.Machine.passWalk
    split
    · next eligible =>
      dsimp only
      split
      · next allocatable =>
        have enabled : (s.station a.station).enabled = true := by
          cases he : (s.station a.station).enabled with
          | true => rfl
          | false => simp [State.eligible, Station.state, he] at eligible
        have leads := s.writeSlot_leads a.station
          (newSlot (s.station a.station).config.short a (s.resolveArrival a).style
            (s.plans a.station (s.resolveArrival a).works))
        have dtr := leads.1.2 .dtr (by simp)
        have rbc := leads.1.2 .rbc (by simp)
        have arq := leads.1.2 .arq (by simp)
        have filled := forAll_leads (fun x s => State.createFor_leads a.station a.body x s)
          (s.plans a.station (s.resolveArrival a).works)
          (s.writeSlot a.station (newSlot (s.station a.station).config.short a (s.resolveArrival a).style
            (s.plans a.station (s.resolveArrival a).works)))
        have arq' : _ = s.arq := (filled.1.2 .arq (by simp)).trans arq
        have added (r : Fin 64) : (s.writeSlot a.station (newSlot (s.station a.station).config.short a
            (s.resolveArrival a).style (s.plans a.station (s.resolveArrival a).works))).additions r = s.additions r := by
          simp only [State.additions, State.dressDue, State.projection, State.dressListed, State.robot_congr rbc,
            State.list_congr dtr, State.entry?_congr dtr]
          rfl
        refine passWalk rest ahead _ ?_ ?_
        · unfold State.allocate
          dsimp only
          rw [(State.attemptOffers_leads _ _).1.2 .arq (by simp), (State.dropStamp_leads _ _).1.2 .arq (by simp),
            State.queue_setQueue]
        · unfold State.allocate
          dsimp only
          refine k.attemptOffers _ _ (k.leave _ ahead rest a (by rw [arq', queue]) (k.fill _ _ _ _ ?_ ?_ ?_))
          · exact State.servingRobots_nodup (s.plans_planned _ _) (s.plans_pairwise _ _)
          · intro r hr
            obtain ⟨x, hx, hxr⟩ := List.mem_filterMap.mp hr
            simp only [State.allocatable, State.hasRoom, Bool.and_eq_true, List.all_eq_true, decide_eq_true_eq]
              at allocatable
            rw [State.robot_congr rbc, State.list_congr dtr, added]
            exact ⟨(s.plans_planned _ _ x hx r hxr).1, allocatable.1.2 r hr⟩
          · exact k.writeSlot _ _ _ enabled h
      · refine passWalk rest _ _ ?_ ?_
        · rw [(State.skipEvents_leads _ _ _).1.2 .arq (by simp), State.queue_setQueue, List.append_assoc]; rfl
        · have skipped := k.skip s ahead rest a queue h
          unfold State.skipEvents
          dsimp only
          split
          · exact k.count _ _ _ _ (k.deviceEvent _ _ _ skipped)
          · exact k.count _ _ _ _ skipped
    · exact passWalk rest _ s (by rw [queue, List.append_assoc]; rfl) h

theorem runPass (s : State) (h : P s) : P s.runPass := by
  unfold State.runPass
  split
  · exact k.aside (k.passWalk _ [] s rfl h) rfl
  · exact h

/-! ## Events -/

theorem begin (s : State) (h : P s) : P s.begin := k.aside h rfl

theorem finish (s : State) (h : P s) : P s.finish :=
  k.aside (k.comparePoint _ (k.runPass _ h)) rfl

theorem event (s : State) {work : State → State} (hw : ∀ t, P t → P (work t)) (h : P s) : P (s.event work) := by
  unfold State.event
  split
  · exact h
  · exact k.finish _ (hw _ (k.begin _ h))

theorem telegram (s : State) {work : State → State} (hw : ∀ t, P t → P (work t)) (h : P s) : P (s.telegram work) := by
  unfold State.telegram
  split
  · exact k.event _ hw h
  · exact h

end PassKept

namespace WorkKept

variable {loose : Fin 16 → Prop} {P : State → Prop} (k : WorkKept loose P)

include k

/-! ## The end of an entry -/

theorem handDress (s : State) (e : Entry) (o : EntryOutcome) (h : P s) : P (s.handDress e o) := by
  have failed := k.stationEvent s e.station .dressFailed (some e.robot) (some e.body) h
  unfold State.handDress
  dsimp only
  split
  · exact k.count _ _ _ _ (k.gun _ _ _ rfl rfl (.inr (Nat.zero_le _)) h)
  · exact k.count _ _ _ _ failed
  · exact k.count _ _ _ _ failed
  · exact failed
  · exact failed
  · exact h

theorem handMaint (s : State) (e : Entry) (o : EntryOutcome) (d : Option Nat) (h : P s) : P (s.handMaint e o d) := by
  have noted : P (s.setRobot e.robot { s.robot e.robot with maint := some ⟨o, e.program, d⟩ }) :=
    k.gun _ _ _ rfl rfl (.inl rfl) h
  unfold State.handMaint
  dsimp only
  split
  · exact k.count _ _ _ _ noted
  · exact k.count _ _ _ _ noted
  · exact noted

theorem handOutcome (s : State) (e : Entry) (o : EntryOutcome) (d : Option Nat) (h : P s) : P (s.handOutcome e o d) := by
  unfold State.handOutcome
  split
  · exact k.handWeld _ _ _ _ h
  · exact k.handDress _ _ _ h
  · exact k.handMaint _ _ _ _ h

theorem endCore (s : State) (i : Fin 128) (o : EntryOutcome) (d : Option Nat) (ban : List (Fin 128)) (h : P s) :
    P (s.endCore i o d ban) :=
  k.endCore_of_hand s i o d ban (fun e u _ hu => k.handOutcome u e o d hu) h

theorem endEntry (s : State) (i : Fin 128) (o : EntryOutcome) (d : Option Nat) (h : P s) : P (s.endEntry i o d) := by
  unfold State.endEntry
  split
  · exact h
  · exact k.attemptOffer _ _ (k.endCore _ _ _ _ _ h)

theorem failOffer (s : State) (i : Fin 128) (e : Entry) (o : EntryOutcome) (h : P s) : P (s.failOffer i e o) := by
  unfold State.failOffer
  split
  · exact k.endEntry _ _ _ _ h
  · exact k.sendSelect _ _ (k.modEntry _ _ (fun _ => rfl) (fun _ => id) h)

theorem endSet (s : State) (set : List (Fin 128)) (h : P s) : P (s.endSet set) := by
  refine foldl_keep (fun i s h => ?_) set h
  unfold State.abortEntry
  split
  · exact h
  · dsimp only
    split
    · exact k.endCore _ _ _ _ _ (k.issueToRobot _ _ _ h)
    · exact k.endCore _ _ _ _ _ h

theorem abortSet (s : State) (set : List (Fin 128)) (h : P s) : P (s.abortSet set) :=
  k.attemptOffers _ _ (k.endSet _ _ h)

/-! ## The arrival queue -/

theorem refuseArrival (s : State) (seq : Half) (st : Option (Fin 16)) (body : Word) (r : AckReason) (h : P s) :
    P (s.refuseArrival seq st body r) :=
  k.count _ _ _ _ (k.deviceEvent _ _ _ (k.issueToLine _ _ h))

theorem bodyArrive (s : State) (f : Sender) (st : Byte) (body build : Word) (h : P s) :
    P (s.bodyArrive f st body build) := by
  have refused (st : Option (Fin 16)) (r : AckReason) : P (s.refuseArrival f.seq st body r) :=
    k.refuseArrival _ _ _ _ _ h
  unfold State.bodyArrive
  split
  · exact k.deviceEvent _ _ _ h
  · split
    · exact refused _ _
    · split
      · exact refused _ _
      · split
        · exact refused _ _
        · split
          · exact refused _ _
          · split
            · exact refused _ _
            · next room =>
              unfold State.acceptArrival
              dsimp only
              exact k.callPass (k.count _ _ _ _ (k.issueToLine _ _
                (k.accept s _ (Nat.lt_of_not_le room) rfl h)))

/-! ## Departures, seat edges and the station timers -/

theorem loseBody (s : State) (st : Fin 16) (c : Slot) (enabled : (s.station st).enabled = true) (h : P s) :
    P (s.loseBody st c) := by
  unfold State.loseBody
  dsimp only
  refine k.promote _ _ (k.abortSet _ _ (k.updateStation _ _ _ (.inr ⟨fun _ => .inl ?_, id⟩)
    (k.stationEvent _ _ _ _ _ h)))
  rw [State.station_congr ((s.stationEvent_leads _ _ _ _).1.2 .stc (by simp))]
  exact enabled

omit k in
theorem enabled_of_not_disabled {x : Station} (h : x.state ≠ .disabled) : x.enabled = true := by
  cases he : x.enabled with
  | true => rfl
  | false => simp [Station.state, he] at h

theorem departure (s : State) (st : Fin 16) (h : P s) : P (s.departure st) := by
  unfold State.departure
  split
  · exact h
  · next on =>
    split
    · exact h
    · split
      · exact k.promote _ _ h
      · exact k.loseBody _ _ _ (enabled_of_not_disabled on) h

theorem seatEdge (s : State) (st : Fin 16) (h : P s) : P (s.seatEdge st) := by
  unfold State.seatEdge
  dsimp only
  split
  · exact h
  · next on =>
    split
    · exact k.stationEvent _ _ _ _ _ h
    · split
      · exact k.station _ _ _ (.inr ⟨fun _ => .inl (enabled_of_not_disabled (x := s.station st) on), fun _ hn => by simp at hn⟩) h
      · exact h

theorem stationInput (st : Fin 16) (b : Byte) (s : State) (h : P s) : P (State.stationInput st b s) := by
  unfold State.stationInput
  dsimp only
  have panel := k.aside (t := s.setPanel st { s.panel st with
    present := b.getLsbD 0, clamped := b.getLsbD 1, manual := b.getLsbD 2 }) h rfl
  have offers {c : Bool} {t : State} {rs : List (Fin 64)} (ht : P t) : P (if c then t.attemptOffers rs else t) := by
    split
    · exact k.attemptOffers _ _ ht
    · exact ht
  have away {c : Bool} {t : State} (ht : P t) : P (if c then t.departure st else t) := by
    split
    · exact k.departure _ _ ht
    · exact ht
  split
  · exact k.seatEdge _ _ (away (offers panel))
  · exact away (offers panel)

theorem stationInputs (s : State) (node : Byte) (v : Vector Byte 16) (h : P s) : P (s.stationInputs node v) := by
  unfold State.stationInputs
  split
  · exact k.deviceEvent _ _ _ h
  · exact forAll_keep (fun st s h => k.stationInput st v[st] s h) _ h

theorem seatExpiry (s : State) (st : Fin 16) (h : P s) : P (s.seatExpiry st) := by
  unfold State.seatExpiry
  dsimp only
  split
  · next due =>
    refine k.checkCompletion _ _ (k.station _ _ _ (.inr ⟨fun hc => ?_, fun ho hn => ho (by simpa using hn)⟩) h)
    rcases hc with hc | ⟨_, h2, _⟩
    · exact .inl hc
    · simp [due] at h2
  · exact h

theorem cycleExpiry (s : State) (st : Fin 16) (h : P s) : P (s.cycleExpiry st) := by
  unfold State.cycleExpiry
  dsimp only
  split
  · refine k.stationEvent _ _ _ _ _ (k.station _ _ _ (.inr ⟨fun hc => ?_, id⟩) h)
    rcases hc with hc | ⟨h1, h2, _, h4⟩
    · exact .inl hc
    · exact .inr ⟨h1, h2, rfl, h4⟩
  · exact h

/-! ## The robots' telegrams and the timers of entries -/

theorem dropStale (s : State) (node : Byte) (tag : Tag) (h : P s) : P (s.dropStale node tag) :=
  k.count _ _ _ _ (k.deviceEvent _ _ _ h)

omit k in
theorem named?_entry {s : State} {node : Byte} {tag : Tag} {fits : EntryState → Bool} {i : Fin 128} {e : Entry}
    (h : s.named? node tag fits = some (i, e)) : s.entry? i = some e := by
  unfold State.named? at h
  split at h
  · cases h
  · split at h
    · cases h
    · next he =>
      split at h
      · cases h; exact he
      · cases h

theorem selEcho (s : State) (node : Byte) (tag : Tag) (p v : Byte) (h : P s) : P (s.selEcho node tag p v) := by
  unfold State.selEcho
  split
  · exact k.dropStale _ _ _ h
  · next named =>
    split
    · exact k.update _ _ _ _ (named?_entry named) (by rfl) (fun hs => .inl hs) h
    · exact k.failOffer _ _ _ _ h

theorem cycleStart (s : State) (node : Byte) (tag : Tag) (h : P s) : P (s.cycleStart node tag) := by
  unfold State.cycleStart
  split
  · exact k.dropStale _ _ _ h
  · next named =>
    split
    · exact k.update _ _ _ _ (named?_entry named) (by rfl) (fun hs => .inl hs) h
    · exact k.stationEvent _ _ _ _ _ (k.issueToRobot _ _ _ h)

theorem weldReq (s : State) (node : Byte) (tag : Tag) (h : P s) : P (s.weldReq node tag) := by
  unfold State.weldReq
  split
  · exact k.dropStale _ _ _ h
  · next named =>
    split
    · exact k.dropStale _ _ _ h
    · split
      · next outside =>
        exact k.issueToRobot _ _ _ (k.update _ _ _ _ (named?_entry named) (by rfl) (fun _ => .inr outside) h)
      · next g hg =>
        split
        · next credit =>
          refine k.grant _ _ _ credit.1 (fun e he => ?_) h
          rw [named?_entry named] at he
          cases he
          exact hg
        · exact k.update _ _ _ _ (named?_entry named) (by rfl) (fun hs => by cases hs) h

theorem weldFree (s : State) (node : Byte) (tag : Tag) (h : P s) : P (s.weldFree node tag) := by
  unfold State.weldFree
  split
  · exact k.dropStale _ _ _ h
  · split
    · exact k.dropStale _ _ _ h
    · exact k.release _ _ _ h

theorem weldDone (s : State) (node : Byte) (tag : Tag) (c : Half) (x : Byte) (h : P s) : P (s.weldDone node tag c x) := by
  unfold State.weldDone
  split
  · exact k.dropStale _ _ _ h
  · dsimp only
    refine k.endEntry _ _ _ _ (k.count _ _ _ _ (k.gun _ _ _ rfl rfl (.inr (Nat.min_le_right _ _))
      (k.release _ _ _ ?_)))
    split
    · exact k.count _ _ _ _ h
    · exact h

theorem selectExpiry (s : State) (i : Fin 128) (h : P s) : P (s.selectExpiry i) := by
  unfold State.selectExpiry
  split
  · exact h
  · split
    · exact k.failOffer _ _ _ _ (k.count _ _ _ _ h)
    · exact h

theorem holdExpiry (s : State) (i : Fin 128) (h : P s) : P (s.holdExpiry i) := by
  unfold State.holdExpiry
  split
  · exact h
  · split
    · dsimp only
      exact k.endEntry _ _ _ _ (k.deviceEvent _ _ _ (k.release _ _ _ (k.issueToRobot _ _ _ h)))
    · exact h

end WorkKept

end Sys2Proof.Machine
end

section
/-! A condition kept by every single write of the requests and of the link besides is kept by every step. -/

namespace Sys2Proof.Machine

/-! ## What the requests leave -/

/-- A program table whose keys rise and that holds at most 1024 records (R33). -/
def Bank.Wf (x : Bank) : Prop := keysRise x.programs = true ∧ x.recordCount ≤ Config.maxRecords

/-- The DISPATCH_CANCEL of one entry at a DEVICE_RESET (R201). -/
def State.cancelEntry (i : Fin 128) (s : State) : State :=
  match s.entry? i with
  | none => s
  | some e => if e.beyondQueued then s.issueToRobot e.robot (.dispatchCancel · (s.tag i)) else s

/-- A tracker with every index free and every list empty; the issue numbers are kept (R92). -/
def Dtr.freed (d : Dtr) : Dtr :=
  { tracker := mapAll (fun p => { p with entry := none }) d.tracker, lists := Vector.replicate 64 [] }

/-- A state with its tracker freed (R92). -/
def State.freeTracker (s : State) : State := { s with dtr := s.dtr.freed }

theorem State.resetTracker_eq (s : State) :
    s.resetTracker = (forAll allIndices State.cancelEntry s).freeTracker := by
  unfold State.resetTracker
  extract_lets u
  have cancelled : u = forAll allIndices State.cancelEntry s := rfl
  clear_value u
  rw [← cancelled]
  rfl

theorem State.cancelEntry_leads (i : Fin 128) (s : State) : s.leads (State.cancelEntry i s) [.lif] := by
  unfold State.cancelEntry
  split
  · exact s.leads_refl _
  · split
    · exact s.issueToRobot_leads _ _
    · exact s.leads_refl _

theorem State.cancelEntries_leads (s : State) : s.leads (forAll allIndices State.cancelEntry s) [.lif] :=
  forAll_leads State.cancelEntry_leads _ s

theorem State.run_queue (s : State) (r : Request) : (s.run r).1.mge.queue = s.mge.queue := by
  have of {t : State} {l : List Block} (h : s.leads t l) (hl : .mge ∉ l) : t.mge.queue = s.mge.queue :=
    congrArg Mge.queue (h.1.2 .mge hl)
  have line (l r : Byte) : (s.configLine l r).1.mge.queue = s.mge.queue := by
    unfold State.configLine
    split
    · rfl
    · dsimp only
      split
      · rfl
      · exact (congrArg Mge.queue ((State.issue_leads _ _).1.2 .mge (by simp))).trans rfl
  have reset : s.deviceReset.mge.queue = s.mge.queue := by
    have tracker : s.resetTracker.resetRecords.mge = s.mge := by
      have kept := s.cancelEntries_leads.1.2 .mge (by simp)
      rw [State.resetTracker_eq]
      generalize forAll allIndices State.cancelEntry s = u at kept
      exact kept
    unfold State.deviceReset
    generalize s.resetTracker.resetRecords = u at tracker
    exact congrArg Mge.queue (Eq.trans (u.comparePoint_leads.1.2 .mge (by simp)) tracker)
  cases r with
  | configLine l r => exact line l r
  | configStation f => exact of (s.configStation_leads f) (by simp)
  | configRobot f => exact of (s.configRobot_leads f) (by simp)
  | configGroup g c h => exact of (s.configGroup_leads g c h) (by simp)
  | styleWrite f => exact of (s.styleWrite_leads f) (by simp)
  | styleErase n => exact of (s.styleErase_leads n) (by simp)
  | programWrite f => exact of (s.programWrite_leads f) (by simp)
  | programErase a b c => exact of (s.programErase_leads a b c) (by simp)
  | tableCopy | tableClear | counterRead _ | query _ | bad _ | counterFreeze | counterUnfreeze => rfl
  | tableCommit => exact of s.tableCommit_leads (by simp)
  | stationEnable n => exact of (s.stationEnable_leads n) (by simp)
  | stationDisable n => exact of (s.stationDisable_leads n) (by simp)
  | robotEnable n => exact of (s.robotEnable_leads n) (by simp)
  | robotDisable n => exact of (s.robotDisable_leads n) (by simp)
  | resolve st a => exact of (s.resolveStation_leads st a) (by simp)
  | forceProgram r p => exact of (s.forceProgram_leads r p) (by simp)
  | wearSet r v => exact of (s.wearSet_leads r v) (by simp)
  | outputForce a b c => exact of (s.outputForce_leads a b c) (by simp)
  | outputRelease a b => exact of (s.outputRelease_leads a b) (by simp)
  | outputUnprotect a b => exact of (s.outputUnprotect_leads a b) (by simp)
  | eventAck items => exact of (s.eventAck_leads items) (by simp)
  | eventMask items => exact of (s.eventMask_leads items) (by simp)
  | counterSet f => exact of (s.counterSet_leads f) (by simp)
  | deviceReset => exact reset

/-! ## The refusal of an arrival does not read the queue -/

theorem State.issue_setQueue (s : State) (q : List Arrival) (x : Telegram) :
    (s.setQueue q).issue x = (s.issue x).setQueue q := by
  unfold State.issue
  rw [State.setQueue_lif]
  split <;> rfl

theorem State.report_setQueue (s : State) (q : List Arrival) (d : Bool) (n : Fin 8) (c : Capture) :
    (s.setQueue q).report d n c = (s.report d n c).setQueue q := by
  unfold State.report
  change (if s.reportInUse = 0 then _ else (s.setQueue q).issue (.eventReport s.reportInUse d n c)) = _
  split
  · rfl
  · exact s.issue_setQueue _ _

theorem State.deviceEvent_setQueue (s : State) (q : List Arrival) (e : DeviceEvent) (c : Capture) :
    (s.setQueue q).deviceEvent e c = (s.deviceEvent e c).setQueue q := by
  unfold State.deviceEvent
  dsimp only
  rw [State.setQueue_deviceStatus]
  split
  · exact State.report_setQueue (s.setDeviceStatus _ _) q _ _ _
  · rfl

theorem State.count_setQueue (s : State) (q : List Arrival) (e : CounterEvent) (n : Nat) (a : Attributes) :
    (s.setQueue q).count e n a = (s.count e n a).setQueue q := by
  have increase (s : State) (k : Fin 8) : (s.setQueue q).increase k n = (s.increase k n).setQueue q := by
    unfold State.increase
    dsimp only
    rw [State.setQueue_counter]
    split
    · exact State.deviceEvent_setQueue ((s.setCounter k _).setFreeze true) q _ _
    · rfl
  have offer (s : State) (k : Fin 8) : (s.setQueue q).offerCounter e n a k = (s.offerCounter e n a k).setQueue q := by
    have held : (s.setQueue q).counterHeld k = s.counterHeld k := rfl
    simp only [State.offerCounter, State.setQueue_counter, held, increase, apply_ite (State.setQueue · q)]
  unfold State.count
  generalize List.finRange 8 = l
  induction l generalizing s with
  | nil => rfl
  | cons k l ih => rw [List.foldl_cons, List.foldl_cons, offer, ih]

theorem State.refuseArrival_setQueue (s : State) (q : List Arrival) (seq : Half) (st : Option (Fin 16)) (body : Word)
    (r : AckReason) : (s.setQueue q).refuseArrival seq st body r = (s.refuseArrival seq st body r).setQueue q := by
  have line (x : Byte → Telegram) : (s.setQueue q).issueToLine x = (s.issueToLine x).setQueue q := by
    unfold State.issueToLine
    change (if s.lineInUse = 0 then _ else (s.setQueue q).issue (x s.lineInUse)) = _
    split
    · rfl
    · exact s.issue_setQueue _ _
  unfold State.refuseArrival
  rw [line, State.deviceEvent_setQueue, State.count_setQueue]

/-! ## The insertion of a retry entry -/

theorem State.create_of_some {s : State} {i : Fin 128} (h : s.lowestFree? = some i) (e : Entry) :
    s.create e = (s.setEntry i (some e), some i) := by
  simp [State.create, h]

theorem State.create_of_none {s : State} (h : s.lowestFree? = none) (e : Entry) : s.create e = (s, none) := by
  simp [State.create, h]

theorem State.insertHead_of_none {s : State} (h : s.lowestFree? = none) (e : Entry) : s.insertHead e = s := by
  rw [State.insertHead, State.create_of_none h]

/-- The place of a new entry in its robot's list, and whether the head is withdrawn first. -/
theorem State.insertHead_of_some {s : State} {i : Fin 128} (h : s.lowestFree? = some i) (e : Entry) :
    (∃ l m, s.list e.robot = l ++ m ∧ s.insertHead e = (s.setEntry i (some e)).setList e.robot (l ++ i :: m))
    ∨ ∃ j m, s.list e.robot = j :: m
        ∧ s.insertHead e = ((s.setEntry i (some e)).withdraw j e.robot).setList e.robot (i :: j :: m) := by
  unfold State.insertHead
  simp only [State.create_of_some h, State.list_setEntry]
  cases hl : s.list e.robot with
  | nil => exact .inl ⟨[], [], rfl, rfl⟩
  | cons j m =>
    simp only
    split
    · exact .inl ⟨[], j :: m, rfl, rfl⟩
    · split
      · exact .inl ⟨[], j :: m, rfl, rfl⟩
      · split
        · exact .inr ⟨j, m, rfl, rfl⟩
        · exact .inl ⟨[j], m, rfl, rfl⟩

theorem State.withdraw_list (s : State) (i : Fin 128) (r q : Fin 64) : (s.withdraw i r).list q = s.list q :=
  State.list_congr (State.issue_dtr _ _) q

theorem State.withdraw_robot_of_ne (s : State) (i : Fin 128) {r q : Fin 64} (h : r ≠ q) :
    (s.withdraw i r).robot q = s.robot q := by
  unfold State.withdraw
  rw [State.robot_setRobotState, if_neg h, State.modEntry_robot]
  exact State.robot_congr ((s.issueToRobot_leads _ _).1.2 .rbc (by simp)) q

theorem State.insertHead_of_ne (s : State) (e : Entry) {q : Fin 64} (h : e.robot ≠ q) :
    (s.insertHead e).list q = s.list q ∧ (s.insertHead e).robot q = s.robot q := by
  cases free : s.lowestFree? with
  | none => rw [State.insertHead_of_none free]; exact ⟨rfl, rfl⟩
  | some i =>
    rcases State.insertHead_of_some free e with ⟨l, m, _, eq⟩ | ⟨j, m, _, eq⟩
    · rw [eq]; simp [h]
    · rw [eq]; simp [h, State.withdraw_list, State.withdraw_robot_of_ne]

/-! ## The condition over a step -/

/-- A step keeps a condition: each single write of the work does, and each that the requests and the link make besides. A
station that is not of `loose` is cleared whole where it becomes DISABLED. -/
structure StepKept (loose : Fin 16 → Prop) (P : State → Prop) : Prop extends WorkKept loose P where
  cleared : ∀ (s : State) (st : Fin 16) (x : Station), ¬ loose st → x.bodyLost = false → x.seatTimer = none →
    x.cycleTimer = none → x.current = none → x.next = none → P (s.setStation st x)
  power : ∀ (s : State) (n : Byte) (t : Half) (a b : Bool), P (s.powerOn n t a b)
  forward : ∀ (s : State) (id : PortId) (f : Frame), P s → P (s.forwardFrame id f)
  transmit : ∀ (s : State) (id : PortId), P s → P (s.portTransmit id)
  linkChange : ∀ (s : State) (id : PortId) (up : Bool), P s → P (s.linkUpChange id up)
  enqueue : ∀ (s : State) (m : MgmtEntry), s.mge.queue.length < Config.maxRequests → P s →
    P (s.setRequests (s.mge.queue ++ [m]))
  dequeue : ∀ (s : State) (q : List MgmtEntry), q.length ≤ s.mge.queue.length → P s → P (s.setRequests q)
  job : ∀ (s : State) (j : Option TableJob), P s → P { s with mge := { s.mge with job := j } }
  nodes : ∀ (s : State) (l r : Byte), P s →
    P { s with mge := { s.mge with lineNode := l, reportNode := r }, formerNodes := some (s.lineInUse, s.reportInUse) }
  bank : ∀ (s : State) (id : BankId) (x : Bank), x.stamps = (s.bank id).stamps →
    ((∀ id, (s.bank id).Wf) → x.Wf) → P s → P (s.setBank id x)
  commit : ∀ s : State, s.tbs.draining = false → P s → P s.commit
  enableRobot : ∀ (s : State) (r : Fin 64), (s.robot r).enabled = false → P s → P (s.setRobotState r .idle)
  configRobot : ∀ (s : State) (r : Fin 64) (x : Robot), (s.robot r).enabled = false → x.enabled = false →
    x.wear = (s.robot r).wear → P s → P (s.setRobot r x)
  disable : ∀ (s : State) (r : Fin 64), P s → P ((forAll (s.list r) State.bypassEntry s).setRobotState r .disabled)
  group : ∀ (s : State) (g : Fin 8) (x : Group), s.holders g = [] → P s → P (s.setGroup g x)
  append : ∀ (s : State) (e : Entry), (s.robot e.robot).enabled = true → s.list e.robot = [] → e.supply = .none →
    P s → P (s.append e)
  insertHead : ∀ (s : State) (e : Entry), (s.robot e.robot).enabled = true →
    (s.list e.robot).length < Config.maxList → e.supply = .none → P s → P (s.insertHead e)
  reset : ∀ s : State, P s →
    P s.freeTracker.resetRecords
  timers : ∀ s : State, P s → P s.runTimers

namespace StepKept

variable {loose : Fin 16 → Prop} {P : State → Prop} (k : StepKept loose P)

include k

/-! ## Taking a station out -/

theorem removeArrivals (s : State) (st : Fin 16) (h : P s) : P (s.removeArrivals st) := by
  have remove : ∀ (l : List Arrival) (s : State), l.Subperm s.arq.queue → P s → P (forAll l State.removeArrival s) := by
    intro l
    induction l with
    | nil => exact fun s _ h => h
    | cons a l ih =>
      intro s sub h
      obtain ⟨l₁, l₂, _, queue, erased⟩ := List.exists_erase_eq (sub.subset List.mem_cons_self)
      refine ih _ ?_ ?_
      · have rest := sub.erase a
        rw [List.erase_cons_head] at rest
        unfold State.removeArrival
        rwa [(State.dropStamp_leads _ _).1.2 .arq (by simp), (State.refuseArrival_leads _ _ _ _ _).1.2 .arq (by simp)]
      · change P (((s.setQueue (s.arq.queue.erase a)).refuseArrival 0 (some a.station) a.body .station).dropStamp a.stamp)
        rw [State.refuseArrival_setQueue, erased]
        refine k.leave _ l₁ l₂ a ?_ (k.toWorkKept.refuseArrival _ _ _ _ _ h)
        rw [(State.refuseArrival_leads _ _ _ _ _).1.2 .arq (by simp), queue]
  exact remove _ s List.filter_sublist.subperm h

theorem cleanup (s : State) (st : Fin 16) (h : P s) : P (s.cleanup st) := by
  have w := k.toWorkKept
  unfold State.cleanup
  dsimp only
  by_cases hst : loose st
  · exact w.callPass (k.station _ _ _ (.inl hst) (w.attemptOffers _ _ (w.returnFaulted _ _ (w.abortSet _ _
      (k.removeArrivals _ _ (k.station _ _ _ (.inl hst) h))))))
  · exact w.callPass (k.cleared _ _ _ hst rfl rfl rfl rfl rfl)

/-! ## RESOLVE -/

theorem insertPlans (st : Fin 16) (body : Word) : ∀ (plans : List Plan) (s : State), (servingRobots plans).Nodup →
    (∀ r ∈ servingRobots plans, (s.robot r).enabled = true ∧ (s.list r).length < Config.maxList) → P s →
    P (s.insertPlans st body plans)
  | [], _, _, _, h => h
  | x :: plans, s, nodup, room, h => by
    unfold servingRobots at nodup room
    cases hx : x.robot with
    | none =>
      rw [List.filterMap_cons_none hx] at nodup room
      have rest := insertPlans st body plans s nodup room h
      simpa [State.insertPlans, forAll, hx] using rest
    | some r =>
      rw [List.filterMap_cons_some hx] at nodup room
      obtain ⟨fresh, nodup⟩ := List.nodup_cons.mp nodup
      obtain ⟨enabled, length⟩ := room r List.mem_cons_self
      have rest := insertPlans st body plans (s.insertHead (weldEntry st body x r)) nodup (fun q hq => by
        have kept := s.insertHead_of_ne (weldEntry st body x r) (q := q) (fun h => fresh (by rw [show r = q from h]; exact hq))
        rw [kept.1, kept.2]
        exact room q (List.mem_cons_of_mem _ hq)) (k.insertHead _ _ enabled length rfl h)
      simpa [State.insertPlans, forAll, hx] using rest

omit k in
theorem room_of_not_retryFull {s : State} {plans : List Plan} (h : s.retryFull plans = false) :
    ∀ r ∈ servingRobots plans, (s.list r).length < Config.maxList := by
  simp only [State.retryFull, Bool.or_eq_false_iff, List.any_eq_false, decide_eq_true_eq] at h
  intro r hr
  have := h.2 r hr
  omega

theorem act {s : State} {st : Fin 16} {a : Action} {x : ActionResult} (held : (s.station st).state = .held)
    (h : s.act st a = some x) (hs : P s) : P x.state := by
  have w := k.toWorkKept
  have enabled : (s.station st).enabled = true := WorkKept.enabled_of_not_disabled (by simp [held])
  have put (c : Slot) (body : Word) (plans : List Plan) (full : s.retryFull plans = false)
      (planned : ∀ x ∈ plans, s.planned x) (distinct : plans.Pairwise (fun x y => x.position ≠ y.position)) :
      P ((s.setStation st { s.station st with current := some c }).insertPlans st body plans) := by
    refine k.insertPlans _ _ _ _ (State.servingRobots_nodup planned distinct) (fun r hr => ?_)
      (k.station _ _ _ (.inr ⟨fun _ => .inl enabled, fun _ hn => by simp at hn⟩) hs)
    obtain ⟨y, hy, hyr⟩ := List.mem_filterMap.mp hr
    exact ⟨(planned y hy r hyr).1, room_of_not_retryFull full r hr⟩
  cases a with
  | retry =>
    simp only [State.act, State.retry] at h
    split at h
    · cases h; exact hs
    · split at h
      · cases h; exact hs
      · split at h
        · simp only [State.retryNoStyle] at h
          split at h
          · cases h
          · next full =>
            cases h
            exact put _ _ _ (by simpa using full) (s.plans_planned _ _) (s.plans_pairwise _ _)
        · simp only [State.retryStyle] at h
          split at h
          · cases h
          · next c _ _ _ full =>
            cases h
            refine put _ _ _ (by simpa using full) (fun x hx r hr => ?_) ?_
            · obtain ⟨p, _, hp⟩ := List.mem_filterMap.mp hx
              obtain ⟨work, _, rfl⟩ := Option.map_eq_some_iff.mp hp
              obtain ⟨on, _, position⟩ := State.servingRobot?_spec hr
              exact ⟨on, position⟩
            · refine pairwise_position_filterMap (fun p x hp => ?_) ((List.nodup_finRange 8).filter _)
              obtain ⟨work, _, rfl⟩ := Option.map_eq_some_iff.mp hp
              rfl
  | accept =>
    simp only [State.act, State.accept, Option.some.injEq] at h
    subst h
    exact k.station _ _ _ (.inr ⟨fun _ => .inl enabled, fun ho hn => ho (by simpa using hn)⟩) hs
  | abort =>
    simp only [State.act, State.abort, Option.some.injEq] at h
    subst h
    split
    · exact hs
    · split
      · exact hs
      · exact w.endSet _ _ (k.station _ _ _ (.inr ⟨fun _ => .inl enabled, fun _ hn => by simp at hn⟩) hs)

omit k in
theorem follows_of_current {y : Station} {f : Slot → Slot} {b : Bool} (hb : b = true → y.bodyLost = true) :
    y.Follows { y with bodyLost := b, current := y.current.map f } := by
  refine ⟨fun hc => ?_, fun ho hn => ho (by simpa using hn)⟩
  rcases hc with hc | ⟨h1, h2, h3, h4, h5⟩
  · exact .inl hc
  · exact .inr ⟨by simpa [h1] using hb, h2, h3, by simp [h4], h5⟩

theorem afterAction (x : ActionResult) (st : Fin 16) (h : P x.state) : P (State.afterAction x st) := by
  have w := k.toWorkKept
  unfold State.afterAction
  dsimp only
  refine w.callPass (w.attemptOffers _ _ (w.returnFaulted _ _ (w.attemptOffers _ _ (w.checkCompletion _ _
    (w.updateStation _ _ _ (.inr (follows_of_current (by exact id)))
      (k.station _ _ _ (.inr (follows_of_current (by simp))) h))))))

theorem resolveStation (s : State) (st a : Byte) (h : P s) : P (s.resolveStation st a).1 := by
  unfold State.resolveStation
  split
  · split
    · next held =>
      split
      · exact h
      · next hx => exact k.afterAction _ _ (k.act held hx h)
    · exact h
  · exact h

/-! ## The other requests -/

theorem configLine (s : State) (l r : Byte) (h : P s) : P (s.configLine l r).1 := by
  unfold State.configLine
  split
  · exact h
  · dsimp only
    split
    · exact k.nodes _ _ _ h
    · exact k.aside (k.issue _ _ (k.nodes _ _ _ h)) rfl

theorem configStation (s : State) (f : StationFields) (h : P s) : P (s.configStation f).1 := by
  unfold State.configStation
  split
  · split
    · exact h
    · exact k.station _ _ _ (.inr ⟨id, id⟩) h
  · exact h

theorem configureRobot (s : State) (f : RobotFields) (h : P s) : P (s.configRobot f).1 := by
  unfold State.configRobot
  split
  · split
    · exact h
    · split
      · exact h
      · next off => exact k.configRobot _ _ _ (by simpa using off) (by simpa [Robot.enabled] using off) rfl h
  · exact h

theorem configGroup (s : State) (g c : Byte) (l : Half) (h : P s) : P (s.configGroup g c l).1 := by
  unfold State.configGroup
  split
  · exact h
  · split
    · exact h
    · split
      · exact h
      · next unused =>
        simp only [ne_eq, not_or, not_not] at unused
        exact k.group _ _ _ unused.1 h

theorem styleWrite (s : State) (f : StyleFields) (h : P s) : P (s.styleWrite f).1 := by
  unfold State.styleWrite
  split
  · exact h
  · split
    · exact h
    · exact k.bank _ _ _ rfl (fun wf => wf _) h

theorem styleErase (s : State) (n : Byte) (h : P s) : P (s.styleErase n).1 := by
  unfold State.styleErase
  split
  · exact h
  · split
    · exact h
    · split
      · exact k.bank _ _ _ rfl (fun wf => wf _) h
      · exact h

omit k in
theorem mem_insertRecord {n : Nat} {x : ProgramRecord} {l : List (Nat × ProgramRecord)} {q : Nat × ProgramRecord}
    (h : q ∈ insertRecord n x l) : q = (n, x) ∨ q ∈ l := by
  induction l with
  | nil => simpa [insertRecord] using h
  | cons p l ih =>
    unfold insertRecord at h
    split at h
    · simpa using h
    · split at h
      · rcases List.mem_cons.mp h with h | h
        · exact .inl h
        · exact .inr (List.mem_cons_of_mem _ h)
      · rcases List.mem_cons.mp h with h | h
        · exact .inr (h ▸ List.mem_cons_self)
        · exact (ih h).imp_right (List.mem_cons_of_mem _)

omit k in
theorem keysRise_insertRecord (n : Nat) (x : ProgramRecord) {l : List (Nat × ProgramRecord)} (rise : keysRise l = true) :
    keysRise (insertRecord n x l) = true := by
  induction l with
  | nil => rfl
  | cons p l ih =>
    obtain ⟨m, y⟩ := p
    obtain ⟨above, rest⟩ := (keysRise_cons _ _).mp rise
    unfold insertRecord
    split
    · next below =>
      refine (keysRise_cons _ _).mpr ⟨fun q hq => ?_, rise⟩
      rcases List.mem_cons.mp hq with rfl | hq
      · exact below
      · exact below.trans (above q hq)
    · split
      · next same => exact (keysRise_cons _ _).mpr ⟨fun q hq => by simpa [same] using above q hq, rest⟩
      · refine (keysRise_cons _ _).mpr ⟨fun q hq => ?_, ih rest⟩
        rcases mem_insertRecord hq with rfl | hq
        · simp only
          omega
        · exact above q hq

omit k in
/-- A record put at a key that is held leaves the number of records, and one at a new key adds one. -/
theorem length_insertRecord (n : Nat) (x : ProgramRecord) {l : List (Nat × ProgramRecord)} (rise : keysRise l = true) :
    (insertRecord n x l).length = if l.lookup n = none then l.length + 1 else l.length := by
  induction l with
  | nil => rfl
  | cons p l ih =>
    obtain ⟨m, y⟩ := p
    obtain ⟨above, rest⟩ := (keysRise_cons _ _).mp rise
    unfold insertRecord
    split
    · next below =>
      have absent : ((m, y) :: l).lookup n = none := by
        refine List.lookup_eq_none_iff.mpr fun q hq => ?_
        rcases List.mem_cons.mp hq with rfl | hq
        · simpa using below.ne
        · have := above q hq
          simp only at this
          simpa using (below.trans this).ne
      simp [absent]
    · split
      · next same => simp [same]
      · next other =>
        have ne : (n == m) = false := by simpa using other
        rw [List.length_cons, ih rest, List.lookup_cons, ne, List.length_cons]
        split <;> rfl

theorem programWrite (s : State) (f : ProgramFields) (h : P s) : P (s.programWrite f).1 := by
  unfold State.programWrite
  split
  · exact h
  · next n x _ =>
    split
    · exact h
    · next id _ =>
      dsimp only
      split
      · exact h
      · next room =>
        refine k.bank _ _ _ rfl (fun wf => ⟨keysRise_insertRecord n x (wf id).1, ?_⟩) h
        have count : (s.bank id).programs.length ≤ Config.maxRecords := (wf id).2
        have space : ¬ ((s.bank id).programs.lookup n = none ∧ Config.maxRecords ≤ (s.bank id).programs.length) := by
          simpa [Bank.record?, Bank.recordCount] using room
        change (insertRecord n x (s.bank id).programs).length ≤ Config.maxRecords
        rw [length_insertRecord n x (wf id).1]
        split
        · next absent => have := not_and.mp space absent; omega
        · exact count

omit k in
theorem keysRise_eraseRecord (n : Nat) {l : List (Nat × ProgramRecord)} (rise : keysRise l = true) :
    keysRise (eraseRecord n l) = true := by
  induction l with
  | nil => rfl
  | cons p l ih =>
    obtain ⟨above, rest⟩ := (keysRise_cons _ _).mp rise
    unfold eraseRecord at ih ⊢
    rw [List.filter_cons]
    split
    · exact (keysRise_cons _ _).mpr ⟨fun q hq => above q (List.mem_filter.mp hq).1, ih rest⟩
    · exact ih rest

theorem programErase (s : State) (a b c : Byte) (h : P s) : P (s.programErase a b c).1 := by
  unfold State.programErase
  split
  · split
    · exact h
    · dsimp only
      split
      · exact h
      · exact k.bank _ _ _ rfl (fun wf => ⟨keysRise_eraseRecord _ (wf _).1,
          (List.length_filter_le _ _).trans (wf _).2⟩) h
  · exact h

theorem tableCommit (s : State) (h : P s) : P s.tableCommit.1 := by
  unfold State.tableCommit
  split
  · exact h
  · next notDraining => exact k.commit _ (by simpa using notDraining) h

theorem stationEnable (s : State) (n : Byte) (h : P s) : P (s.stationEnable n).1 := by
  unfold State.stationEnable
  split
  · exact h
  · split
    · exact h
    · exact k.toWorkKept.callPass (k.station _ _ _ (.inr ⟨fun _ => .inl rfl, fun _ _ => rfl⟩) h)

theorem stationDisable (s : State) (n : Byte) (h : P s) : P (s.stationDisable n).1 := by
  unfold State.stationDisable
  split
  · exact h
  · split
    · exact k.cleanup _ _ h
    · exact h

theorem robotEnable (s : State) (n : Byte) (h : P s) : P (s.robotEnable n).1 := by
  unfold State.robotEnable
  split
  · exact h
  · split
    · exact h
    · next off =>
      simp only [not_or, Bool.not_eq_true] at off
      exact k.enableRobot _ _ off.2.1 h

theorem robotDisable (s : State) (n : Byte) (h : P s) : P (s.robotDisable n).1 := by
  unfold State.robotDisable
  split
  · exact h
  · split
    · exact h
    · exact h
    · exact k.disable _ _ h
    · exact k.disable _ _ h

theorem forceProgram (s : State) (r p : Byte) (h : P s) : P (s.forceProgram r p).1 := by
  unfold State.forceProgram
  split
  · exact h
  · split
    · exact h
    · split
      · exact h
      · next fits =>
        simp only [ne_eq, not_or, not_not] at fits
        split
        · exact h
        · exact k.toWorkKept.attemptOffer _ _ (k.append _ _ (by simp [Robot.enabled, fits.1]) fits.2 rfl h)

theorem wearSet (s : State) (r : Byte) (v : Half) (h : P s) : P (s.wearSet r v).1 := by
  unfold State.wearSet
  split
  · exact h
  · refine k.gun _ _ _ rfl rfl (.inr ?_) h
    have := v.isLt
    simp only [Config.maxWear]
    omega

theorem maskItem (x : Option (Fin 16) × Byte) (s : State) (h : P s) : P (State.maskItem x s) := by
  have w := k.toWorkKept
  refine forAll_keep (fun n s h => ?_) _ h
  dsimp only
  split
  · split
    · exact w.report _ _ _ _ (k.aside h rfl)
    · exact k.aside h rfl
  · split
    · exact w.report _ _ _ _ (k.aside h rfl)
    · exact k.aside h rfl

theorem ackItem (x : Option (Fin 16) × Byte) (s : State) (h : P s) : P (State.ackItem x s) := by
  refine forAll_keep (fun n s h => ?_) _ h
  split
  · split
    · exact k.aside h rfl
    · exact k.aside h rfl
  · exact h

theorem deviceReset (s : State) (h : P s) : P s.deviceReset := by
  have w := k.toWorkKept
  have cancelled : P (forAll allIndices State.cancelEntry s) := by
    refine forAll_keep (fun i s h => ?_) _ h
    unfold State.cancelEntry
    split
    · exact h
    · split
      · exact w.issueToRobot _ _ _ h
      · exact h
  unfold State.deviceReset
  rw [State.resetTracker_eq]
  have wiped := w.comparePoint _ (k.reset _ cancelled)
  generalize (forAll allIndices State.cancelEntry s).freeTracker.resetRecords.comparePoint = u at wiped
  exact k.aside wiped rfl

theorem run (s : State) (r : Request) (h : P s) : P (s.run r).1 := by
  cases r with
  | configLine l r => exact k.configLine s l r h
  | configStation f => exact k.configStation s f h
  | configRobot f => exact k.configureRobot s f h
  | configGroup g c l => exact k.configGroup s g c l h
  | styleWrite f => exact k.styleWrite s f h
  | styleErase n => exact k.styleErase s n h
  | programWrite f => exact k.programWrite s f h
  | programErase a b c => exact k.programErase s a b c h
  | tableCopy | tableClear | counterRead _ | query _ | bad _ => exact h
  | tableCommit => exact k.tableCommit s h
  | stationEnable n => exact k.stationEnable s n h
  | stationDisable n => exact k.stationDisable s n h
  | robotEnable n => exact k.robotEnable s n h
  | robotDisable n => exact k.robotDisable s n h
  | resolve st a => exact k.resolveStation s st a h
  | forceProgram r p => exact k.forceProgram s r p h
  | wearSet r v => exact k.wearSet s r v h
  | outputForce a b c =>
    simp only [State.run, bare, State.outputForce]
    split
    · split
      · exact h
      · exact k.aside h rfl
    · exact h
  | outputRelease a b =>
    simp only [State.run, bare, State.outputRelease]
    split
    · exact k.aside h rfl
    · exact h
  | outputUnprotect a b =>
    simp only [State.run, bare, State.outputUnprotect]
    split
    · exact k.aside h rfl
    · exact h
  | eventAck items =>
    simp only [State.run, State.eventAck]
    split
    · exact h
    · exact forAll_keep k.ackItem _ h
  | eventMask items =>
    simp only [State.run, bare, State.eventMask]
    split
    · exact h
    · exact forAll_keep k.maskItem _ h
  | counterSet f =>
    simp only [State.run, bare, State.counterSet]
    split
    · exact k.aside h rfl
    · exact h
  | counterFreeze | counterUnfreeze => exact k.aside h rfl
  | deviceReset => exact k.deviceReset s h

/-! ## The management queue -/

theorem complete (s : State) (m : MgmtEntry) (a : Result × List Byte) (rest : List MgmtEntry)
    (hq : rest.length ≤ s.mge.queue.length) (h : P s) : P (s.complete m a rest) := by
  have w := k.toWorkKept
  have mge : ((s.runPass.comparePoint).respond m a.1 a.2).mge = s.mge :=
    (State.leads_after (State.respond_leads _ _ _ _) (by simp)
      (State.leads_after (State.comparePoint_leads _) (by simp) s.runPass_leads)).1.2 .mge (by decide)
  exact k.dequeue _ _ (by rw [mge]; exact hq) (k.issue _ _ (w.comparePoint _ (w.runPass _ h)))

theorem drain : ∀ (n : Nat) (s : State), P s → P (s.drain n)
  | 0, _, h => h
  | n + 1, s, h => by
    unfold State.drain
    split
    · exact h
    · next m rest queue =>
      split
      · exact k.job _ _ h
      · refine drain n _ (k.complete _ _ _ _ ?_ (k.run _ _ h))
        rw [State.run_queue, queue]
        split <;> simp

theorem take (s : State) (f : Sender) (r : Request) (h : P s) : P (s.take f r) := by
  have w := k.toWorkKept
  unfold State.take
  dsimp only
  split
  · exact w.deviceEvent _ _ _ (k.issue _ _ (w.comparePoint _ h))
  · next room =>
    have taken := k.enqueue s ⟨f, r⟩ (Nat.lt_of_not_le room) h
    split
    · exact k.drain _ _ taken
    · exact taken

theorem tableEnd (s : State) (clear : Bool) (h : P s) : P (s.tableEnd clear) := by
  unfold State.tableEnd
  split
  · dsimp only
    have written : P (s.setBank s.tbs.active.other
        (if clear then (s.bank s.tbs.active.other).cleared
          else (s.bank s.tbs.active.other).copyFrom (s.bank s.tbs.active))) := by
      refine k.bank _ _ _ ?_ (fun wf => ?_) h
      · split <;> rfl
      · split
        · exact ⟨rfl, Nat.zero_le _⟩
        · exact wf s.tbs.active
    have done := k.job _ none written
    split
    · exact done
    · next queue => exact k.drain _ _ (k.complete _ _ _ _ (by rw [queue]; simp) done)
  · exact h

theorem request (s : State) (f : Sender) (r : Request) (h : P s) : P (s.request f r) :=
  k.toWorkKept.telegram s (fun t ht => k.take t f r ht) h

/-! ## The link and the tick -/

theorem watch (s : State) (node : Byte) (f : Frame) (h : P s) : P (s.watch node f) := by
  have w := k.toWorkKept
  unfold State.watch
  split
  · split
    · exact h
    · dsimp only
      split
      · exact w.stationEvent _ _ _ _ _ h
      · exact k.cleanup _ _ (w.stationEvent _ _ _ _ _ h)
  · exact h

theorem hand (s : State) (f : Frame) (h : P s) : P (s.hand f) := by
  have w := k.toWorkKept
  unfold State.hand
  dsimp only
  split
  · exact w.bodyArrive _ _ _ _ _ h
  · exact w.stationInputs _ _ _ h
  · exact w.selEcho _ _ _ _ _ h
  · exact w.cycleStart _ _ _ h
  · exact w.weldReq _ _ _ h
  · exact w.weldFree _ _ _ h
  · exact w.weldDone _ _ _ _ _ h
  · exact k.take _ _ _ h
  · exact h

theorem takeIn (s : State) (node : Byte) (f : Frame) (h : P s) : P (s.takeIn node f) := by
  unfold State.takeIn
  split
  · split
    · exact h
    · exact k.toWorkKept.deviceEvent _ _ _ h
    · exact k.hand _ _ h
  · exact h

theorem receiveFrame (s : State) (id : PortId) (f : Frame) (h : P s) : P (s.receiveFrame id f) := by
  unfold State.receiveFrame
  dsimp only
  split
  · exact k.forward _ _ _ h
  · split
    · exact k.takeIn _ _ _ (k.watch _ _ _ (k.forward _ _ _ h))
    · exact k.forward _ _ _ h

theorem tick (s : State) (h : P s) : P s.tick := by
  have w := k.toWorkKept
  have stations := forAll_keep (fun (st : Fin 16) s (h : P s) =>
    w.finish _ (w.cycleExpiry _ st (w.finish _ (w.seatExpiry s st h)))) allStations h
  have entries := forAll_keep (fun (i : Fin 128) s (h : P s) =>
    w.finish _ (w.holdExpiry _ i (w.finish _ (w.selectExpiry s i h)))) allIndices stations
  exact w.sample _ (k.timers _ (w.finish _ (k.tableEnd _ true (w.finish _ (k.tableEnd _ false entries)))))

/-! ## Commands -/

theorem exec {c : Instr} {s t : State} (h : P s) (ht : exec c s = .next t) : P t := by
  have w := k.toWorkKept
  cases c <;> cases ht
  case powerOn => exact k.power _ _ _ _ _
  case resetInputAssert => exact k.aside h rfl
  case linkUpChange => exact w.event _ (fun t ht => k.linkChange t _ _ ht) h
  case frameReceive => exact w.event _ (fun t ht => k.receiveFrame t _ _ ht) h
  case portTransmit => exact w.event _ (fun t ht => k.transmit t _ ht) h
  case tick => exact w.event _ k.tick h
  case bodyArrive => exact w.telegram _ (fun t ht => w.bodyArrive t _ _ _ _ ht) h
  case stationInputs => exact w.telegram _ (fun t ht => w.stationInputs t _ _ ht) h
  case selEcho => exact w.telegram _ (fun t ht => w.selEcho t _ _ _ _ ht) h
  case cycleStart => exact w.telegram _ (fun t ht => w.cycleStart t _ _ ht) h
  case weldReq => exact w.telegram _ (fun t ht => w.weldReq t _ _ ht) h
  case weldFree => exact w.telegram _ (fun t ht => w.weldFree t _ _ ht) h
  case weldDone => exact w.telegram _ (fun t ht => w.weldDone t _ _ _ _ ht) h
  case selectTimerExpiry => exact w.event _ (fun t ht => w.selectExpiry t _ ht) h
  case seatTimerExpiry => exact w.event _ (fun t ht => w.seatExpiry t _ ht) h
  case cycleTimerExpiry => exact w.event _ (fun t ht => w.cycleExpiry t _ ht) h
  case holdTimerExpiry => exact w.event _ (fun t ht => w.holdExpiry t _ ht) h
  case tableCopyEnd => exact w.event _ (fun t ht => k.tableEnd t false ht) h
  case tableClearEnd => exact w.event _ (fun t ht => k.tableEnd t true ht) h
  all_goals exact k.request _ _ _ h

theorem step {s t : State} (h : P s) (ht : step s = .next t) : P t := by
  unfold Sys2Proof.Machine.step at ht
  split at ht
  · cases ht; exact h
  · next rest _ => exact k.exec (s := { s with pending := rest }) (k.aside h rfl) ht

end StepKept

end Sys2Proof.Machine
end

section
/-! Which writes a condition has to be looked at for: those of the records that it reads. -/

namespace Sys2Proof.Machine

theorem State.job_leads (s : State) (j : Option TableJob) : s.leads { s with mge := { s.mge with job := j } } [.mge] :=
  ⟨⟨rfl, fun b hb => by cases b <;> first | rfl | simp at hb⟩, List.prefix_rfl, rfl, rfl, rfl, fun hb => by simp at hb⟩

theorem State.nodes_leads (s : State) (l r : Byte) :
    s.leads { s with
      mge := { s.mge with lineNode := l, reportNode := r }, formerNodes := some (s.lineInUse, s.reportInUse) } [.mge] :=
  ⟨⟨rfl, fun b hb => by cases b <;> first | rfl | simp at hb⟩, List.prefix_rfl, rfl, rfl, rfl, fun hb => by simp at hb⟩

theorem State.disable_leads (s : State) (r : Fin 64) :
    s.leads ((forAll (s.list r) State.bypassEntry s).setRobotState r .disabled) [.lif, .dtr, .rbc, .spa, .stc, .emu] :=
  State.leads_after (State.setRobotState_leads _ _ _) (by simp) (forAll_leads State.bypassEntry_leads _ s)

theorem State.fill_leads (s : State) (st : Fin 16) (body : Word) (plans : List Plan) :
    s.leads (forAll plans (State.createFor st body) s) [.dtr] :=
  forAll_leads (fun x s => State.createFor_leads st body x s) plans s

theorem State.accept_leads (s : State) (q : List Arrival) (id : BankId) :
    s.leads ((s.setQueue q).addStamp id) [.arq, .tbs] :=
  State.leads_seq (s.setQueue_leads q) (State.addStamp_leads _ _) (by simp) (by simp)

theorem State.leave_leads (s : State) (q : List Arrival) (id : BankId) :
    s.leads ((s.setQueue q).dropStamp id) [.arq, .tbs, .emu, .lif] :=
  State.leads_seq (s.setQueue_leads q) (State.dropStamp_leads _ _) (by simp) (by simp)

namespace StepKept

variable {P : State → Prop}

/-- A condition on the table store and the arrival queue. -/
theorem of_tables (frame : ∀ {s t : State}, P s → t.tbs = s.tbs → t.arq = s.arq → P t)
    (power : ∀ (s : State) (n : Byte) (t : Half) (a b : Bool), P (s.powerOn n t a b))
    (accept : ∀ (s : State) (a : Arrival), s.arq.queue.length < Config.maxArrivals → a.stamp = s.tbs.active → P s →
      P ((s.setQueue (s.arq.queue ++ [a])).addStamp a.stamp))
    (skip : ∀ (s : State) (l m : List Arrival) (a : Arrival), s.arq.queue = l ++ a :: m → P s →
      P (s.setQueue (l ++ a.skipped :: m)))
    (leave : ∀ (s : State) (l m : List Arrival) (a : Arrival), s.arq.queue = l ++ a :: m → P s →
      P ((s.setQueue (l ++ m)).dropStamp a.stamp))
    (bank : ∀ (s : State) (id : BankId) (x : Bank), x.stamps = (s.bank id).stamps →
      ((∀ id, (s.bank id).Wf) → x.Wf) → P s → P (s.setBank id x))
    (commit : ∀ s : State, s.tbs.draining = false → P s → P s.commit)
    (reset : ∀ s : State, P s → P s.freeTracker.resetRecords) : StepKept (fun _ => True) P := by
  have of {s t : State} {l : List Block} (h : P s) (k : s.leads t l) (tbs : .tbs ∉ l := by simp)
      (arq : .arq ∉ l := by simp) : P t := frame h (k.1.2 .tbs tbs) (k.1.2 .arq arq)
  exact
    { aside := fun {s t} h records => by
        simp only [State.records, Prod.mk.injEq] at records
        obtain ⟨⟨_, _, _, tbs, arq⟩, _⟩ := records
        exact frame h tbs arq
      issue := fun s x h => of h (s.issue_leads x)
      update := fun s i _ _ _ _ _ h => of h (s.setEntry_leads i _)
      renew := fun s i _ h => of h (s.setPlace_leads i _)
      grant := fun s g i _ _ h => of h (s.grant_leads g i)
      release := fun s i ban h => of h (s.releaseSupply_leads i ban)
      free := fun s i r _ h => of h (s.free_leads i r)
      fill := fun s st body plans _ _ h => of h (s.fill_leads st body plans)
      gun := fun s r x _ _ _ h => of h (s.setRobot_leads r x)
      robotState := fun s r x _ h => of h (s.setRobotState_leads r x)
      station := fun s st x _ h => of h (s.setStation_leads st x)
      accept := accept
      skip := skip
      leave := leave
      cleared := fun _ _ _ h => absurd trivial h
      power := power
      forward := fun s id f h => of h (s.forwardFrame_leads id f)
      transmit := fun s id h => of h (s.portTransmit_leads id)
      linkChange := fun s id up h => of h (s.linkUpChange_leads id up)
      enqueue := fun s _ _ h => of h (s.setRequests_leads _)
      dequeue := fun s q _ h => of h (s.setRequests_leads q)
      job := fun s j h => of h (s.job_leads j)
      nodes := fun s l r h => of h (s.nodes_leads l r)
      bank := bank
      commit := commit
      enableRobot := fun s r _ h => of h (s.setRobotState_leads r _)
      configRobot := fun s r x _ _ _ h => of h (s.setRobot_leads r x)
      disable := fun s r h => of h (s.disable_leads r)
      group := fun s g x _ h => of h (s.setGroup_leads g x)
      append := fun s e _ _ _ h => of h (s.append_leads e)
      insertHead := fun s e _ _ _ h => of h (s.insertHead_leads e)
      reset := reset
      timers := fun s h => of h s.runTimers_leads }

/-- A condition on the ports and the management queue. -/
theorem of_link (frame : ∀ {s t : State}, P s → t.lif.p1 = s.lif.p1 → t.lif.p2 = s.lif.p2 → t.mge = s.mge → P t)
    (power : ∀ (s : State) (n : Byte) (t : Half) (a b : Bool), P (s.powerOn n t a b))
    (issue : ∀ (s : State) (x : Telegram), P s → P (s.issue x))
    (forward : ∀ (s : State) (id : PortId) (f : Frame), P s → P (s.forwardFrame id f))
    (transmit : ∀ (s : State) (id : PortId), P s → P (s.portTransmit id))
    (linkChange : ∀ (s : State) (id : PortId) (up : Bool), P s → P (s.linkUpChange id up))
    (enqueue : ∀ (s : State) (m : MgmtEntry), s.mge.queue.length < Config.maxRequests → P s →
      P (s.setRequests (s.mge.queue ++ [m])))
    (dequeue : ∀ (s : State) (q : List MgmtEntry), q.length ≤ s.mge.queue.length → P s → P (s.setRequests q))
    (mge : ∀ (s : State) (m : Mge) (n : Option (Byte × Byte)), m.queue = s.mge.queue → P s →
      P { s with mge := m, formerNodes := n }) : StepKept (fun _ => True) P := by
  have robot (s : State) (r : Fin 64) (x : Byte → Telegram) (h : P s) : P (s.issueToRobot r x) := issue _ _ h
  have device (s : State) (e : DeviceEvent) (c : Capture) (h : P s) : P (s.deviceEvent e c) := by
    unfold State.deviceEvent State.report
    dsimp only
    split
    · split
      · exact frame h rfl rfl rfl
      · exact issue _ _ (frame h rfl rfl rfl)
    · exact frame h rfl rfl rfl
  have grant (s : State) (g : Fin 8) (i : Fin 128) (h : P s) : P (s.grant g i) := by
    unfold State.grant
    split
    · exact h
    · exact robot _ _ _ (frame h rfl rfl rfl)
  have release (s : State) (i : Fin 128) (ban : List (Fin 128)) (h : P s) : P (s.releaseSupply i ban) := by
    unfold State.releaseSupply State.handOn
    split
    · exact h
    · dsimp only
      split
      · split
        · exact frame h rfl rfl rfl
        · exact grant _ _ _ (frame h rfl rfl rfl)
      · exact frame h rfl rfl rfl
  have bank (s : State) (id : BankId) (x : Bank) (h : P s) : P (s.setBank id x) :=
    frame h (by cases id <;> rfl) (by cases id <;> rfl) (by cases id <;> rfl)
  have drop (s : State) (id : BankId) (h : P s) : P (s.dropStamp id) := by
    unfold State.dropStamp State.endDrain
    split
    · exact device _ _ _ (frame (bank s id _ h) rfl rfl rfl)
    · exact bank _ _ _ h
  have withdraw (s : State) (i : Fin 128) (r : Fin 64) (h : P s) : P (s.withdraw i r) :=
    frame (robot s r (.dispatchCancel · (s.tag i)) h) rfl rfl rfl
  have work : WorkKept (fun _ => True) P :=
    { aside := fun {s t} h records => by
        simp only [State.records, Prod.mk.injEq] at records
        obtain ⟨⟨p1, p2, m, _⟩, _⟩ := records
        exact frame h p1 p2 m
      issue := issue
      update := fun s i _ _ _ _ _ h => frame h rfl rfl rfl
      renew := fun s i _ h => frame h rfl rfl rfl
      grant := fun s g i _ _ h => grant s g i h
      release := release
      free := fun s i r _ h => frame h rfl rfl rfl
      fill := fun s st body plans _ _ h => by
        have k := (s.fill_leads st body plans).1.2
        exact frame h (congrArg Lif.p1 (k .lif (by simp))) (congrArg Lif.p2 (k .lif (by simp))) (k .mge (by simp))
      gun := fun s r x _ _ _ h => frame h rfl rfl rfl
      robotState := fun s r x _ h => frame h rfl rfl rfl
      station := fun s st x _ h => frame h rfl rfl rfl
      accept := fun s a _ _ h => bank _ _ _ (frame (s := s) h rfl rfl rfl)
      skip := fun s l m a _ h => frame h rfl rfl rfl
      leave := fun s l m a _ h => drop _ _ (frame (s := s) h rfl rfl rfl) }
  exact
    { toWorkKept := work
      cleared := fun _ _ _ h => absurd trivial h
      power := power
      forward := forward
      transmit := transmit
      linkChange := linkChange
      enqueue := enqueue
      dequeue := dequeue
      job := fun s j h => mge s _ s.formerNodes rfl h
      nodes := fun s l r h => mge s _ _ rfl h
      bank := fun s id x _ _ h => bank s id x h
      commit := fun s _ h => by
        unfold State.commit
        dsimp only
        split
        · exact device _ _ _ (frame h rfl rfl rfl)
        · exact frame h rfl rfl rfl
      enableRobot := fun s r _ h => frame h rfl rfl rfl
      configRobot := fun s r x _ _ _ h => frame h rfl rfl rfl
      disable := fun s r h => by
        have bypassed : P (forAll (s.list r) State.bypassEntry s) := by
          refine forAll_keep (fun i s h => ?_) _ h
          unfold State.bypassEntry
          split
          · exact h
          · split
            · exact work.endCore _ _ _ _ _ h
            · exact frame h rfl rfl rfl
        exact frame bypassed rfl rfl rfl
      group := fun s g x _ h => frame h rfl rfl rfl
      append := fun s e _ _ _ h => by
        have k := (s.append_leads e).1.2
        exact frame h (congrArg Lif.p1 (k .lif (by simp))) (congrArg Lif.p2 (k .lif (by simp))) (k .mge (by simp))
      insertHead := fun s e _ _ _ h => by
        cases free : s.lowestFree? with
        | none => rwa [State.insertHead_of_none free]
        | some i =>
          rcases State.insertHead_of_some free e with ⟨l, m, _, eq⟩ | ⟨j, m, _, eq⟩
          · rw [eq]; exact frame h rfl rfl rfl
          · rw [eq]; exact frame (withdraw (s.setEntry i (some e)) j e.robot (frame h rfl rfl rfl)) rfl rfl rfl
      reset := fun s h => frame h rfl rfl rfl
      timers := fun s h => frame (mge s { s.mge with job := s.mge.job.map TableJob.tick } s.formerNodes rfl h) rfl rfl rfl }

/-- A condition on the tracker, the robots and the supply groups. -/
theorem of_entries (frame : ∀ {s t : State}, P s → t.dtr = s.dtr → t.rbc = s.rbc → t.spa = s.spa → P t)
    (power : ∀ (s : State) (n : Byte) (t : Half) (a b : Bool), P (s.powerOn n t a b))
    (update : ∀ (s : State) (i : Fin 128) (e x : Entry), s.entry? i = some e → x.robot = e.robot →
      (x.supply = .holding → e.supply = .holding ∨ s.groupOf? e = none) → P s → P (s.setEntry i (some x)))
    (renew : ∀ (s : State) (i : Fin 128) (n : Byte), P s → P (s.setPlace i { s.place i with issue := n }))
    (grant : ∀ (s : State) (g : Fin 8) (i : Fin 128), 0 < s.freeCredits g →
      (∀ e, s.entry? i = some e → s.groupOf? e = some g) → P s → P (s.grant g i))
    (release : ∀ (s : State) (i : Fin 128) (ban : List (Fin 128)), P s → P (s.releaseSupply i ban))
    (free : ∀ (s : State) (i : Fin 128) (r : Fin 64), s.robotOf? i = some r → P s → P (s.free i r))
    (fill : ∀ (s : State) (st : Fin 16) (body : Word) (plans : List Plan), (servingRobots plans).Nodup →
      (∀ r ∈ servingRobots plans,
        (s.robot r).enabled = true ∧ (s.list r).length + s.additions r ≤ Config.maxList) →
      P s → P (forAll plans (State.createFor st body) s))
    (gun : ∀ (s : State) (r : Fin 64) (x : Robot), x.state = (s.robot r).state → x.group = (s.robot r).group →
      (x.wear = (s.robot r).wear ∨ x.wear ≤ Config.maxWear) → P s → P (s.setRobot r x))
    (robotState : ∀ (s : State) (r : Fin 64) (x : RobotState), (x = .disabled ↔ (s.robot r).state = .disabled) →
      P s → P (s.setRobotState r x))
    (enableRobot : ∀ (s : State) (r : Fin 64), (s.robot r).enabled = false → P s → P (s.setRobotState r .idle))
    (configRobot : ∀ (s : State) (r : Fin 64) (x : Robot), (s.robot r).enabled = false → x.enabled = false →
      x.wear = (s.robot r).wear → P s → P (s.setRobot r x))
    (disable : WorkKept (fun _ => True) P → ∀ (s : State) (r : Fin 64), P s →
      P ((forAll (s.list r) State.bypassEntry s).setRobotState r .disabled))
    (group : ∀ (s : State) (g : Fin 8) (x : Group), s.holders g = [] → P s → P (s.setGroup g x))
    (append : ∀ (s : State) (e : Entry), (s.robot e.robot).enabled = true → s.list e.robot = [] → e.supply = .none →
      P s → P (s.append e))
    (insertHead : ∀ (s : State) (e : Entry), (s.robot e.robot).enabled = true →
      (s.list e.robot).length < Config.maxList → e.supply = .none → P s → P (s.insertHead e))
    (reset : ∀ s : State, P s → P s.freeTracker.resetRecords)
    (timers : ∀ s : State, P s → P s.runTimers) : StepKept (fun _ => True) P := by
  have of {s t : State} {l : List Block} (h : P s) (k : s.leads t l) (dtr : .dtr ∉ l := by simp)
      (rbc : .rbc ∉ l := by simp) (spa : .spa ∉ l := by simp) : P t :=
    frame h (k.1.2 .dtr dtr) (k.1.2 .rbc rbc) (k.1.2 .spa spa)
  have work : WorkKept (fun _ => True) P :=
    { aside := fun {s t} h records => by
        simp only [State.records, Prod.mk.injEq] at records
        obtain ⟨_, dtr, rbc, spa, _⟩ := records
        exact frame h dtr rbc spa
      issue := fun s x h => of h (s.issue_leads x)
      update := update
      renew := renew
      grant := grant
      release := release
      free := free
      fill := fill
      gun := gun
      robotState := robotState
      station := fun s st x _ h => of h (s.setStation_leads st x)
      accept := fun s a _ _ h => of h (s.accept_leads _ _)
      skip := fun s l m a _ h => of h (s.setQueue_leads _)
      leave := fun s l m a _ h => of h (s.leave_leads _ _) }
  exact
    { toWorkKept := work
      cleared := fun _ _ _ h => absurd trivial h
      power := power
      forward := fun s id f h => of h (s.forwardFrame_leads id f)
      transmit := fun s id h => of h (s.portTransmit_leads id)
      linkChange := fun s id up h => of h (s.linkUpChange_leads id up)
      enqueue := fun s _ _ h => of h (s.setRequests_leads _)
      dequeue := fun s q _ h => of h (s.setRequests_leads q)
      job := fun s j h => of h (s.job_leads j)
      nodes := fun s l r h => of h (s.nodes_leads l r)
      bank := fun s id x _ _ h => of h (s.setBank_leads id x)
      commit := fun s _ h => of h s.commit_leads
      enableRobot := enableRobot
      configRobot := configRobot
      disable := disable work
      group := group
      append := append
      insertHead := insertHead
      reset := reset
      timers := timers }

/-- A condition on the stations. -/
theorem of_stations {loose : Fin 16 → Prop} (frame : ∀ {s t : State}, P s → t.stc = s.stc → P t)
    (power : ∀ (s : State) (n : Byte) (t : Half) (a b : Bool), P (s.powerOn n t a b))
    (station : ∀ (s : State) (st : Fin 16) (x : Station), (loose st ∨ (s.station st).Follows x) → P s →
      P (s.setStation st x))
    (cleared : ∀ (s : State) (st : Fin 16) (x : Station), ¬ loose st → x.bodyLost = false → x.seatTimer = none →
      x.cycleTimer = none → x.current = none → x.next = none → P (s.setStation st x))
    (reset : ∀ s : State, P s → P s.freeTracker.resetRecords)
    (timers : ∀ s : State, P s → P s.runTimers) : StepKept loose P := by
  have of {s t : State} {l : List Block} (h : P s) (k : s.leads t l) (stc : .stc ∉ l := by simp) : P t :=
    frame h (k.1.2 .stc stc)
  have work : WorkKept loose P :=
    { aside := fun {s t} h records => by
        simp only [State.records, Prod.mk.injEq] at records
        obtain ⟨_, _, _, _, stc⟩ := records
        exact frame h stc
      issue := fun s x h => of h (s.issue_leads x)
      update := fun s i _ _ _ _ _ h => of h (s.setEntry_leads i _)
      renew := fun s i _ h => of h (s.setPlace_leads i _)
      grant := fun s g i _ _ h => of h (s.grant_leads g i)
      release := fun s i ban h => of h (s.releaseSupply_leads i ban)
      free := fun s i r _ h => of h (s.free_leads i r)
      fill := fun s st body plans _ _ h => of h (s.fill_leads st body plans)
      gun := fun s r x _ _ _ h => of h (s.setRobot_leads r x)
      robotState := fun s r x _ h => of h (s.setRobotState_leads r x)
      station := station
      accept := fun s a _ _ h => of h (s.accept_leads _ _)
      skip := fun s l m a _ h => of h (s.setQueue_leads _)
      leave := fun s l m a _ h => of h (s.leave_leads _ _) }
  exact
    { toWorkKept := work
      cleared := cleared
      power := power
      forward := fun s id f h => of h (s.forwardFrame_leads id f)
      transmit := fun s id h => of h (s.portTransmit_leads id)
      linkChange := fun s id up h => of h (s.linkUpChange_leads id up)
      enqueue := fun s _ _ h => of h (s.setRequests_leads _)
      dequeue := fun s q _ h => of h (s.setRequests_leads q)
      job := fun s j h => of h (s.job_leads j)
      nodes := fun s l r h => of h (s.nodes_leads l r)
      bank := fun s id x _ _ h => of h (s.setBank_leads id x)
      commit := fun s _ h => of h s.commit_leads
      enableRobot := fun s r _ h => of h (s.setRobotState_leads r _)
      configRobot := fun s r x _ _ _ h => of h (s.setRobot_leads r x)
      disable := fun s r h => by
        have bypassed : P (forAll (s.list r) State.bypassEntry s) := by
          refine forAll_keep (fun i s h => ?_) _ h
          unfold State.bypassEntry
          split
          · exact h
          · split
            · exact work.endCore _ _ _ _ _ h
            · exact of h (s.free_leads _ _)
        exact of bypassed (State.setRobotState_leads _ _ _)
      group := fun s g x _ h => of h (s.setGroup_leads g x)
      append := fun s e _ _ _ h => of h (s.append_leads e)
      insertHead := fun s e _ _ _ h => of h (s.insertHead_leads e)
      reset := reset
      timers := timers }

end StepKept

end Sys2Proof.Machine
end

section
/-! The conditions on the image, the table store, the queues and the stations: each single write keeps them, and so does
every step (the statements O3, O4, O5 and O7). -/

namespace Sys2Proof.Machine

theorem all_toList_iff {α : Type} {n : Nat} (v : Vector α n) (p : α → Bool) :
    v.toList.all p = true ↔ ∀ i : Fin n, p v[i] = true := by
  simp only [List.all_eq_true, Vector.mem_toList_iff]
  refine ⟨fun h i => h _ (Vector.getElem_mem i.isLt), fun h x hx => ?_⟩
  obtain ⟨i, hi, rfl⟩ := Vector.mem_iff_getElem.mp hx
  exact h ⟨i, hi⟩

/-! ## The reported image (8.4) -/

theorem State.finish_settled (s : State) : s.finish.settled = true := State.comparePoint_settled s.runPass

theorem State.event_settled (s : State) (work : State → State) (h : s.settled = true) : (s.event work).settled = true := by
  unfold State.event
  split
  · exact h
  · exact State.finish_settled _

theorem State.telegram_settled (s : State) (work : State → State) (h : s.settled = true) :
    (s.telegram work).settled = true := by
  unfold State.telegram
  split
  · exact s.event_settled _ h
  · exact h

theorem State.powerOn_image (s : State) (n : Byte) (t : Half) (a b : Bool) :
    (s.powerOn n t a b).image = State.reset.image := State.image_congr rfl rfl rfl

theorem State.reset_settled : State.reset.settled = true := by
  unfold State.settled
  refine decide_eq_true (Vector.ext fun i hi => ?_)
  have idle : State.reset.dressing ⟨i, hi⟩ = false := by
    unfold State.dressing
    rw [List.any_eq_false]
    intro p hp
    have unused : p = {} := by simpa [State.reset] using hp
    simp [unused]
  have off : State.reset.station ⟨i, hi⟩ = {} := by simp [State.station, State.reset]
  have bits (b : Fin 4) : (State.reset.panel ⟨i, hi⟩).bits[b] = {} := by simp [State.panel, State.reset]
  have effective (b : Fin 4) : State.reset.effectiveBit ⟨i, hi⟩ b = State.reset.computedBit ⟨i, hi⟩ b := by
    unfold State.effectiveBit
    simp [bits]
  rw [State.image, getElem_tabulate]
  simp only [State.effectiveByte, effective, State.computedBit, off, idle]
  simp [State.reset, Station.state, bitNumber]

theorem State.powerOn_settled (s : State) (n : Byte) (t : Half) (a b : Bool) : (s.powerOn n t a b).settled = true := by
  have image := s.powerOn_image n t a b
  have reset := State.reset_settled
  unfold State.settled at reset ⊢
  rw [image]
  exact reset

theorem exec_settled {c : Instr} {s t : State} (h : s.settled = true) (ht : exec c s = .next t) : t.settled = true := by
  cases c <;> cases ht
  case powerOn => exact s.powerOn_settled _ _ _ _
  case resetInputAssert => exact h
  case linkUpChange | frameReceive | portTransmit | tick | selectTimerExpiry | seatTimerExpiry | cycleTimerExpiry
    | holdTimerExpiry | tableCopyEnd | tableClearEnd => exact s.event_settled _ h
  all_goals exact s.telegram_settled _ h

/-- Settles O3: an event ends with a point of R171, and what is no event leaves the image and its report as they were. -/
theorem imageReportedKept : Obligations.ImageReportedKept := by
  intro s t h ht
  unfold step at ht
  split at ht
  · cases ht; exact h
  · next rest _ => exact exec_settled (s := { s with pending := rest }) h ht

/-! ## The program tables (2.4) -/

/-- Both program tables are well formed. -/
def State.TablesWf (s : State) : Prop := ∀ id, (s.bank id).Wf

theorem State.tablesWf_iff (s : State) : s.tablesWf = true ↔ s.TablesWf := by
  simp only [State.tablesWf, List.all_cons, List.all_nil, Bool.and_true, Bool.and_eq_true, decide_eq_true_eq]
  refine ⟨fun ⟨a, b⟩ id => ?_, fun h => ⟨h .a, h .b⟩⟩
  cases id with
  | a => exact a
  | b => exact b

theorem State.TablesWf.setBank {s : State} (h : s.TablesWf) {id : BankId} {x : Bank} (hx : x.Wf) :
    (s.setBank id x).TablesWf := by
  intro id'
  rw [State.bank_setBank]
  split
  · exact hx
  · exact h id'

theorem State.bank_congr {s t : State} (h : t.tbs = s.tbs) (id : BankId) : t.bank id = s.bank id := by
  cases id <;> simp [State.bank, h]

theorem State.TablesWf.congr {s t : State} (h : s.TablesWf) (tables : t.tbs = s.tbs) : t.TablesWf := fun id => by
  rw [State.bank_congr tables]; exact h id

theorem State.deviceEvent_tbs (s : State) (e : DeviceEvent) (c : Capture) : (s.deviceEvent e c).tbs = s.tbs :=
  (s.deviceEvent_leads e c).1.2 .tbs (by simp)

theorem State.endDrain_bank (s : State) (id : BankId) : s.endDrain.bank id = s.bank id := by
  unfold State.endDrain
  split
  · rw [State.bank_congr (State.deviceEvent_tbs _ _ _)]; cases id <;> rfl
  · rfl

theorem State.dropStamp_bank (s : State) (id id' : BankId) :
    (s.dropStamp id).bank id' = if id = id' then { s.bank id with stamps := (s.bank id).stamps - 1 } else s.bank id' := by
  unfold State.dropStamp
  rw [State.endDrain_bank, State.bank_setBank]

theorem State.commit_bank (s : State) (id : BankId) : s.commit.bank id = s.bank id := by
  unfold State.commit
  dsimp only
  split
  · rw [State.bank_congr (State.deviceEvent_tbs _ _ _)]; cases id <;> rfl
  · cases id <;> rfl

theorem stepKept_tablesWf : StepKept (fun _ => True) State.TablesWf := by
  have empty (s : State) (h : ∀ id, (s.bank id).programs = []) : s.TablesWf := fun id =>
    ⟨by rw [h id]; rfl, by rw [Bank.recordCount, h id]; exact Nat.zero_le _⟩
  refine StepKept.of_tables (fun h tbs _ => h.congr tbs) (fun s n t a b => empty _ (fun id => by cases id <;> rfl))
    ?accept (fun s l m a _ h => h) ?leave (fun s id x _ wf h => h.setBank (wf h)) ?commit ?reset
  case accept =>
    intro s a _ _ h
    have queued : (s.setQueue (s.arq.queue ++ [a])).TablesWf := h
    exact queued.setBank (by exact h a.stamp)
  case leave =>
    intro s l m a _ h id
    rw [State.dropStamp_bank]
    split
    · exact h a.stamp
    · exact h id
  case commit => exact fun s _ h id => by rw [State.commit_bank]; exact h id
  case reset =>
    intro s h id
    cases id with
    | a => exact h .a
    | b => exact h .b

/-- Settles O5, by the writes of the table store: a record put at a key, or erased, keeps the keys rising, and FULL keeps
their number. -/
theorem tablesWfKept : Obligations.TablesWfKept := by
  intro s t h ht
  rw [State.tablesWf_iff] at h ⊢
  exact stepKept_tablesWf.step h ht

/-! ## The stamp counts (2.6) -/

/-- The stamp counts are those of the queue, and the bank that is not ACTIVE is DRAINING where its count is above 0. -/
structure State.StampsAgree (s : State) : Prop where
  count : ∀ id, (s.bank id).stamps = s.stamped id
  draining : s.tbs.draining = decide (0 < (s.bank s.tbs.active.other).stamps)

theorem State.stampsAgree_iff (s : State) : s.stampsAgree = true ↔ s.StampsAgree := by
  simp only [State.stampsAgree, Bool.and_eq_true, decide_eq_true_eq, beq_iff_eq]
  refine ⟨fun ⟨⟨a, b⟩, d⟩ => ⟨fun id => ?_, d⟩, fun h => ⟨⟨h.count .a, h.count .b⟩, h.draining⟩⟩
  cases id with
  | a => exact a
  | b => exact b

theorem BankId.other_other (id : BankId) : id.other.other = id := by cases id <;> rfl

theorem State.endDrain_draining (s : State) :
    s.endDrain.tbs.draining = (s.tbs.draining && decide ((s.bank s.tbs.active.other).stamps ≠ 0)) := by
  unfold State.endDrain
  split
  · next ended => rw [State.deviceEvent_tbs]; simp [ended.2]
  · next goesOn =>
    cases hd : s.tbs.draining with
    | false => rfl
    | true => simpa [hd] using goesOn

theorem State.endDrain_active (s : State) : s.endDrain.tbs.active = s.tbs.active := by
  unfold State.endDrain
  split
  · rw [State.deviceEvent_tbs]
  · rfl

theorem State.StampsAgree.leave {s : State} {l m : List Arrival} {a : Arrival} (queue : s.arq.queue = l ++ a :: m)
    (h : s.StampsAgree) : ((s.setQueue (l ++ m)).dropStamp a.stamp).StampsAgree := by
  have counted (id : BankId) : s.stamped id = (l ++ m).countP (·.stamp == id) + if a.stamp = id then 1 else 0 := by
    rw [State.stamped, queue, List.countP_append, List.countP_append, List.countP_cons]
    simp only [beq_iff_eq]
    omega
  have stamped (id : BankId) :
      ((s.setQueue (l ++ m)).dropStamp a.stamp).stamped id = (l ++ m).countP (·.stamp == id) := by
    rw [State.stamped, (State.dropStamp_leads _ _).1.2 .arq (by simp), State.queue_setQueue]
  have agree (id : BankId) : (s.bank id).stamps = (l ++ m).countP (·.stamp == id) + if a.stamp = id then 1 else 0 :=
    (h.count id).trans (counted id)
  have count (id : BankId) : (((s.setQueue (l ++ m)).dropStamp a.stamp).bank id).stamps
      = (l ++ m).countP (·.stamp == id) := by
    rw [State.dropStamp_bank]
    split
    · next same => subst same; have := agree a.stamp; simp only [State.setQueue_bank, if_true] at this ⊢; omega
    · next other => have := agree id; simp only [State.setQueue_bank, if_neg other] at this ⊢; omega
  refine ⟨fun id => (count id).trans (stamped id).symm, ?_⟩
  have active : ((s.setQueue (l ++ m)).dropStamp a.stamp).tbs.active = s.tbs.active := by
    unfold State.dropStamp
    rw [State.endDrain_active, State.active_setBank, State.setQueue_tbs]
  have after := count s.tbs.active.other
  have before := agree s.tbs.active.other
  have was := h.draining
  rw [active, after]
  unfold State.dropStamp at after ⊢
  rw [State.endDrain_bank] at after
  rw [State.endDrain_draining, State.draining_setBank, State.active_setBank, State.setQueue_tbs, after, was, before]
  generalize (l ++ m).countP (·.stamp == s.tbs.active.other) = n
  cases n <;> simp

theorem stepKept_stampsAgree : StepKept (fun _ => True) State.StampsAgree := by
  refine StepKept.of_tables ?frame ?power ?accept ?skip (fun s l m a queue h => h.leave queue) ?bank ?commit ?reset
  case frame =>
    intro s t h tbs arq
    refine ⟨fun id => ?_, ?_⟩
    · rw [State.bank_congr tbs, h.count id, State.stamped, State.stamped, arq]
    · rw [State.bank_congr tbs, tbs, h.draining]
  case power => exact fun s n t a b => ⟨fun id => by cases id <;> rfl, rfl⟩
  case accept =>
    intro s a _ stamp h
    have bank (id : BankId) : (((s.setQueue (s.arq.queue ++ [a])).addStamp a.stamp).bank id).stamps
        = (s.bank id).stamps + if a.stamp = id then 1 else 0 := by
      unfold State.addStamp
      rw [State.bank_setBank]
      split
      · next same => subst same; simp
      · rfl
    refine ⟨fun id => ?_, ?_⟩
    · rw [bank, h.count, State.stamped, State.stamped, (State.addStamp_leads _ _).1.2 .arq (by simp),
        State.queue_setQueue, List.countP_append, List.countP_singleton]
      simp only [beq_iff_eq]
    · rw [bank]
      unfold State.addStamp
      rw [State.draining_setBank, State.active_setBank, State.setQueue_tbs, h.draining, stamp]
      simp [BankId.ne_other]
  case skip =>
    intro s l m a queue h
    have stamp : a.skipped.stamp = a.stamp := by unfold Arrival.skipped; split <;> rfl
    refine ⟨fun id => (h.count id).trans ?_, h.draining⟩
    rw [State.stamped, State.stamped, queue, State.queue_setQueue, List.countP_append, List.countP_append,
      List.countP_cons, List.countP_cons, stamp]
  case bank =>
    intro s id x stamps _ h
    have kept (id' : BankId) : ((s.setBank id x).bank id').stamps = (s.bank id').stamps := by
      rw [State.bank_setBank]
      split
      · next same => rw [stamps, same]
      · rfl
    refine ⟨fun id' => ?_, ?_⟩
    · rw [kept, h.count, State.stamped, State.stamped, (State.setBank_leads _ _ _).1.2 .arq (by simp)]
    · rw [kept, State.draining_setBank, State.active_setBank, h.draining]
  case commit =>
    intro s _ h
    have arq : s.commit.arq = s.arq := s.commit_leads.1.2 .arq (by simp)
    have tbs : s.commit.tbs.active = s.tbs.active.other
        ∧ s.commit.tbs.draining = decide (0 < (s.bank s.tbs.active).stamps) := by
      unfold State.commit
      dsimp only
      split
      · rw [State.deviceEvent_tbs]; exact ⟨rfl, rfl⟩
      · exact ⟨rfl, rfl⟩
    refine ⟨fun id => ?_, ?_⟩
    · rw [State.commit_bank, h.count, State.stamped, State.stamped, arq]
    · rw [State.commit_bank, tbs.1, tbs.2, BankId.other_other]
  case reset => exact fun s _ => ⟨fun id => by cases id <;> rfl, by cases h : s.tbs.active <;> simp [State.bank,
      State.resetRecords, State.freeTracker, h, BankId.other]⟩

/-- Settles O4: an arrival that comes or leaves moves the count of its bank with it, a drain ends where the count falls to
0, and TABLE_COMMIT is taken only where the SHADOW bank's count is 0. -/
theorem stampsAgreeKept : Obligations.StampsAgreeKept := by
  intro s t h ht
  rw [State.stampsAgree_iff] at h ⊢
  exact stepKept_stampsAgree.step h ht

/-! ## The stations (7.2, 7.3) -/

theorem State.disabledClear_iff (s : State) : s.disabledClear = true ↔ ∀ st, (s.station st).clear := by
  unfold State.disabledClear
  rw [all_toList_iff]
  refine forall_congr' fun st => ?_
  simp [State.station, Station.clear, and_assoc]

theorem State.slotsInOrder_iff (s : State) : s.slotsInOrder = true ↔ ∀ st, (s.station st).inOrder := by
  unfold State.slotsInOrder
  rw [all_toList_iff]
  refine forall_congr' fun st => ?_
  unfold Station.inOrder State.station
  cases (s.stc.stations[st]).current <;> simp

theorem State.resetRecords_station (s : State) (st : Fin 16) :
    s.resetRecords.station st = { config := (s.station st).config } := by
  simp [State.station, State.resetRecords]

theorem State.runTimers_station (s : State) (st : Fin 16) : s.runTimers.station st = (s.station st).tick := by
  simp [State.station, State.runTimers]

theorem State.powerOn_station (s : State) (n : Byte) (t : Half) (a b : Bool) (st : Fin 16) :
    (s.powerOn n t a b).station st = {} := by
  simp [State.station, State.powerOn, State.reset]

theorem stepKept_clear (q : Fin 16) : StepKept (· ≠ q) (fun s => (s.station q).clear) := by
  refine StepKept.of_stations (fun h stc => by rwa [State.station_congr stc]) ?power ?station ?cleared ?reset ?timers
  case power => exact fun s n t a b => by rw [State.powerOn_station]; exact .inr ⟨rfl, rfl, rfl, rfl, rfl⟩
  case station =>
    intro s st x hx h
    rw [State.station_setStation]
    split
    · next same =>
      subst same
      rcases hx with other | follows
      · exact absurd rfl other
      · exact follows.clear h
    · exact h
  case cleared =>
    intro s st x hst h1 h2 h3 h4 h5
    rw [State.station_setStation, if_pos (not_not.mp hst)]
    exact .inr ⟨h1, h2, h3, h4, h5⟩
  case reset => exact fun s _ => by rw [State.resetRecords_station]; exact .inr ⟨rfl, rfl, rfl, rfl, rfl⟩
  case timers =>
    intro s h
    rw [State.runTimers_station]
    rcases h with h | ⟨h1, h2, h3, h4, h5⟩
    · exact .inl h
    · exact .inr ⟨h1, by simp [Station.tick, h2, countDown], by simp [Station.tick, h3, countDown], h4, h5⟩

theorem stepKept_inOrder (q : Fin 16) : StepKept (· ≠ q) (fun s => (s.station q).inOrder) := by
  refine StepKept.of_stations (fun h stc => by rwa [State.station_congr stc]) ?power ?station ?cleared ?reset ?timers
  case power => exact fun s n t a b => by rw [State.powerOn_station]; exact fun _ => rfl
  case station =>
    intro s st x hx h
    rw [State.station_setStation]
    split
    · next same =>
      subst same
      rcases hx with other | follows
      · exact absurd rfl other
      · exact follows.inOrder h
    · exact h
  case cleared =>
    intro s st x hst _ _ _ _ next
    rw [State.station_setStation, if_pos (not_not.mp hst)]
    exact fun _ => next
  case reset => exact fun s _ => by rw [State.resetRecords_station]; exact fun _ => rfl
  case timers => exact fun s h => by rw [State.runTimers_station]; exact h

/-- Settles O7, station by station: each write of a station's record keeps both conditions, and the taking out of a station,
whose record is not clear on the way, clears it at its end. -/
theorem disabledClearKept : Obligations.DisabledClearKept := by
  refine ⟨fun s t h ht => ?_, fun s t h ht => ?_⟩
  · rw [State.disabledClear_iff] at h ⊢
    exact fun st => (stepKept_clear st).step (h st) ht
  · rw [State.slotsInOrder_iff] at h ⊢
    exact fun st => (stepKept_inOrder st).step (h st) ht

end Sys2Proof.Machine
end

section
/-! The bounds of the queues, the robots' lists and the credits of the supply groups (the statement O6). -/

namespace Sys2Proof.Machine

/-! ## The queues (3.1, 10.1, 10.4) -/

theorem stepKept_arrivals : StepKept (fun _ => True) (fun s => s.arq.queue.length ≤ Config.maxArrivals) := by
  refine StepKept.of_tables (fun h _ arq => by rwa [arq]) (fun s n t a b => Nat.zero_le _) ?accept ?skip ?leave ?bank ?commit
    (fun s _ => Nat.zero_le _)
  case accept =>
    intro s a room _ _
    rw [(State.addStamp_leads _ _).1.2 .arq (by simp), State.queue_setQueue, List.length_append, List.length_singleton]
    exact room
  case skip =>
    intro s l m a queue h
    rw [queue] at h
    simpa using h
  case leave =>
    intro s l m a queue h
    rw [(State.dropStamp_leads _ _).1.2 .arq (by simp), State.queue_setQueue]
    rw [queue] at h
    simp only [List.length_append, List.length_cons] at h ⊢
    omega
  case bank => exact fun s id x _ _ h => by rwa [(State.setBank_leads _ _ _).1.2 .arq (by simp)]
  case commit => exact fun s _ h => by rwa [s.commit_leads.1.2 .arq (by simp)]

/-- The bounds of the ports' stores and of the management queue (R193, R197). -/
structure State.LinkBounded (s : State) : Prop where
  port : ∀ id, (s.lif.port id).own.length ≤ Config.ownStore
  requests : s.mge.queue.length ≤ Config.maxRequests

theorem Port.length_own_give {x : Port} (h : x.own.length ≤ Config.ownStore) (t : Telegram) :
    (x.give t).own.length ≤ Config.ownStore := by
  unfold Port.give
  split
  · next room => simp only [List.length_append, List.length_singleton]; omega
  · exact h

theorem Port.length_own_transmit (x : Port) (f : Telegram → Frame) : (x.transmit f).own.length ≤ x.own.length := by
  unfold Port.transmit
  split
  · next own => simp [own]
  · next own => simp [own]
  · next own => simp [own]
  · next own =>
    split
    · simp [own]
    · simp [own]

theorem State.LinkBounded.setPort {s : State} (h : s.LinkBounded) {id : PortId} {x : Port}
    (hx : x.own.length ≤ Config.ownStore) : State.LinkBounded { s with lif := s.lif.setPort id x } := by
  refine ⟨fun id' => ?_, h.requests⟩
  rw [Lif.port_setPort]
  split
  · exact hx
  · exact h.port id'

theorem stepKept_link : StepKept (fun _ => True) State.LinkBounded := by
  refine StepKept.of_link ?frame ?power ?issue ?forward ?transmit ?linkChange ?enqueue ?dequeue ?mge
  case frame =>
    intro s t h p1 p2 mge
    refine ⟨fun id => ?_, by rw [mge]; exact h.requests⟩
    cases id with
    | p1 => simpa [Lif.port, p1] using h.port .p1
    | p2 => simpa [Lif.port, p2] using h.port .p2
  case power => exact fun s n t a b => ⟨fun id => by cases id <;> exact Nat.zero_le _, Nat.zero_le _⟩
  case issue =>
    intro s x h
    unfold State.issue
    split
    · exact h
    · refine ⟨fun id => ?_, h.requests⟩
      cases id with
      | p1 => exact Port.length_own_give (h.port .p1) x
      | p2 => exact Port.length_own_give (h.port .p2) x
  case forward =>
    intro s id f h
    refine h.setPort ?_
    unfold Port.forwards
    split <;> exact h.port _
  case transmit => exact fun s id h => h.setPort ((Port.length_own_transmit _ _).trans (h.port id))
  case linkChange =>
    intro s id up h
    refine h.setPort ?_
    unfold Port.linkChange
    split
    · exact h.port id
    · exact Nat.zero_le _
  case enqueue =>
    intro s m room h
    refine ⟨h.port, ?_⟩
    rw [State.requests_setRequests, List.length_append, List.length_singleton]
    exact room
  case dequeue => exact fun s q shorter h => ⟨h.port, shorter.trans h.requests⟩
  case mge => exact fun s m n queue h => ⟨h.port, by simpa [queue] using h.requests⟩

theorem State.queuesBounded_iff (s : State) :
    s.queuesBounded = true ↔ s.arq.queue.length ≤ Config.maxArrivals ∧ s.LinkBounded := by
  simp only [State.queuesBounded, Bool.and_eq_true, decide_eq_true_eq]
  refine ⟨fun ⟨⟨⟨a, m⟩, p1⟩, p2⟩ => ⟨a, fun id => ?_, m⟩, fun ⟨a, h⟩ => ⟨⟨⟨a, h.requests⟩, h.port .p1⟩, h.port .p2⟩⟩
  cases id with
  | p1 => exact p1
  | p2 => exact p2

/-! ## The robots' lists (4.1, 4.2) -/

/-- Each list is short and names no index twice, and an index stands on a robot's list where its entry is that robot's. -/
structure State.ListsAgree (s : State) : Prop where
  short : ∀ r, (s.list r).length ≤ Config.maxList
  nodup : ∀ r, (s.list r).Nodup
  mem : ∀ r i, i ∈ s.list r ↔ s.robotOf? i = some r

theorem State.listsAgree_iff (s : State) : s.listsAgree = true ↔ s.ListsAgree := by
  have names (i : Fin 128) (r : Fin 64) : (s.entry? i).any (·.robot == r) = true ↔ s.robotOf? i = some r := by
    unfold State.robotOf?
    cases s.entry? i <;> simp
  simp only [State.listsAgree, allRobots, allIndices, Bool.and_eq_true, List.all_eq_true, List.mem_finRange,
    forall_const, decide_eq_true_eq, names]
  refine ⟨fun ⟨lists, listed⟩ => ⟨fun r => (lists r).1.1, fun r => (lists r).1.2, fun r i => ⟨(lists r).2 i, fun h => ?_⟩⟩,
    fun h => ⟨fun r => ⟨⟨h.short r, h.nodup r⟩, fun i => (h.mem r i).mp⟩, fun i => ?_⟩⟩
  · obtain ⟨e, he, rfl⟩ := Option.map_eq_some_iff.mp h
    simpa [he] using listed i
  · cases he : s.entry? i with
    | none => rfl
    | some e => simpa using (h.mem e.robot i).mpr (State.robotOf?_of_some he)

theorem State.ListsAgree.congr {s t : State} (h : s.ListsAgree) (lists : ∀ r, t.list r = s.list r)
    (robots : ∀ i, t.robotOf? i = s.robotOf? i) : t.ListsAgree :=
  ⟨fun r => by rw [lists]; exact h.short r, fun r => by rw [lists]; exact h.nodup r,
    fun r i => by rw [lists, robots]; exact h.mem r i⟩

theorem State.robotOf?_setEntry (s : State) (i j : Fin 128) (e : Option Entry) :
    (s.setEntry i e).robotOf? j = if i = j then e.map (·.robot) else s.robotOf? j := by
  unfold State.robotOf?
  rw [State.entry_setEntry]
  split <;> rfl

theorem State.robotOf?_setList (s : State) (r : Fin 64) (l : List (Fin 128)) (j : Fin 128) :
    (s.setList r l).robotOf? j = s.robotOf? j := rfl

/-- An index that was free and now holds an entry of a robot, put anywhere into that robot's list. -/
theorem State.ListsAgree.insert {s t : State} (h : s.ListsAgree) {i : Fin 128} {r : Fin 64} {l m : List (Fin 128)}
    (free : s.robotOf? i = none) (list : s.list r = l ++ m) (room : (s.list r).length < Config.maxList)
    (robots : ∀ j, t.robotOf? j = if i = j then some r else s.robotOf? j)
    (lists : ∀ q, t.list q = if r = q then l ++ i :: m else s.list q) : t.ListsAgree := by
  have absent : i ∉ l ++ m := by
    rw [← list, h.mem, free]
    simp
  refine ⟨fun q => ?_, fun q => ?_, fun q j => ?_⟩
  · rw [lists]
    split
    · rw [list] at room
      simp only [List.length_append, List.length_cons] at room ⊢
      omega
    · exact h.short q
  · rw [lists]
    split
    · rw [List.nodup_middle]
      exact List.nodup_cons.mpr ⟨absent, list ▸ h.nodup r⟩
    · exact h.nodup q
  · rw [lists, robots]
    have before := h.mem q j
    split
    · next same =>
      subst same
      rw [list] at before
      split
      · next same => subst same; simp
      · next other => rw [← before]; simp [Ne.symm other]
    · next other =>
      rw [before]
      split
      · next same => subst same; simp [free, other]
      · rfl

theorem State.lowestFree?_free {s : State} {i : Fin 128} (h : s.lowestFree? = some i) : s.entry? i = none := by
  have found := List.find?_some h
  simpa using found

theorem State.append_of_none {s : State} (h : s.lowestFree? = none) (e : Entry) : s.append e = s := by
  rw [State.append, State.create_of_none h]

theorem State.append_of_some {s : State} {i : Fin 128} (h : s.lowestFree? = some i) (e : Entry) :
    s.append e = (s.setEntry i (some e)).setList e.robot (s.list e.robot ++ [i]) := by
  rw [State.append, State.create_of_some h]
  rfl

theorem State.ListsAgree.append {s : State} (h : s.ListsAgree) {e : Entry}
    (room : (s.list e.robot).length < Config.maxList) : (s.append e).ListsAgree := by
  cases free : s.lowestFree? with
  | none => rwa [State.append_of_none free]
  | some i =>
    rw [State.append_of_some free]
    refine h.insert (i := i) (l := s.list e.robot) (m := []) ?_ (by simp) room (fun j => ?_) (fun q => ?_)
    · simp [State.robotOf?, State.lowestFree?_free free]
    · rw [State.robotOf?_setList, State.robotOf?_setEntry]; rfl
    · simp

theorem State.withdraw_robotOf? (s : State) (i : Fin 128) (r : Fin 64) (j : Fin 128) :
    (s.withdraw i r).robotOf? j = s.robotOf? j := by
  have kept := State.modEntry_robotOf? (s.issueToRobot r (.dispatchCancel · (s.tag i))) i
    (f := fun e => { e with state := .queued, reoffered := false, selectTimer := none, supply := .none, holdTimer := none })
    (fun _ => rfl) j
  exact kept.trans (State.robotOf?_congr (State.issue_dtr _ _) j)

theorem State.ListsAgree.insertHead {s : State} (h : s.ListsAgree) {e : Entry}
    (room : (s.list e.robot).length < Config.maxList) : (s.insertHead e).ListsAgree := by
  cases free : s.lowestFree? with
  | none => rwa [State.insertHead_of_none free]
  | some i =>
    have unused : s.robotOf? i = none := by simp [State.robotOf?, State.lowestFree?_free free]
    rcases State.insertHead_of_some free e with ⟨l, m, list, eq⟩ | ⟨j, m, list, eq⟩
    · rw [eq]
      refine h.insert unused list room (fun j => ?_) (fun q => ?_)
      · rw [State.robotOf?_setList, State.robotOf?_setEntry]; rfl
      · simp
    · rw [eq]
      refine h.insert (l := []) (m := j :: m) unused list room (fun j => ?_) (fun q => ?_)
      · rw [State.robotOf?_setList, State.withdraw_robotOf?, State.robotOf?_setEntry]; rfl
      · simp [State.withdraw_list]

theorem State.ListsAgree.free {s : State} (h : s.ListsAgree) {i : Fin 128} {r : Fin 64} (hi : s.robotOf? i = some r) :
    (s.free i r).ListsAgree := by
  have lists (q : Fin 64) : (s.free i r).list q = if r = q then (s.list q).filter (· != i) else s.list q := by
    unfold State.free
    rw [State.callPass_list, State.list_setList]
    split
    · next same => subst same; rfl
    · rfl
  have robots (j : Fin 128) : (s.free i r).robotOf? j = if i = j then none else s.robotOf? j :=
    State.robotOf?_setEntry s i j none
  refine ⟨fun q => ?_, fun q => ?_, fun q j => ?_⟩
  · rw [lists]
    split
    · exact (List.length_filter_le _ _).trans (h.short q)
    · exact h.short q
  · rw [lists]
    split
    · exact (h.nodup q).filter _
    · exact h.nodup q
  · rw [lists, robots]
    have before := h.mem q j
    by_cases freed : i = j
    · subst freed
      split
      · simp
      · next other => rw [before, hi]; simp [other]
    · split
      · simp [before, Ne.symm freed]
      · exact before

theorem State.additions_congr {s t : State} {r : Fin 64} (robot : t.robot r = s.robot r) (list : t.list r = s.list r)
    (entries : ∀ i ∈ s.list r, t.entry? i = s.entry? i) : t.additions r = s.additions r := by
  have projection : t.projection r = s.projection r := by
    unfold State.projection
    rw [list]
    exact List.foldl_ext _ _ _ (fun n i hi => by rw [entries i hi])
  have dress : t.dressListed r = s.dressListed r := by
    unfold State.dressListed
    rw [list, Bool.eq_iff_iff, List.any_eq_true, List.any_eq_true]
    exact exists_congr fun i => and_congr_right fun hi => by rw [entries i hi]
  unfold State.additions State.dressDue
  rw [robot, projection, dress]

theorem State.append_robot (s : State) (e : Entry) (r : Fin 64) : (s.append e).robot r = s.robot r :=
  State.robot_congr ((s.append_leads e).1.2 .rbc (by simp)) r

theorem State.append_list_of_ne (s : State) (e : Entry) {r : Fin 64} (h : e.robot ≠ r) : (s.append e).list r = s.list r := by
  cases free : s.lowestFree? with
  | none => rw [State.append_of_none free]
  | some i => rw [State.append_of_some free]; simp [h]

theorem State.length_list_append (s : State) (e : Entry) :
    ((s.append e).list e.robot).length ≤ (s.list e.robot).length + 1 := by
  cases free : s.lowestFree? with
  | none => rw [State.append_of_none free]; omega
  | some i => rw [State.append_of_some free]; simp

theorem State.append_entry_of_used (s : State) (e : Entry) {j : Fin 128} (h : s.entry? j ≠ none) :
    (s.append e).entry? j = s.entry? j := by
  cases free : s.lowestFree? with
  | none => rw [State.append_of_none free]
  | some i =>
    have other : i ≠ j := fun same => h (same ▸ State.lowestFree?_free free)
    rw [State.append_of_some free]
    simp [other]

theorem State.ListsAgree.additions_append {s : State} (h : s.ListsAgree) {e : Entry} {r : Fin 64} (hr : e.robot ≠ r) :
    (s.append e).additions r = s.additions r := by
  refine State.additions_congr (s.append_robot e r) (s.append_list_of_ne e hr) (fun i hi => s.append_entry_of_used e ?_)
  have used := (h.mem r i).mp hi
  intro free
  simp [State.robotOf?, free] at used

/-- The entries of an allocation, where each may be appended and the lists agree: a dress entry and a weld entry fit where
there is room for the robot's additions, and leave the other robots' as they were. -/
theorem State.ListsAgree.fill {P : State → Prop} (lists : ∀ s, P s → s.ListsAgree)
    (append : ∀ (s : State) (e : Entry), (s.robot e.robot).enabled = true → (s.list e.robot).length < Config.maxList →
      e.supply = .none → P s → P (s.append e)) (st : Fin 16) (body : Word) :
    ∀ (plans : List Plan) (s : State), (servingRobots plans).Nodup →
      (∀ r ∈ servingRobots plans,
        (s.robot r).enabled = true ∧ (s.list r).length + s.additions r ≤ Config.maxList) →
      P s → P (forAll plans (State.createFor st body) s)
  | [], _, _, _, h => h
  | x :: plans, s, nodup, room, h => by
    have next := State.ListsAgree.fill lists append st body plans (State.createFor st body x s)
    unfold servingRobots at nodup room next
    change P (forAll plans (State.createFor st body) (State.createFor st body x s))
    unfold State.createFor at next ⊢
    cases hx : x.robot with
    | none =>
      rw [List.filterMap_cons_none hx] at nodup room
      simp only [hx] at next
      exact next nodup room h
    | some r =>
      rw [List.filterMap_cons_some hx] at nodup room
      obtain ⟨fresh, nodup⟩ := List.nodup_cons.mp nodup
      obtain ⟨enabled, fits⟩ := room r List.mem_cons_self
      simp only [hx] at next ⊢
      have other {q : Fin 64} (hq : q ∈ plans.filterMap (·.robot)) : r ≠ q := fun same => fresh (same ▸ hq)
      have room' (q : Fin 64) (hq : q ∈ plans.filterMap (·.robot)) := room q (List.mem_cons_of_mem _ hq)
      cases due : s.dressDue r with
      | false =>
        simp only [due, Bool.false_eq_true, if_false] at next ⊢
        simp only [State.additions, due, Bool.false_eq_true, if_false] at fits
        refine next nodup (fun q hq => ?_) (append s _ enabled (by exact fits) rfl h)
        rw [State.append_robot, s.append_list_of_ne (weldEntry st body x r) (other hq),
          (lists s h).additions_append (e := weldEntry st body x r) (other hq)]
        exact room' q hq
      | true =>
        simp only [due, if_true] at next ⊢
        simp only [State.additions, due, if_true] at fits
        have dressed : P (s.append (s.dressEntry st body x r)) :=
          append s _ enabled (by change (s.list r).length < _; omega) rfl h
        have length : ((s.append (s.dressEntry st body x r)).list r).length ≤ (s.list r).length + 1 :=
          s.length_list_append (s.dressEntry st body x r)
        refine next nodup (fun q hq => ?_) (append _ _ (by rw [State.append_robot]; exact enabled)
          (by change ((s.append (s.dressEntry st body x r)).list r).length < _; omega) rfl dressed)
        rw [State.append_robot, State.append_robot, State.append_list_of_ne _ (weldEntry st body x r) (other hq),
          s.append_list_of_ne (s.dressEntry st body x r) (other hq),
          (lists _ dressed).additions_append (e := weldEntry st body x r) (other hq),
          (lists s h).additions_append (e := s.dressEntry st body x r) (other hq)]
        exact room' q hq

/-! ## Credits (6.1) -/

/-- A DISABLED robot's list is empty, and no supply group has more holders than its capacity (R98, R116). -/
structure State.CreditsBounded (s : State) : Prop where
  off : ∀ r, (s.robot r).enabled = false → s.list r = []
  credits : ∀ g, (s.holders g).length ≤ (s.group g).capacity

theorem State.creditsBounded_iff (s : State) : s.creditsBounded = true ↔ s.CreditsBounded := by
  simp only [State.creditsBounded, allRobots, Bool.and_eq_true, List.all_eq_true, List.mem_finRange, forall_const,
    decide_eq_true_eq, Bool.or_eq_true, List.isEmpty_iff]
  refine ⟨fun ⟨off, credits⟩ => ⟨fun r hr => ?_, credits⟩, fun h => ⟨fun r => ?_, h.credits⟩⟩
  · simpa [hr] using off r
  · cases hr : (s.robot r).enabled with
    | true => exact .inl rfl
    | false => exact .inr (h.off r hr)

theorem State.mem_holders {s : State} {g : Fin 8} {i : Fin 128} :
    i ∈ s.holders g ↔ ∃ e, s.entry? i = some e ∧ e.supply = .holding ∧ s.groupOf? e = some g := by
  unfold State.holders State.standsIn allIndices
  cases h : s.entry? i <;> simp [h]

theorem State.mem_waiters {s : State} {g : Fin 8} {i : Fin 128} :
    i ∈ s.waiters g ↔ ∃ e, s.entry? i = some e ∧ e.supply = .waiting ∧ s.groupOf? e = some g := by
  unfold State.waiters State.standsIn allIndices
  cases h : s.entry? i <;> simp [h]

theorem State.holders_nodup (s : State) (g : Fin 8) : (s.holders g).Nodup := (List.nodup_finRange 128).filter _

theorem State.length_holders_le {s : State} {g : Fin 8} {l : List (Fin 128)} (h : ∀ i ∈ s.holders g, i ∈ l) :
    (s.holders g).length ≤ l.length := ((s.holders_nodup g).subperm h).length_le

/-- Where no entry becomes a holder and the capacities are kept, the credits stay bounded. -/
theorem State.CreditsBounded.mono {s t : State} (h : s.CreditsBounded)
    (off : ∀ r, (t.robot r).enabled = false → s.list r = [] → (s.robot r).enabled = false → t.list r = [])
    (on : ∀ r, (t.robot r).enabled = (s.robot r).enabled) (group : ∀ g, t.group g = s.group g)
    (holders : ∀ g, ∀ i ∈ t.holders g, i ∈ s.holders g) : t.CreditsBounded :=
  ⟨fun r hr => off r hr (h.off r (by rw [← on]; exact hr)) (by rw [← on]; exact hr),
    fun g => by rw [group]; exact (State.length_holders_le (holders g)).trans (h.credits g)⟩

theorem State.groupOf?_congr {s t : State} {e x : Entry} (robot : x.robot = e.robot)
    (group : (t.robot e.robot).group = (s.robot e.robot).group) : t.groupOf? x = s.groupOf? e := by
  unfold State.groupOf?
  rw [robot, group]

theorem State.issueToRobot_dtr (s : State) (r : Fin 64) (x : Byte → Telegram) : (s.issueToRobot r x).dtr = s.dtr :=
  State.issue_dtr _ _

theorem State.grant_entry (s : State) (g : Fin 8) (i j : Fin 128) :
    (s.grant g i).entry? j = if i = j then
      (s.entry? i).map (fun e => { e with supply := .holding, holdTimer := some ((s.group g).holdLimit + 1) })
      else s.entry? j := by
  unfold State.grant
  split
  · next he =>
    split
    · next same => subst same; simp [he]
    · rfl
  · next e he =>
    dsimp only
    rw [State.entry?_congr (State.issueToRobot_dtr _ _ _), he]
    exact State.entry_setEntry s i j _

theorem State.grant_robot (s : State) (g : Fin 8) (i : Fin 128) (r : Fin 64) : (s.grant g i).robot r = s.robot r :=
  State.robot_congr ((s.grant_leads g i).1.2 .rbc (by simp)) r

/-- A grant adds at most the entry granted to the holders of its group. -/
theorem State.grant_holders (s : State) (g g' : Fin 8) (i : Fin 128)
    (member : ∀ e, s.entry? i = some e → s.groupOf? e = some g) :
    ∀ j ∈ (s.grant g i).holders g', j ∈ s.holders g' ∨ g = g' ∧ j = i := by
  intro j hj
  obtain ⟨x, hx, supply, group⟩ := State.mem_holders.mp hj
  rw [State.groupOf?_congr (s := s) (e := x) rfl (by rw [State.grant_robot])] at group
  rw [State.grant_entry] at hx
  split at hx
  · next same =>
    obtain ⟨e, he, rfl⟩ := Option.map_eq_some_iff.mp hx
    have own : s.groupOf? e = some g' := group
    rw [member e he] at own
    exact .inr ⟨Option.some.inj own, same.symm⟩
  · exact .inl (State.mem_holders.mpr ⟨x, hx, supply, group⟩)

theorem State.grant_group_capacity (s : State) (g g' : Fin 8) (i : Fin 128) :
    ((s.grant g i).group g').capacity = (s.group g').capacity := by
  unfold State.grant
  split
  · rfl
  · rw [State.group_congr ((State.issueToRobot_leads _ _ _).1.2 .spa (by simp)), State.group_setGroup]
    split
    · next same => subst same; rfl
    · rfl

theorem State.CreditsBounded.grant {s : State} (h : s.CreditsBounded) {g : Fin 8} {i : Fin 128}
    (credit : 0 < s.freeCredits g) (member : ∀ e, s.entry? i = some e → s.groupOf? e = some g) :
    (s.grant g i).CreditsBounded := by
  refine ⟨fun r hr => ?_, fun g' => ?_⟩
  · rw [State.grant_robot] at hr
    rw [State.grant_list]
    exact h.off r hr
  · rw [State.grant_group_capacity]
    have new := s.grant_holders g g' i member
    by_cases own : g = g'
    · subst own
      have bound := State.length_holders_le (l := i :: s.holders g) (fun j hj => by
        rcases new j hj with old | ⟨_, rfl⟩
        · exact List.mem_cons_of_mem _ old
        · exact List.mem_cons_self)
      simp only [State.freeCredits, List.length_cons] at credit bound
      omega
    · refine (State.length_holders_le (fun j hj => ?_)).trans (h.credits g')
      rcases new j hj with old | ⟨same, _⟩
      · exact old
      · exact absurd same own

theorem State.lowestRobot?_mem {s : State} {l : List (Fin 128)} {i : Fin 128} (h : s.lowestRobot? l = some i) : i ∈ l := by
  induction l generalizing i with
  | nil => simp [State.lowestRobot?] at h
  | cons j l ih =>
    unfold State.lowestRobot? at h
    split at h
    · simp_all
    · next k hk =>
      split at h
      · simp_all
      · cases h
        exact List.mem_cons_of_mem _ (ih hk)

theorem State.nextWaiter?_mem {s : State} {g : Fin 8} {l : List (Fin 128)} {i : Fin 128}
    (h : s.nextWaiter? g l = some i) : i ∈ l := by
  unfold State.nextWaiter? at h
  split at h
  · exact State.lowestRobot?_mem h
  · rcases Option.or_eq_some_iff.mp h with h | ⟨_, h⟩
    · exact (List.mem_filter.mp (State.lowestRobot?_mem h)).1
    · exact State.lowestRobot?_mem h

/-- The write of an entry by which it holds no credit that it did not hold. -/
theorem State.CreditsBounded.setEntry {s : State} (h : s.CreditsBounded) {i : Fin 128} {x : Option Entry}
    (supply : ∀ y, x = some y → y.supply = .holding → ∀ g, s.groupOf? y = some g → i ∈ s.holders g) :
    (s.setEntry i x).CreditsBounded := by
  refine h.mono (fun r _ empty _ => empty) (fun _ => rfl) (fun _ => rfl) (fun g j hj => ?_)
  obtain ⟨y, hy, holding, group⟩ := State.mem_holders.mp hj
  rw [State.entry_setEntry] at hy
  split at hy
  · next same => subst same; exact supply y hy holding g group
  · exact State.mem_holders.mpr ⟨y, hy, holding, group⟩

theorem State.CreditsBounded.release {s : State} (h : s.CreditsBounded) (i : Fin 128) (ban : List (Fin 128)) :
    (s.releaseSupply i ban).CreditsBounded := by
  unfold State.releaseSupply
  split
  · exact h
  · next e he =>
    dsimp only
    have released : (s.setEntry i (some { e with supply := .none, holdTimer := none })).CreditsBounded :=
      h.setEntry (fun y hy holding => by cases hy; cases holding)
    split
    · next g holding group =>
      unfold State.handOn
      split
      · exact released
      · next j hj =>
        obtain ⟨waits, _⟩ := List.mem_filter.mp (State.nextWaiter?_mem hj)
        obtain ⟨x, hx, _, own⟩ := State.mem_waiters.mp waits
        refine released.grant ?_ (fun y hy => by rw [hx] at hy; cases hy; exact own)
        have held : i ∈ s.holders g := State.mem_holders.mpr ⟨e, he, holding, group⟩
        have fewer : ((s.setEntry i (some { e with supply := .none, holdTimer := none })).holders g).length + 1
            ≤ (s.holders g).length := by
          refine (List.Nodup.subperm (l₁ := i :: _) (List.nodup_cons.mpr ⟨fun hi => ?_, State.holders_nodup _ _⟩)
            (fun k hk => ?_)).length_le
          · obtain ⟨y, hy, holds, _⟩ := State.mem_holders.mp hi
            simp only [State.entry_setEntry, if_true] at hy
            cases hy
            cases holds
          · rcases List.mem_cons.mp hk with rfl | hk
            · exact held
            · obtain ⟨y, hy, holds, own⟩ := State.mem_holders.mp hk
              rw [State.entry_setEntry] at hy
              split at hy
              · cases hy; cases holds
              · exact State.mem_holders.mpr ⟨y, hy, holds, own⟩
        have bound := h.credits g
        change 0 < (s.group g).capacity - _
        omega
    · exact released

/-! ## The end of a robot's entries (5.3) -/

theorem State.free_list (s : State) (i : Fin 128) (r q : Fin 64) :
    (s.free i r).list q = if r = q then (s.list q).filter (· != i) else s.list q := by
  unfold State.free
  rw [State.callPass_list, State.list_setList]
  split
  · next same => subst same; rfl
  · rfl

theorem State.endCore_list {s : State} {i : Fin 128} {e : Entry} (he : s.entry? i = some e) (o : EntryOutcome)
    (d : Option Nat) (ban : List (Fin 128)) (q : Fin 64) :
    (s.endCore i o d ban).list q = if e.robot = q then (s.list q).filter (· != i) else s.list q := by
  simp only [State.endCore, he, State.setRobotState_list, State.free_list]
  rw [State.list_congr ((State.handOutcome_leads _ _ _ _).1.2 .dtr (by simp)), State.list_modEntry,
    State.releaseSupply_list]

theorem State.bypassEntry_list {s : State} {i : Fin 128} {e : Entry} (he : s.entry? i = some e) (q : Fin 64) :
    (State.bypassEntry i s).list q = if e.robot = q then (s.list q).filter (· != i) else s.list q := by
  simp only [State.bypassEntry, he]
  split
  · exact State.endCore_list he _ _ _ _
  · exact s.free_list _ _ _

/-- Once each index of a robot's list has been taken, the list is empty. -/
theorem State.bypassed_list {P : State → Prop} (lists : ∀ s, P s → s.ListsAgree)
    (keep : ∀ i s, P s → P (State.bypassEntry i s)) (r : Fin 64) :
    ∀ (l : List (Fin 128)) (s : State), P s → (∀ i ∈ s.list r, i ∈ l) → (forAll l State.bypassEntry s).list r = []
  | [], s, _, sub => List.eq_nil_iff_forall_not_mem.mpr fun i hi => by simpa using sub i hi
  | i :: l, s, h, sub => by
    refine State.bypassed_list lists keep r l _ (keep i s h) (fun j hj => ?_)
    change j ∈ (State.bypassEntry i s).list r at hj
    have stays (j' : j ∈ s.list r) (ne : j ≠ i) : j ∈ l := (List.mem_cons.mp (sub j j')).resolve_left ne
    cases he : s.entry? i with
    | none =>
      simp only [State.bypassEntry, he] at hj
      refine stays hj (fun same => ?_)
      have used := ((lists s h).mem r j).mp hj
      simp [State.robotOf?, same, he] at used
    | some e =>
      rw [State.bypassEntry_list he] at hj
      split at hj
      · obtain ⟨hj, ne⟩ := List.mem_filter.mp hj
        exact stays hj (by simpa using ne)
      · next other =>
        refine stays hj (fun same => other ?_)
        have used := ((lists s h).mem r j).mp hj
        simpa [State.robotOf?, same, he] using used

theorem bypass_keep {P : State → Prop} (work : WorkKept (fun _ => True) P) (i : Fin 128) (s : State) (h : P s) :
    P (State.bypassEntry i s) := by
  unfold State.bypassEntry
  split
  · exact h
  · next e he =>
    split
    · exact work.endCore _ _ _ _ _ h
    · exact work.free _ _ _ (State.robotOf?_of_some he) h

/-! ## Every step -/

theorem State.freeTracker_reset_list (s : State) (r : Fin 64) : s.freeTracker.resetRecords.list r = [] := by
  simp [State.list, State.resetRecords, State.freeTracker, Dtr.freed]

theorem State.freeTracker_reset_entry (s : State) (i : Fin 128) : s.freeTracker.resetRecords.entry? i = none := by
  simp [State.entry?, State.place, State.resetRecords, State.freeTracker, Dtr.freed]

theorem State.runTimers_entry (s : State) (i : Fin 128) : s.runTimers.entry? i = (s.entry? i).map Entry.tick := by
  simp [State.entry?, State.place, State.runTimers]

theorem State.powerOn_entry (s : State) (n : Byte) (t : Half) (a b : Bool) (i : Fin 128) :
    (s.powerOn n t a b).entry? i = none := by
  simp [State.entry?, State.place, State.powerOn, State.reset]

theorem State.powerOn_list (s : State) (n : Byte) (t : Half) (a b : Bool) (r : Fin 64) :
    (s.powerOn n t a b).list r = [] := by
  simp [State.list, State.powerOn, State.reset]

theorem State.ListsAgree.of_empty {s : State} (lists : ∀ r, s.list r = []) (entries : ∀ i, s.entry? i = none) :
    s.ListsAgree :=
  ⟨fun r => by rw [lists]; exact Nat.zero_le _, fun r => by rw [lists]; exact List.nodup_nil,
    fun r i => by simp [lists, State.robotOf?, entries]⟩

theorem State.CreditsBounded.of_empty {s : State} (lists : ∀ r, s.list r = []) (entries : ∀ i, s.entry? i = none) :
    s.CreditsBounded := by
  refine ⟨fun r _ => lists r, fun g => ?_⟩
  have none : s.holders g = [] := List.eq_nil_iff_forall_not_mem.mpr fun i hi => by
    obtain ⟨e, he, _⟩ := State.mem_holders.mp hi
    simp [entries] at he
  rw [none]
  exact Nat.zero_le _

theorem State.ListsAgree.timers {s : State} (h : s.ListsAgree) : s.runTimers.ListsAgree :=
  h.congr (fun _ => rfl) (fun i => by
    unfold State.robotOf?
    rw [State.runTimers_entry]
    cases s.entry? i <;> rfl)

theorem stepKept_lists : StepKept (fun _ => True) State.ListsAgree := by
  have append (s : State) (e : Entry) (_ : (s.robot e.robot).enabled = true)
      (room : (s.list e.robot).length < Config.maxList) (_ : e.supply = .none) (h : s.ListsAgree) :
      (s.append e).ListsAgree := h.append room
  refine StepKept.of_entries
    (frame := fun h dtr _ _ => h.congr (State.list_congr dtr) (State.robotOf?_congr dtr))
    (power := fun s n t a b => .of_empty (s.powerOn_list n t a b) (s.powerOn_entry n t a b))
    (update := fun s i e x he robot _ h => h.congr (fun _ => rfl) (State.robotOf?_setEntry_of_robot he robot))
    (renew := fun s i n h => h.congr (fun _ => rfl) (fun j => ?renewed))
    (grant := fun s g i _ _ h => h.congr (s.grant_list g i) (s.grant_robotOf? g i))
    (release := fun s i ban h => h.congr (s.releaseSupply_list i ban) (s.releaseSupply_robotOf? i ban))
    (free := fun s i r hi h => h.free hi)
    (fill := fun s st body plans => State.ListsAgree.fill (fun _ h => h) append st body plans s)
    (gun := fun s r x _ _ _ h => h.congr (fun _ => rfl) (fun _ => rfl))
    (robotState := fun s r x _ h => h.congr (fun _ => rfl) (fun _ => rfl))
    (enableRobot := fun s r _ h => h.congr (fun _ => rfl) (fun _ => rfl))
    (configRobot := fun s r x _ _ _ h => h.congr (fun _ => rfl) (fun _ => rfl))
    (disable := fun work s r h => ?disabled)
    (group := fun s g x _ h => h.congr (fun _ => rfl) (fun _ => rfl))
    (append := fun s e _ empty _ h => h.append (by rw [empty]; decide))
    (insertHead := fun s e _ room _ h => h.insertHead room)
    (reset := fun s _ => .of_empty s.freeTracker_reset_list s.freeTracker_reset_entry)
    (timers := fun s h => h.timers)
  case renewed =>
    unfold State.robotOf?
    rw [State.entry_setPlace]
    split
    · next same => subst same; rfl
    · rfl
  case disabled =>
    exact State.ListsAgree.congr (forAll_keep (bypass_keep work) _ h) (fun _ => rfl) (fun _ => rfl)

/-- The lists agree and the credits are bounded. -/
structure State.WorkAgrees (s : State) : Prop where
  lists : s.ListsAgree
  credits : s.CreditsBounded

theorem State.groupOf?_setRobot {s : State} {r : Fin 64} {x : Robot} (group : x.group = (s.robot r).group) (e : Entry) :
    (s.setRobot r x).groupOf? e = s.groupOf? e := by
  refine State.groupOf?_congr rfl ?_
  rw [State.robot_setRobot]
  split
  · next same => subst same; exact group
  · rfl

/-- A write of a robot that keeps its group and whether it is enabled. -/
theorem State.CreditsBounded.setRobot {s : State} (h : s.CreditsBounded) {r : Fin 64} {x : Robot}
    (group : x.group = (s.robot r).group) (on : x.enabled = (s.robot r).enabled) : (s.setRobot r x).CreditsBounded := by
  refine h.mono (fun q _ empty _ => empty) (fun q => ?_) (fun _ => rfl) (fun g i hi => ?_)
  · rw [State.robot_setRobot]
    split
    · next same => subst same; exact on
    · rfl
  · obtain ⟨e, he, holding, own⟩ := State.mem_holders.mp hi
    rw [State.groupOf?_setRobot group] at own
    exact State.mem_holders.mpr ⟨e, he, holding, own⟩

theorem State.CreditsBounded.append {s : State} (h : s.CreditsBounded) {e : Entry}
    (enabled : (s.robot e.robot).enabled = true) (supply : e.supply = .none) : (s.append e).CreditsBounded := by
  cases free : s.lowestFree? with
  | none => rwa [State.append_of_none free]
  | some i =>
    rw [State.append_of_some free]
    have created : (s.setEntry i (some e)).CreditsBounded :=
      h.setEntry (fun y hy holding => (by cases hy; rw [supply] at holding; cases holding))
    refine created.mono (fun r _ empty off => ?_) (fun _ => rfl) (fun _ => rfl) (fun _ _ hj => hj)
    have other : e.robot ≠ r := fun same => by
      subst same
      have : (s.robot e.robot).enabled = false := off
      simp [enabled] at this
    simpa [other] using empty

theorem State.CreditsBounded.congr {s t : State} (h : s.CreditsBounded) (dtr : t.dtr = s.dtr) (rbc : t.rbc = s.rbc)
    (spa : t.spa = s.spa) : t.CreditsBounded := by
  refine h.mono (fun r _ empty _ => (State.list_congr dtr r).trans empty) (fun r => by rw [State.robot_congr rbc])
    (State.group_congr spa) (fun g i hi => ?_)
  obtain ⟨e, he, holding, own⟩ := State.mem_holders.mp hi
  rw [State.entry?_congr dtr] at he
  rw [State.groupOf?_congr (s := s) (e := e) rfl (by rw [State.robot_congr rbc])] at own
  exact State.mem_holders.mpr ⟨e, he, holding, own⟩

theorem State.CreditsBounded.renew {s : State} (h : s.CreditsBounded) (i : Fin 128) (n : Byte) :
    (s.setPlace i { s.place i with issue := n }).CreditsBounded := by
  refine h.mono (fun r _ empty _ => empty) (fun _ => rfl) (fun _ => rfl) (fun g j hj => ?_)
  obtain ⟨e, he, holding, own⟩ := State.mem_holders.mp hj
  rw [State.entry_setPlace] at he
  refine State.mem_holders.mpr ⟨e, ?_, holding, own⟩
  split at he
  · next same => subst same; exact he
  · exact he

theorem State.CreditsBounded.free {s : State} (h : s.CreditsBounded) (i : Fin 128) (r : Fin 64) :
    (s.free i r).CreditsBounded := by
  have gone : (s.setEntry i none).CreditsBounded := h.setEntry (fun y hy => by cases hy)
  refine gone.mono (fun q _ empty _ => ?_) (fun _ => rfl) (fun _ => rfl) (fun _ _ hj => hj)
  have was : s.list q = [] := empty
  rw [State.free_list, was]
  simp

theorem State.CreditsBounded.enable {s : State} (h : s.CreditsBounded) (r : Fin 64) :
    (s.setRobotState r .idle).CreditsBounded := by
  refine ⟨fun q hq => h.off q ?_, fun g => ?_⟩
  · rw [State.robot_setRobotState] at hq
    split at hq
    · cases hq
    · exact hq
  · refine (State.length_holders_le (fun i hi => ?_)).trans (h.credits g)
    obtain ⟨e, he, holding, own⟩ := State.mem_holders.mp hi
    rw [State.setRobotState, State.groupOf?_setRobot (by rfl)] at own
    exact State.mem_holders.mpr ⟨e, he, holding, own⟩

/-- A DISABLED robot has no entries, so that its record may name another group. -/
theorem State.WorkAgrees.configRobot {s : State} (h : s.WorkAgrees) {r : Fin 64} {x : Robot}
    (off : (s.robot r).enabled = false) : (s.setRobot r x).CreditsBounded := by
  refine ⟨fun q hq => h.credits.off q ?_, fun g => ?_⟩
  · rw [State.robot_setRobot] at hq
    split at hq
    · next same => subst same; exact off
    · exact hq
  · refine (State.length_holders_le (fun i hi => ?_)).trans (h.credits.credits g)
    obtain ⟨e, he, holding, own⟩ := State.mem_holders.mp hi
    have entry : s.entry? i = some e := he
    have other : r ≠ e.robot := fun same => by
      have listed := (h.lists.mem e.robot i).mpr (State.robotOf?_of_some entry)
      rw [h.credits.off e.robot (same ▸ off)] at listed
      cases listed
    rw [State.groupOf?_congr (s := s) rfl (by rw [State.robot_setRobot, if_neg other])] at own
    exact State.mem_holders.mpr ⟨e, entry, holding, own⟩

theorem State.WorkAgrees.disable {s : State} (h : s.WorkAgrees) (work : WorkKept (fun _ => True) State.WorkAgrees)
    (r : Fin 64) : ((forAll (s.list r) State.bypassEntry s).setRobotState r .disabled).WorkAgrees := by
  have bypassed := forAll_keep (bypass_keep work) (s.list r) h
  have empty := State.bypassed_list (fun _ h => h.lists) (bypass_keep work) r (s.list r) s h (fun i hi => hi)
  generalize forAll (s.list r) State.bypassEntry s = t at bypassed empty
  refine ⟨bypassed.lists.congr (fun _ => rfl) (fun _ => rfl), fun q hq => ?_, fun g => ?_⟩
  · rw [State.setRobotState_list]
    by_cases same : r = q
    · rw [← same]; exact empty
    · rw [State.robot_setRobotState, if_neg same] at hq
      exact bypassed.credits.off q hq
  · refine (State.length_holders_le (fun i hi => ?_)).trans (bypassed.credits.credits g)
    obtain ⟨e, he, holding, own⟩ := State.mem_holders.mp hi
    rw [State.setRobotState, State.groupOf?_setRobot (by rfl)] at own
    exact State.mem_holders.mpr ⟨e, he, holding, own⟩

theorem State.CreditsBounded.insertHead {s : State} (h : s.CreditsBounded) {e : Entry}
    (on : (s.robot e.robot).enabled = true) (supply : e.supply = .none) : (s.insertHead e).CreditsBounded := by
  have empty {t : State} (hr : ∀ q, (t.robot q).enabled = false → (s.robot q).enabled = false) (q : Fin 64)
      (hq : (t.robot q).enabled = false) : e.robot ≠ q ∧ s.list q = [] :=
    ⟨fun same => (by have off := hr q hq; rw [← same, on] at off; cases off), h.off q (hr q hq)⟩
  cases free : s.lowestFree? with
  | none => rwa [State.insertHead_of_none free]
  | some i =>
    have created : (s.setEntry i (some e)).CreditsBounded :=
      h.setEntry (fun y hy holding => (by cases hy; rw [supply] at holding; cases holding))
    rcases State.insertHead_of_some free e with ⟨l, m, list, eq⟩ | ⟨j, m, list, eq⟩
    · rw [eq]
      refine created.mono (fun q hq was _ => ?_) (fun _ => rfl) (fun _ => rfl) (fun _ _ hj => hj)
      obtain ⟨other, _⟩ := empty (fun q => id) q hq
      simpa [other] using was
    · rw [eq]
      have robot (q : Fin 64) : (((s.setEntry i (some e)).withdraw j e.robot).setList e.robot (i :: j :: m)).robot q
          = if e.robot = q then { s.robot q with state := .idle } else s.robot q := by
        change ((s.setEntry i (some e)).withdraw j e.robot).robot q = _
        by_cases same : e.robot = q
        · unfold State.withdraw
          rw [State.robot_setRobotState, if_pos same, if_pos same, State.modEntry_robot,
            State.robot_congr ((State.issueToRobot_leads _ _ _).1.2 .rbc (by simp)), same]
          rfl
        · rw [State.withdraw_robot_of_ne _ _ same, if_neg same]; rfl
      refine ⟨fun q hq => ?_, fun g => ?_⟩
      · have off : (s.robot q).enabled = false := by
          rw [robot] at hq
          split at hq
          · cases hq
          · exact hq
        obtain ⟨other, was⟩ := empty (t := s) (fun q => id) q off
        rw [State.list_setList, if_neg other, State.withdraw_list]
        exact was
      · rw [show (((s.setEntry i (some e)).withdraw j e.robot).setList e.robot (i :: j :: m)).group g = s.group g from
          State.group_congr (s := s.setEntry i (some e)) ((State.withdraw_leads _ _ _).1.2 .spa (by simp)) g]
        refine (State.length_holders_le (fun k hk => ?_)).trans (created.credits g)
        obtain ⟨x, hx, holding, own⟩ := State.mem_holders.mp hk
        rw [State.groupOf?_congr (s := s) (e := x) rfl (by rw [robot]; split <;> rfl)] at own
        have entry : ((s.setEntry i (some e)).issueToRobot e.robot
            (.dispatchCancel · ((s.setEntry i (some e)).tag j))).entry? k = (s.setEntry i (some e)).entry? k :=
          State.entry?_congr (State.issue_dtr _ _) k
        unfold State.withdraw at hx
        rw [State.entry_setList, State.setRobotState_entry, State.entry_modEntry] at hx
        split at hx
        · obtain ⟨y, _, rfl⟩ := Option.map_eq_some_iff.mp hx
          cases holding
        · rw [entry] at hx
          exact State.mem_holders.mpr ⟨x, hx, holding, own⟩

theorem State.CreditsBounded.timers {s : State} (h : s.CreditsBounded) : s.runTimers.CreditsBounded := by
  refine h.mono (fun q _ empty _ => empty) (fun _ => rfl) (fun _ => rfl) (fun g i hi => ?_)
  obtain ⟨e, he, holding, own⟩ := State.mem_holders.mp hi
  rw [State.runTimers_entry] at he
  obtain ⟨x, hx, rfl⟩ := Option.map_eq_some_iff.mp he
  exact State.mem_holders.mpr ⟨x, hx, holding, own⟩

theorem stepKept_credits : StepKept (fun _ => True) State.WorkAgrees := by
  have lists := stepKept_lists
  have append (s : State) (e : Entry) (on : (s.robot e.robot).enabled = true)
      (room : (s.list e.robot).length < Config.maxList) (supply : e.supply = .none) (h : s.WorkAgrees) :
      (s.append e).WorkAgrees := ⟨h.lists.append room, h.credits.append on supply⟩
  refine StepKept.of_entries
    (frame := fun h dtr rbc spa =>
      ⟨h.lists.congr (State.list_congr dtr) (State.robotOf?_congr dtr), h.credits.congr dtr rbc spa⟩)
    (power := fun s n t a b => ⟨.of_empty (s.powerOn_list n t a b) (s.powerOn_entry n t a b),
      .of_empty (s.powerOn_list n t a b) (s.powerOn_entry n t a b)⟩)
    (update := fun s i e x he robot supply h => ⟨lists.update s i e x he robot supply h.lists, h.credits.setEntry ?updated⟩)
    (renew := fun s i n h => ⟨lists.renew s i n h.lists, h.credits.renew i n⟩)
    (grant := fun s g i credit member h => ⟨lists.grant s g i credit member h.lists, h.credits.grant credit member⟩)
    (release := fun s i ban h => ⟨lists.release s i ban h.lists, h.credits.release i ban⟩)
    (free := fun s i r hi h => ⟨h.lists.free hi, h.credits.free i r⟩)
    (fill := fun s st body plans => State.ListsAgree.fill (fun _ h => h.lists) append st body plans s)
    (gun := fun s r x state group wear h => ⟨lists.gun s r x state group wear h.lists, h.credits.setRobot group ?gun⟩)
    (robotState := fun s r x same h => ⟨lists.robotState s r x same h.lists, h.credits.setRobot rfl ?state⟩)
    (enableRobot := fun s r off h => ⟨lists.enableRobot s r off h.lists, h.credits.enable r⟩)
    (configRobot := fun s r x off still wear h =>
      ⟨lists.configRobot s r x off still wear h.lists, h.configRobot off⟩)
    (disable := fun work s r h => h.disable work r)
    (group := fun s g x unused h => ⟨lists.group s g x unused h.lists, h.credits.off, fun g' => ?grouped⟩)
    (append := fun s e on empty supply h => append s e on (by rw [empty]; decide) supply h)
    (insertHead := fun s e on room supply h => ⟨h.lists.insertHead room, h.credits.insertHead on supply⟩)
    (reset := fun s _ => ⟨.of_empty s.freeTracker_reset_list s.freeTracker_reset_entry,
      .of_empty s.freeTracker_reset_list s.freeTracker_reset_entry⟩)
    (timers := fun s h => ⟨h.lists.timers, h.credits.timers⟩)
  case updated =>
    intro y hy holding g own
    cases hy
    rw [State.groupOf?_congr (s := s) robot rfl] at own
    rcases supply holding with held | outside
    · exact State.mem_holders.mpr ⟨e, he, held, own⟩
    · rw [outside] at own
      cases own
  case gun => rw [Robot.enabled, Robot.enabled, state]
  case state =>
    rw [Bool.eq_iff_iff]
    simp only [Robot.enabled, bne_iff_ne, ne_eq]
    exact not_congr same
  case grouped =>
    rw [State.group_setGroup]
    change (s.holders g').length ≤ _
    split
    · next same => rw [← same, unused]; exact Nat.zero_le _
    · exact h.credits.credits g'

/-- Settles O6, from the three conditions over a step; the credits are kept beside the lists, which say where the entries of
a DISABLED robot and of a group stand. -/
theorem queuesBoundedKept : Obligations.QueuesBoundedKept := by
  refine ⟨fun s t h ht => ?_, fun s t h ht => ?_, fun s t lists credits ht => ?_⟩
  · rw [State.queuesBounded_iff] at h ⊢
    exact ⟨stepKept_arrivals.step h.1 ht, stepKept_link.step h.2 ht⟩
  · rw [State.listsAgree_iff] at h ⊢
    exact stepKept_lists.step h ht
  · rw [State.listsAgree_iff] at lists
    rw [State.creditsBounded_iff] at credits ⊢
    exact (stepKept_credits.step ⟨lists, credits⟩ ht).credits

end Sys2Proof.Machine
end

section
/-! What an event does around its own work: when the part takes one, which operations call for an allocation pass (3.3), and
the end of an event at which no arrival can be allocated (8.4). -/

namespace Sys2Proof.Machine

/-! ## Ready parts -/

theorem State.ready_iff (s : State) : s.ready = true ↔ s.lif.inReset = false ∧ s.lif.node?.isSome = true := by
  simp [State.ready]

theorem State.event_of_running {s : State} (h : s.lif.inReset = false) (work : State → State) :
    s.event work = (work s.begin).finish := by
  simp [State.event, h]

theorem State.event_of_ready {s : State} (h : s.ready = true) (work : State → State) :
    s.event work = (work s.begin).finish := State.event_of_running (s.ready_iff.mp h).1 work

theorem State.telegram_of_ready {s : State} (h : s.ready = true) (work : State → State) :
    s.telegram work = (work s.begin).finish := by
  obtain ⟨running, node⟩ := s.ready_iff.mp h
  rw [State.telegram, if_pos node, State.event_of_running running]

/-! ## Operations that call for no pass (R50) -/

@[simp] theorem State.issue_passDue (s : State) (x : Telegram) : (s.issue x).passDue = s.passDue := by
  unfold State.issue
  split <;> rfl

@[simp] theorem State.issueToLine_passDue (s : State) (x : Byte → Telegram) :
    (s.issueToLine x).passDue = s.passDue := by
  unfold State.issueToLine
  split
  · rfl
  · exact s.issue_passDue _

@[simp] theorem State.issueToRobot_passDue (s : State) (r : Fin 64) (x : Byte → Telegram) :
    (s.issueToRobot r x).passDue = s.passDue := s.issue_passDue _

@[simp] theorem State.report_passDue (s : State) (d : Bool) (n : Fin 8) (c : Capture) :
    (s.report d n c).passDue = s.passDue := by
  unfold State.report
  split
  · rfl
  · exact s.issue_passDue _

@[simp] theorem State.stationEvent_passDue (s : State) (st : Fin 16) (e : StationEvent) (r : Option (Fin 64))
    (b : Option Word) : (s.stationEvent st e r b).passDue = s.passDue := by
  unfold State.stationEvent
  dsimp only
  split <;> simp

@[simp] theorem State.deviceEvent_passDue (s : State) (e : DeviceEvent) (c : Capture) :
    (s.deviceEvent e c).passDue = s.passDue := by
  unfold State.deviceEvent
  dsimp only
  split <;> simp

@[simp] theorem State.offerCounter_passDue (s : State) (e : CounterEvent) (d : Nat) (a : Attributes) (k : Fin 8) :
    (s.offerCounter e d a k).passDue = s.passDue := by
  unfold State.offerCounter State.increase
  dsimp only
  split
  · split
    · rw [State.deviceEvent_passDue]; rfl
    · rfl
  · rfl

@[simp] theorem State.count_passDue (s : State) (e : CounterEvent) (d : Nat) (a : Attributes) :
    (s.count e d a).passDue = s.passDue :=
  foldl_keep (P := fun t => t.passDue = s.passDue) (fun k t h => (t.offerCounter_passDue e d a k).trans h) _ rfl

@[simp] theorem State.comparePoint_passDue (s : State) : s.comparePoint.passDue = s.passDue := by
  unfold State.comparePoint State.sendImage State.imageReported
  split
  · rfl
  · exact s.issueToLine_passDue _

@[simp] theorem State.updateStation_passDue (s : State) (st : Fin 16) (x : Station) :
    (s.updateStation st x).passDue = s.passDue := by
  unfold State.updateStation
  dsimp only
  split <;> simp

@[simp] theorem State.checkCompletion_passDue (s : State) (st : Fin 16) :
    (s.checkCompletion st).passDue = s.passDue := by
  unfold State.checkCompletion
  dsimp only
  split
  · rfl
  · split <;> simp

@[simp] theorem State.dropStale_passDue (s : State) (node : Byte) (tag : Tag) :
    (s.dropStale node tag).passDue = s.passDue := by simp [State.dropStale]

@[simp] theorem State.sendSelect_passDue (s : State) (i : Fin 128) : (s.sendSelect i).passDue = s.passDue := by
  unfold State.sendSelect
  split <;> simp

@[simp] theorem State.refuseArrival_passDue (s : State) (seq : Half) (st : Option (Fin 16)) (body : Word)
    (r : AckReason) : (s.refuseArrival seq st body r).passDue = s.passDue := by simp [State.refuseArrival]

@[simp] theorem State.grant_passDue (s : State) (g : Fin 8) (i : Fin 128) : (s.grant g i).passDue = s.passDue := by
  unfold State.grant
  split
  · rfl
  · exact State.issueToRobot_passDue _ _ _

@[simp] theorem State.releaseSupply_passDue (s : State) (i : Fin 128) (ban : List (Fin 128)) :
    (s.releaseSupply i ban).passDue = s.passDue := by
  unfold State.releaseSupply State.handOn
  split
  · rfl
  · dsimp only
    split
    · split
      · rfl
      · exact State.grant_passDue _ _ _
    · rfl

/-! ## The end of an event without a pass -/

/-- A state at whose end no arrival is judged: no pass is called for, or no arrival waits. -/
def State.calm (s : State) : Prop := s.passDue = false ∨ s.arq.queue = []

theorem State.calm_of_queue {s t : State} {l : List Block} (h : s.leads t l) (empty : s.arq.queue = [])
    (arq : .arq ∉ l := by simp) : t.calm :=
  .inr ((congrArg Arq.queue (h.1.2 .arq arq)).trans empty)

theorem State.runPass_of_calm {s : State} (h : s.calm) : s.runPass = { s with passDue := false } := by
  by_cases due : s.passDue
  · have empty := h.resolve_left (by simp [due])
    simp [State.runPass, due, empty, passWalk]
  · rw [Bool.not_eq_true] at due
    rw [State.runPass_of_not_due due, ← due]

/-- A state after the comparison of images with the effective image: the one that it was, or with the image reported. -/
theorem State.comparePoint_piu (s : State) :
    s.comparePoint.piu = { s.piu with reported := s.image } := by
  unfold State.comparePoint State.sendImage State.imageReported
  split
  · next same => rw [same]
  · rw [(s.issueToLine_leads _).1.2 .piu (by simp)]
    rw [State.image_congr ((s.issueToLine_leads _).1.2 .stc (by simp)) ((s.issueToLine_leads _).1.2 .dtr (by simp))
      (congrArg Piu.panels ((s.issueToLine_leads _).1.2 .piu (by simp)))]

/-- What the end of an event without a pass does: the comparison of images, and the event's marks are taken back. -/
theorem State.finish_of_calm {s : State} (h : s.calm) :
    s.finish = { ({ s with passDue := false } : State).comparePoint with formerNodes := none } := by
  rw [State.finish, State.runPass_of_calm h]

/-- The same, where the image is as reported: nothing but the event's marks. -/
theorem State.finish_of_calm_settled {s : State} (h : s.calm) (settled : s.settled = true) :
    s.finish = { s with passDue := false, formerNodes := none } := by
  rw [State.finish_of_calm h]
  have still : ({ s with passDue := false } : State).settled = true := settled
  rw [State.comparePoint_of_settled still]

/-- The end of an event without a pass changes no record but the reported image and the ports' stores. -/
theorem State.finish_keeps_of_calm {s : State} (h : s.calm) : s.keeps s.finish [.lif, .piu] := by
  rw [State.finish_of_calm h]
  have k := ({ s with passDue := false } : State).comparePoint_leads.1
  exact ⟨k.1, fun b hb => by
    have g := k.2 b (fun hl => hb (by simpa [or_comm] using hl))
    cases b <;> exact g⟩

theorem State.finish_piu_of_calm {s : State} (h : s.calm) : s.finish.piu = { s.piu with reported := s.image } := by
  rw [State.finish_of_calm h]
  exact ({ s with passDue := false } : State).comparePoint_piu

/-- Where the image is as reported the end of an event without a pass issues nothing and keeps every record. -/
theorem State.finish_keeps_of_calm_settled {s : State} (h : s.calm) (settled : s.settled = true) :
    s.keeps s.finish [] ∧ s.finish.issued = s.issued := by
  rw [State.finish_of_calm_settled h settled]
  exact ⟨⟨rfl, fun b _ => by cases b <;> rfl⟩, rfl⟩

theorem State.finish_image_of_calm {s : State} (h : s.calm) : s.finish.image = s.image :=
  State.image_congr ((s.finish_keeps_of_calm h).2 .stc (by simp)) ((s.finish_keeps_of_calm h).2 .dtr (by simp))
    (by rw [State.finish_piu_of_calm h])

theorem State.finish_reported_of_calm {s : State} (h : s.calm) : s.finish.piu.reported = s.finish.image := by
  rw [State.finish_piu_of_calm h, State.finish_image_of_calm h]

/-- What was issued before the end of an event stands first. -/
theorem State.finish_issued (s : State) : s.issued <+: s.finish.issued := s.finish_leads.2.1

end Sys2Proof.Machine
end

section
/-! The robots' records over the work of an event: which robots are DISABLED, and the gun wear (the statements O8 and O56). -/

namespace Sys2Proof.Machine

/-! ## Conditions on the robots' records -/

/-- A condition on the robots that the passes keep where a write of a robot's state, which makes no robot DISABLED and none
leave DISABLED, does. -/
theorem PassKept.of_robots {P : State → Prop} (frame : ∀ {s t : State}, P s → t.rbc = s.rbc → P t)
    (robotState : ∀ (s : State) (r : Fin 64) (x : RobotState), (x = .disabled ↔ (s.robot r).state = .disabled) →
      P s → P (s.setRobotState r x)) : PassKept (fun _ => True) P := by
  have of {s t : State} {l : List Block} (h : P s) (k : s.leads t l) (rbc : .rbc ∉ l := by simp) : P t :=
    frame h (k.1.2 .rbc rbc)
  exact
    { aside := fun {s t} h records => by
        simp only [State.records, Prod.mk.injEq] at records
        obtain ⟨_, _, rbc, _⟩ := records
        exact frame h rbc
      issue := fun s x h => of h (s.issue_leads x)
      update := fun s i _ _ _ _ _ h => of h (s.setEntry_leads i _)
      renew := fun s i _ h => of h (s.setPlace_leads i _)
      grant := fun s g i _ _ h => of h (s.grant_leads g i)
      release := fun s i ban h => of h (s.releaseSupply_leads i ban)
      free := fun s i r _ h => of h (s.free_leads i r)
      fill := fun s st body plans _ _ h => of h (s.fill_leads st body plans)
      robotState := robotState
      station := fun s st x _ h => of h (s.setStation_leads st x)
      skip := fun s l m a _ h => of h (s.setQueue_leads _)
      leave := fun s l m a _ h => of h (s.leave_leads _ _) }

/-- A condition on the robots that the work of telegrams and timers keeps. -/
theorem WorkKept.of_robots {P : State → Prop} (frame : ∀ {s t : State}, P s → t.rbc = s.rbc → P t)
    (gun : ∀ (s : State) (r : Fin 64) (x : Robot), x.state = (s.robot r).state → x.group = (s.robot r).group →
      (x.wear = (s.robot r).wear ∨ x.wear ≤ Config.maxWear) → P s → P (s.setRobot r x))
    (robotState : ∀ (s : State) (r : Fin 64) (x : RobotState), (x = .disabled ↔ (s.robot r).state = .disabled) →
      P s → P (s.setRobotState r x)) : WorkKept (fun _ => True) P :=
  { PassKept.of_robots frame robotState with
    gun := gun
    accept := fun s a _ _ h => frame h ((s.accept_leads _ _).1.2 .rbc (by simp)) }

/-! ## DISABLED robots (5.2) -/

theorem workKept_disabled (r : Fin 64) : WorkKept (fun _ => True) (fun s => (s.robot r).state = .disabled) := by
  refine WorkKept.of_robots (fun h rbc => by rwa [State.robot_congr rbc]) (fun s q x state _ _ h => ?_)
    (fun s q x same h => ?_)
  · rw [State.robot_setRobot]
    split
    · next here => subst here; exact state.trans h
    · exact h
  · rw [State.robot_setRobotState]
    split
    · next here => subst here; exact same.mpr h
    · exact h

/-- Settles O8: the work of these telegrams and timers writes a robot's state only so that DISABLED stays DISABLED. -/
theorem disabledRobotStays : Obligations.DisabledRobotStays := by
  intro s t r h c among ht
  have w := workKept_disabled r
  cases c <;> first | exact among.elim | cases ht
  case bodyArrive => exact w.telegram _ (fun t ht => w.bodyArrive t _ _ _ _ ht) h
  case stationInputs => exact w.telegram _ (fun t ht => w.stationInputs t _ _ ht) h
  case selEcho => exact w.telegram _ (fun t ht => w.selEcho t _ _ _ _ ht) h
  case cycleStart => exact w.telegram _ (fun t ht => w.cycleStart t _ _ ht) h
  case weldReq => exact w.telegram _ (fun t ht => w.weldReq t _ _ ht) h
  case weldFree => exact w.telegram _ (fun t ht => w.weldFree t _ _ ht) h
  case weldDone => exact w.telegram _ (fun t ht => w.weldDone t _ _ _ _ ht) h
  case selectTimerExpiry => exact w.event _ (fun t ht => w.selectExpiry t _ ht) h
  case seatTimerExpiry => exact w.event _ (fun t ht => w.seatExpiry t _ ht) h
  case cycleTimerExpiry => exact w.event _ (fun t ht => w.cycleExpiry t _ ht) h
  case holdTimerExpiry => exact w.event _ (fun t ht => w.holdExpiry t _ ht) h

/-! ## Live entries (4.10) -/

theorem below?_eq_some {n : Nat} {b : Byte} {i : Fin n} : below? n b = some i ↔ b.toNat = i := by
  unfold below?
  split
  · next h => simp [Fin.ext_iff]
  · next h => simp only [reduceCtorEq, false_iff]; omega

theorem State.tag_index (s : State) (i : Fin 128) : below? 128 (s.tag i).index = some i := by
  rw [below?_eq_some]
  have := i.isLt
  simp only [State.tag, BitVec.toNat_ofNat]
  omega

/-- A robot telegram names the live entry of its tag. -/
theorem State.named?_of_live {s : State} {node : Byte} {tag : Tag} {i : Fin 128} {e : Entry} {states : List EntryState}
    (h : s.live node tag i e states) {fits : EntryState → Bool} (hf : ∀ x ∈ states, fits x = true) :
    s.named? node tag fits = some (i, e) := by
  obtain ⟨entry, rfl, robot, state⟩ := h
  have issue : (s.tag i).issue = (s.place i).issue := rfl
  simp [State.named?, s.tag_index, entry, issue, robot, hf _ state]

/-- A robot telegram whose tag names no live entry names none. -/
theorem State.named?_of_not_live {s : State} {node : Byte} {tag : Tag} {states : List EntryState}
    (h : ∀ (i : Fin 128) (e : Entry), ¬ s.live node tag i e states) {fits : EntryState → Bool}
    (hf : ∀ x, fits x = true → x ∈ states) : s.named? node tag fits = none := by
  unfold State.named?
  split
  · rfl
  · next i hi =>
    split
    · rfl
    · next e he =>
      refine if_neg fun ⟨issue, robot, state⟩ => h i e ⟨he, ?_, robot, hf _ state⟩
      obtain ⟨index, number⟩ := tag
      have : index = BitVec.ofNat 8 i := by
        rw [← below?_eq_some.mp hi]
        simp
      simp only [State.tag, ← this, issue]

/-! ## Gun wear (1.9) -/

theorem State.wearBounded_iff (s : State) : s.wearBounded = true ↔ ∀ r, (s.robot r).wear ≤ Config.maxWear := by
  unfold State.wearBounded
  rw [all_toList_iff]
  simp [State.robot]

/-- A write of one robot under which a condition on every robot's gun wear stays. -/
theorem State.forall_setRobot {p : Fin 64 → Robot → Prop} {s : State} (h : ∀ q, p q (s.robot q)) {r : Fin 64} {x : Robot}
    (hx : p r x) : ∀ q, p q ((s.setRobot r x).robot q) := by
  intro q
  rw [State.robot_setRobot]
  split
  · next same => subst same; exact hx
  · exact h q

theorem stepKept_wear : StepKept (fun _ => True) (fun s => ∀ r, (s.robot r).wear ≤ Config.maxWear) := by
  have frame {s t : State} (h : ∀ r, (s.robot r).wear ≤ Config.maxWear) (rbc : t.rbc = s.rbc) :
      ∀ r, (t.robot r).wear ≤ Config.maxWear := fun r => by rw [State.robot_congr rbc]; exact h r
  have of {s t : State} {l : List Block} (h : ∀ r, (s.robot r).wear ≤ Config.maxWear) (k : s.leads t l)
      (rbc : .rbc ∉ l := by simp) : ∀ r, (t.robot r).wear ≤ Config.maxWear := frame h (k.1.2 .rbc rbc)
  have state (s : State) (r : Fin 64) (x : RobotState) (h : ∀ r, (s.robot r).wear ≤ Config.maxWear) :
      ∀ q, ((s.setRobotState r x).robot q).wear ≤ Config.maxWear :=
    State.forall_setRobot (p := fun _ x => x.wear ≤ Config.maxWear) h (h r)
  refine StepKept.of_entries (fun h _ rbc _ => frame h rbc) (fun s n t a b r => ?power)
    (fun s i _ _ _ _ _ h => of h (s.setEntry_leads i _)) (fun s i _ h => of h (s.setPlace_leads i _))
    (fun s g i _ _ h => of h (s.grant_leads g i)) (fun s i ban h => of h (s.releaseSupply_leads i ban))
    (fun s i r _ h => of h (s.free_leads i r)) (fun s st body plans _ _ h => of h (s.fill_leads st body plans))
    (fun s r x _ _ wear h => State.forall_setRobot (p := fun _ x => x.wear ≤ Config.maxWear) h ?gun)
    (fun s r x _ h => state s r x h) (fun s r _ h => state s r _ h)
    (fun s r x _ _ wear h => State.forall_setRobot (p := fun _ x => x.wear ≤ Config.maxWear) h (wear ▸ h r))
    (fun work s r h => state _ _ _ (forAll_keep (bypass_keep work) _ h)) (fun s g x _ h => of h (s.setGroup_leads g x))
    (fun s e _ _ _ h => of h (s.append_leads e)) ?insert ?reset (fun s h => of h s.runTimers_leads)
  case power => simp [State.robot, State.powerOn, State.reset]
  case gun =>
    rcases wear with kept | bounded
    · exact kept ▸ h r
    · exact bounded
  case insert =>
    intro s e _ _ _ h
    cases free : s.lowestFree? with
    | none => rwa [State.insertHead_of_none free]
    | some i =>
      rcases State.insertHead_of_some free e with ⟨l, m, _, eq⟩ | ⟨j, m, _, eq⟩
      · rw [eq]; exact frame h rfl
      · rw [eq]
        have sent := of (s := s.setEntry i (some e)) h (State.issueToRobot_leads _ e.robot
          (.dispatchCancel · ((s.setEntry i (some e)).tag j)))
        exact state (State.modEntry _ j _) e.robot .idle sent
  case reset =>
    intro s h r
    have kept : (s.freeTracker.resetRecords.robot r).wear = (s.robot r).wear := by
      simp [State.robot, State.resetRecords, State.freeTracker]
    rw [kept]
    exact h r

/-- Offers and passes keep every gun wear. -/
theorem passKept_wear (w : Fin 64 → Nat) : PassKept (fun _ => True) (fun s => ∀ q, (s.robot q).wear = w q) := by
  refine PassKept.of_robots (fun h rbc q => by rw [State.robot_congr rbc]; exact h q) (fun s r x _ h => ?_)
  exact State.forall_setRobot (p := fun q x => x.wear = w q) h (h r)

theorem State.count_robot (s : State) (e : CounterEvent) (n : Nat) (a : Attributes) (r : Fin 64) :
    (s.count e n a).robot r = s.robot r := State.robot_congr ((s.count_leads e n a).1.2 .rbc (by simp)) r

theorem State.releaseSupply_robot (s : State) (i : Fin 128) (ban : List (Fin 128)) (r : Fin 64) :
    (s.releaseSupply i ban).robot r = s.robot r :=
  State.robot_congr ((s.releaseSupply_leads i ban).1.2 .rbc (by simp)) r

theorem State.stationEvent_robot (s : State) (st : Fin 16) (e : StationEvent) (q : Option (Fin 64)) (b : Option Word)
    (r : Fin 64) : (s.stationEvent st e q b).robot r = s.robot r :=
  State.robot_congr ((s.stationEvent_leads st e q b).1.2 .rbc (by simp)) r

theorem State.setRobotState_wear (s : State) (r q : Fin 64) (x : RobotState) :
    ((s.setRobotState r x).robot q).wear = (s.robot q).wear := by
  rw [State.robot_setRobotState]
  split
  · next same => subst same; rfl
  · rfl

/-- The handing-on of an outcome makes the gun wear 0 at a DRESS entry that ends OK, and leaves it otherwise. -/
theorem State.handOutcome_wear (s : State) (e : Entry) (o : EntryOutcome) (d : Option Nat) (q : Fin 64) :
    ((s.handOutcome e o d).robot q).wear
      = if e.kind = .dress ∧ o = .ok ∧ e.robot = q then 0 else (s.robot q).wear := by
  unfold State.handOutcome
  split
  · next kind =>
    rw [State.robot_congr ((s.handWeld_leads e o d).1.2 .rbc (by simp)), if_neg (by simp [kind])]
  · next kind =>
    unfold State.handDress
    cases o <;> simp only [kind, State.count_robot, State.stationEvent_robot, State.robot_setRobot, true_and,
      reduceCtorEq, false_and, if_false]
    split <;> rfl
  · next kind =>
    have noted : ((s.setRobot e.robot { s.robot e.robot with maint := some ⟨o, e.program, d⟩ }).robot q).wear
        = (s.robot q).wear := by
      rw [State.robot_setRobot]
      split
      · next same => subst same; rfl
      · rfl
    unfold State.handMaint
    cases o <;> simp only [kind, State.count_robot, noted, reduceCtorEq, false_and, if_false]

theorem State.endCore_wear {s : State} {i : Fin 128} {e : Entry} (he : s.entry? i = some e) (o : EntryOutcome)
    (d : Option Nat) (ban : List (Fin 128)) (q : Fin 64) :
    ((s.endCore i o d ban).robot q).wear
      = if e.kind = .dress ∧ o = .ok ∧ e.robot = q then 0 else (s.robot q).wear := by
  simp only [State.endCore, he, State.setRobotState_wear]
  rw [State.robot_congr ((State.free_leads _ _ _).1.2 .rbc (by simp)), State.handOutcome_wear, State.modEntry_robot,
    State.releaseSupply_robot]

theorem reportOutcome_eq_ok (kind : EntryKind) (expected d : Nat) (fault : Bool) :
    reportOutcome kind expected d fault = .ok ↔ kind = .dress ∧ fault = false := by
  unfold reportOutcome
  cases kind <;> simp <;> (repeat' split) <;> simp

/-- The entry at an index keeps what the supply arbiter does not write. -/
theorem State.releaseSupply_entry_self {s : State} {i : Fin 128} {e : Entry} (he : s.entry? i = some e)
    (ban : List (Fin 128)) :
    ∃ supply timer, (s.releaseSupply i ban).entry? i = some { e with supply := supply, holdTimer := timer } := by
  have put : (s.setEntry i (some { e with supply := .none, holdTimer := none })).entry? i
      = some { e with supply := .none, holdTimer := none } := by simp [State.entry_setEntry]
  unfold State.releaseSupply State.handOn
  simp only [he]
  split
  · split
    · exact ⟨_, _, put⟩
    · next g _ _ j _ =>
      rw [State.grant_entry]
      split
      · next same =>
        subst same
        rw [put]
        exact ⟨_, _, rfl⟩
      · exact ⟨_, _, put⟩
  · exact ⟨_, _, put⟩

theorem State.count_entry (s : State) (e : CounterEvent) (n : Nat) (a : Attributes) (i : Fin 128) :
    (s.count e n a).entry? i = s.entry? i := State.entry?_congr ((s.count_leads e n a).1.2 .dtr (by simp)) i

/-- The gun wear after a WELD_DONE of a live entry: raised by the report, or 0 after a dress that ends OK. -/
theorem State.weldDone_wear {s : State} {node : Byte} {tag : Tag} {i : Fin 128} {e : Entry} {count : Half} {status : Byte}
    (live : s.live node tag i e [.selected, .welding]) (q : Fin 64) :
    ((s.weldDone node tag count status).robot q).wear
      = if e.robot = q then (if e.kind = .dress ∧ status = 0 then 0
          else addWear (s.robot q).wear (clampReport count.toNat)) else (s.robot q).wear := by
  have named := State.named?_of_live live (fits := fun x => x == .selected || x == .welding) (by simp)
  have first (c : Prop) [Decidable c] (t : State) (ht : t.rbc = s.rbc ∧ t.dtr = s.dtr) (a : Attributes) :
      (if c then t.count .clampedReports 1 a else t).rbc = s.rbc
        ∧ (if c then t.count .clampedReports 1 a else t).dtr = s.dtr := by
    have k := (t.count_leads .clampedReports 1 a).1.2
    split
    · exact ⟨(k .rbc (by simp)).trans ht.1, (k .dtr (by simp)).trans ht.2⟩
    · exact ht
  simp only [State.weldDone, named]
  obtain ⟨rbc, dtr⟩ := first (Config.maxCount < count.toNat) s ⟨rfl, rfl⟩ (s.entryAttributes e)
  generalize (if Config.maxCount < count.toNat then s.count .clampedReports 1 (s.entryAttributes e) else s) = u at rbc dtr
  obtain ⟨supply, timer, hx⟩ := State.releaseSupply_entry_self ((State.entry?_congr dtr i).trans live.1) []
  set v := ((u.releaseSupply i []).setRobot e.robot { (u.releaseSupply i []).robot e.robot with
    wear := addWear ((u.releaseSupply i []).robot e.robot).wear (clampReport count.toNat) }).count .weldsReported
      (clampReport count.toNat) (s.entryAttributes e) with hv
  have worn : (v.robot q).wear
      = if e.robot = q then addWear (s.robot q).wear (clampReport count.toNat) else (s.robot q).wear := by
    rw [hv, State.count_robot, State.robot_setRobot]
    simp only [State.releaseSupply_robot, State.robot_congr rbc]
    split
    · next here => rw [here]
    · rfl
  have entry : v.entry? i = some { e with supply := supply, holdTimer := timer } := by
    rw [hv, State.count_entry]
    exact hx
  rw [State.endEntry, entry]
  have offered := (passKept_wear _).attemptOffer _ e.robot
    (fun r => (State.endCore_wear entry (reportOutcome e.kind e.expected (clampReport count.toNat) (status != 0))
      (some (clampReport count.toNat)) [] r)) q
  refine offered.trans ?_
  simp only [worn, reportOutcome_eq_ok]
  by_cases here : e.robot = q
  · by_cases dress : e.kind = .dress
    · simp [here, dress]
    · simp [here, dress]
  · simp [here]

/-- Settles O56: the wear is raised by the report and cleared by a dress that ends OK, the offers and the pass behind them
write none, and every write stays in the range. -/
theorem gunWear : Obligations.GunWear := by
  refine ⟨fun s node tag count status ready => ⟨fun i e live => ?_, fun none => ?_⟩, fun s t h ht => ?_⟩
  · refine ⟨_, congrArg Host.Outcome.next (State.telegram_of_ready ready _), ?_⟩
    have after (q : Fin 64) : (((s.begin.weldDone node tag count status).finish).robot q).wear
        = if e.robot = q then (if e.kind = .dress ∧ status = 0 then 0
          else addWear (s.robot q).wear (clampReport count.toNat)) else (s.robot q).wear :=
      (passKept_wear _).finish (s.begin.weldDone node tag count status)
        (fun q => State.weldDone_wear (s := s.begin) live q) q
    refine ⟨?_, fun q hq => ?_⟩
    · exact (after e.robot).trans (if_pos rfl)
    · exact (after q).trans (if_neg (Ne.symm hq))
  · refine ⟨_, congrArg Host.Outcome.next (State.telegram_of_ready ready _), ?_⟩
    have named : s.begin.named? node tag (fun x => x == .selected || x == .welding) = Option.none :=
      State.named?_of_not_live (s := s.begin) (states := [.selected, .welding]) none (by simp)
    have stale : s.begin.weldDone node tag count status = s.begin.dropStale node tag := by
      simp only [State.weldDone, named]
    rw [stale]
    have calm : (s.begin.dropStale node tag).calm := .inl (State.dropStale_passDue _ _ _)
    exact ((State.finish_keeps_of_calm calm).2 .rbc (by simp)).trans ((s.begin.dropStale_leads node tag).1.2 .rbc (by simp))
  · rw [State.wearBounded_iff] at h ⊢
    exact stepKept_wear.step h ht

end Sys2Proof.Machine
end

section
/-! The step, power-on, the reset input and a part without a node (the statements O1, O2 and O43). -/

namespace Sys2Proof.Machine

/-- Settles O1: both clauses are the two cases of `step`. -/
theorem stepRunsFrontCommand : Obligations.StepRunsFrontCommand := ⟨fun _ _ _ => rfl, fun _ => rfl⟩

/-! ## Power-on (R203) -/

section
variable (st : Fin 16) (r : Fin 64) (i : Fin 128) (g : Fin 8) (id : BankId)

theorem reset_bank : State.reset.bank id = {} := by cases id <;> rfl

theorem reset_place : State.reset.place i = {} := by simp [State.place, State.reset]

theorem reset_list : State.reset.list r = [] := by simp [State.list, State.reset]

theorem reset_robot : State.reset.robot r = {} := by simp [State.robot, State.reset]

theorem reset_group : State.reset.group g = {} := by simp [State.group, State.reset]

theorem reset_station : State.reset.station st = {} := by simp [State.station, State.reset]

theorem reset_panel : State.reset.panel st = {} := by simp [State.panel, State.reset]

theorem reset_stationStatus (n : Fin 8) : State.reset.stationStatus st n = {} := by
  simp [State.stationStatus, State.reset]

theorem reset_deviceStatus (n : Fin 8) : State.reset.deviceStatus n = {} := by simp [State.deviceStatus, State.reset]

theorem reset_counter : State.reset.counter g = {} := by simp [State.counter, State.reset]

end

/-- The conditions between events hold right after power-on; each is evaluated on that one state. -/
theorem reset_conditions :
    State.reset.settled ∧ State.reset.stampsAgree ∧ State.reset.tablesWf ∧ State.reset.queuesBounded
      ∧ State.reset.wearBounded ∧ State.reset.disabledClear ∧ State.reset.listsAgree ∧ State.reset.creditsBounded
      ∧ State.reset.slotsInOrder := by
  decide +kernel

/-- Settles O2: the records are the default ones. -/
theorem resetValues : Obligations.ResetValues := by
  refine ⟨⟨rfl, rfl, fun id => ?banks, rfl, reset_place, reset_list, reset_robot, reset_group, reset_station,
    fun st => ?panels, reset_stationStatus, reset_deviceStatus, reset_counter, rfl, rfl, rfl, rfl, rfl⟩,
    reset_conditions⟩
  case banks =>
    rw [reset_bank]
    exact ⟨rfl, rfl, fun i => by simp⟩
  case panels =>
    rw [reset_panel]
    exact ⟨rfl, rfl, rfl, by simp [State.reset], fun b => by simp⟩

/-! ## The reset input and the node number (R191, R192) -/

theorem Lif.node?_eq (l : Lif) :
    l.node? = if 1 ≤ l.nodeStraps.toNat ∧ l.nodeStraps.toNat ≤ 254 then some l.nodeStraps else none := by
  have usable : usableNode l.nodeStraps = true ↔ 1 ≤ l.nodeStraps.toNat ∧ l.nodeStraps.toNat ≤ 254 := by
    simp only [usableNode, Config.broadcast, Bool.and_eq_true, bne_iff_ne, ne_eq]
    bv_omega
  simp [Lif.node?, usable]

theorem State.event_of_inReset {s : State} (h : s.lif.inReset = true) (work : State → State) : s.event work = s := by
  simp [State.event, h]

theorem State.telegram_of_no_node {s : State} (h : s.lif.node? = none) (work : State → State) :
    s.telegram work = s := by
  simp [State.telegram, h]

theorem State.telegram_of_inReset {s : State} (h : s.lif.inReset = true) (work : State → State) :
    s.telegram work = s := by
  rw [State.telegram, State.event_of_inReset h, ite_self]

/-- Every command with a source node is the event of a telegram taken in. -/
theorem exec_of_source {c : Instr} (h : c.source?.isSome) (s : State) :
    ∃ work, exec c s = .next (s.telegram work) := by
  cases c <;> first | exact ⟨_, rfl⟩ | cases h

/-- Every command without a source node but POWER_ON and the reset input is an event. -/
theorem exec_of_no_source {c : Instr} (h : c.source? = none) (reset : c ≠ .resetInputAssert)
    (power : ∀ n ty u1 u2, c ≠ .powerOn n ty u1 u2) (s : State) : ∃ work, exec c s = .next (s.event work) := by
  cases c <;> first | exact ⟨_, rfl⟩ | exact absurd rfl reset | exact absurd rfl (power _ _ _ _) | cases h

/-- Settles O43: with the reset input asserted there is no event, and without a node no telegram. -/
theorem powerAndReset : Obligations.PowerAndReset := by
  refine ⟨fun _ _ _ _ _ => rfl, Lif.node?_eq, fun _ => rfl, fun s c inReset reset power => ?_, fun s c noNode source => ?_⟩
  · cases source : c.source? with
    | none =>
      obtain ⟨work, eq⟩ := exec_of_no_source source reset power s
      rw [eq, State.event_of_inReset inReset]
    | some n =>
      obtain ⟨work, eq⟩ := exec_of_source (c := c) (by simp [source]) s
      rw [eq, State.telegram_of_inReset inReset]
  · obtain ⟨work, eq⟩ := exec_of_source source s
    rw [eq, State.telegram_of_no_node noNode]

end Sys2Proof.Machine
end

section
/-! Program resolution: the composition of a record, its expected count, and the style match (the statements O11 and O12). -/

namespace Sys2Proof.Machine

/-! ## The composed program value (R12) -/

theorem ProgramRecord.getLsbD_options_of_not_mask {x : ProgramRecord} {n : Nat} (h : x.mask.getLsbD n = false) (hn : n < 8)
    (b : Word) : (x.options b).getLsbD n = false := by
  have bit : (x.options b &&& ~~~x.mask).getLsbD n = (0 : Byte).getLsbD n := by rw [x.options_and_not_mask b]
  simpa only [BitVec.getLsbD_and, BitVec.getLsbD_not, hn, h, decide_true, Bool.not_false, Bool.and_true, BitVec.getLsbD_zero,
    BitVec.ofNat_eq_ofNat] using bit

theorem ProgramRecord.getLsbD_compose (x : ProgramRecord) (b : Word) {n : Nat} (hn : n < 8) :
    (x.compose b).getLsbD n = if x.mask.getLsbD n then (x.options b).getLsbD n else x.program.getLsbD n := by
  simp only [ProgramRecord.compose, BitVec.getLsbD_or, BitVec.getLsbD_and, BitVec.getLsbD_not, hn, decide_true, Bool.true_and]
  cases mask : x.mask.getLsbD n with
  | true => simp only [Bool.not_true, Bool.and_false, Bool.false_or, if_true]
  | false => simp [ProgramRecord.getLsbD_options_of_not_mask mask hn]

theorem ProgramRecord.work?_of_zero {x : ProgramRecord} {b : Word} (h : x.compose b = 0) : x.work? b = none := if_pos h

theorem ProgramRecord.work?_of_ne_zero {x : ProgramRecord} {b : Word} (h : x.compose b ≠ 0) :
    x.work? b = some ⟨x.compose b, x.expectedFor b⟩ := if_neg h

theorem ProgramRecord.compose_of_no_overlay {x : ProgramRecord} (h : x.overlay = none) (b : Word) :
    x.compose b = x.program := by
  rw [ProgramRecord.compose, ProgramRecord.mask_of_no_overlay h, ProgramRecord.options_of_no_overlay h]
  exact ((BitVec.or_zero).trans (congrArg _ BitVec.not_zero)).trans BitVec.and_allOnes

theorem byte_eq_zero_iff (x : Byte) : x = 0 ↔ ∀ n, n < 8 → x.getLsbD n = false := by
  constructor
  · rintro rfl n _
    simp
  · intro h
    exact BitVec.eq_of_getLsbD_eq fun n hn => by simpa using h n hn

/-- The value is 0 where no program bit lies outside the mask and no option bit is set. -/
theorem ProgramRecord.compose_eq_zero_iff (x : ProgramRecord) (b : Word) :
    x.compose b = 0 ↔ (∀ n, n < 8 → x.program.getLsbD n → x.mask.getLsbD n) ∧ x.options b = 0 := by
  simp only [byte_eq_zero_iff]
  constructor
  · intro zero
    refine ⟨fun n hn program => ?_, fun n hn => ?_⟩
    · have bit := zero n hn
      rw [x.getLsbD_compose b hn] at bit
      by_contra clear
      simp [clear, program] at bit
    · have bit := zero n hn
      rw [x.getLsbD_compose b hn] at bit
      split at bit
      · exact bit
      · next clear => exact ProgramRecord.getLsbD_options_of_not_mask (by simpa using clear) hn b
  · rintro ⟨covered, options⟩ n hn
    rw [x.getLsbD_compose b hn]
    split
    · exact options n hn
    · next clear =>
      by_contra program
      exact clear (covered n hn (by simpa using program))

/-! ## The expected count (R13) -/

/-- The sum of the deltas whose bit is set. -/
theorem foldl_adders (l : List Adder) (options : Byte) (start : Int) :
    l.foldl (fun n a => if options.getLsbD a.bit then n + a.delta else n) start
      = start + ((l.filter (fun a => options.getLsbD a.bit)).map (·.delta)).sum := by
  induction l generalizing start with
  | nil => simp
  | cons a l ih =>
    rw [List.foldl_cons, ih]
    cases set : options.getLsbD a.bit <;> simp [set, Int.add_assoc]

theorem ProgramRecord.expectedFor_eq (x : ProgramRecord) (b : Word) :
    x.expectedFor b
      = limitCount (x.expected + ((x.adders.filter (fun a => (x.options b).getLsbD a.bit)).map (·.delta)).sum) := by
  rw [ProgramRecord.expectedFor, foldl_adders]

theorem limitCount_eq (n : Int) :
    (n < 0 → limitCount n = 0) ∧ (1023 < n → limitCount n = 1023) ∧ (0 ≤ n → n ≤ 1023 → (limitCount n : Int) = n) := by
  simp only [limitCount, Config.maxCount]
  omega

/-- A sum of deltas in -64..63 lies between -64 and 63 a pair. -/
theorem sum_deltas_bounds (l : List Adder) (h : ∀ a ∈ l, -64 ≤ a.delta ∧ a.delta ≤ 63) :
    -64 * (l.length : Int) ≤ (l.map (·.delta)).sum ∧ (l.map (·.delta)).sum ≤ 63 * (l.length : Int) := by
  induction l with
  | nil => simp
  | cons a l ih =>
    have first := h a (by simp)
    have rest := ih fun x hx => h x (by simp [hx])
    simp only [List.map_cons, List.sum_cons, List.length_cons]
    omega

/-- Settles O11: the value bit by bit, and the count as a limited sum. -/
theorem composition : Obligations.Composition := by
  refine ⟨fun x b => ⟨fun n hn => x.getLsbD_compose b hn, ProgramRecord.work?_of_zero,
    fun nonzero => ⟨_, ProgramRecord.work?_of_ne_zero nonzero, rfl⟩,
    fun plain => ProgramRecord.compose_of_no_overlay plain b, x.compose_eq_zero_iff b⟩, fun x b total htotal => ?_⟩
  have count : x.expectedFor b = limitCount total := by rw [x.expectedFor_eq, htotal]
  obtain ⟨low, high, inside⟩ := limitCount_eq total
  rw [count]
  refine ⟨low, high, inside, fun plain small => ?_, fun small few deltas => ?_, fun w hw => ?_⟩
  · simp only [plain, List.filter_nil, List.map_nil, List.sum_nil] at htotal
    omega
  · have bounds := sum_deltas_bounds (x.adders.filter (fun a => (x.options b).getLsbD a.bit))
      fun a ha => deltas a (List.mem_filter.mp ha).1
    have fewer := List.length_filter_le (fun a => (x.options b).getLsbD a.bit) x.adders
    omega
  · by_cases zero : x.compose b = 0
    · rw [ProgramRecord.work?_of_zero zero] at hw
      cases hw
    · rw [ProgramRecord.work?_of_ne_zero zero] at hw
      cases hw
      exact count

/-! ## The style match (R7, R8) -/

theorem StylePlace.matchesKey_iff (p : StylePlace) (k : Word) (st : Fin 16) :
    p.matchesKey k st = true ↔ p.valid ∧ k &&& p.care = p.value ∧ p.stations.getLsbD st := by
  simp [StylePlace.matchesKey, and_assoc]

/-- The lowest matching place gives the style. -/
theorem Bank.styleMatch_of_lowest {x : Bank} {k : Word} {st : Fin 16} {i : Fin 128}
    (here : (x.styles[i]).matchesKey k st = true) (before : ∀ j : Fin 128, j < i → (x.styles[j]).matchesKey k st = false) :
    x.styleMatch k st = some (x.styles[i]).style := by
  have found : x.styles.toList.find? (·.matchesKey k st) = some x.styles[i] := by
    refine List.find?_eq_some_iff_getElem.mpr ⟨here, i, by simp, by simp, fun j hj => ?_⟩
    simpa using before ⟨j, by omega⟩ hj
  rw [Bank.styleMatch, found, Option.map_some]

theorem Bank.styleMatch_of_none {x : Bank} {k : Word} {st : Fin 16}
    (none : ∀ j : Fin 128, (x.styles[j]).matchesKey k st = false) : x.styleMatch k st = .none := by
  have missed : x.styles.toList.find? (·.matchesKey k st) = .none := by
    refine List.find?_eq_none.mpr fun p hp => ?_
    obtain ⟨j, hj, rfl⟩ := List.getElem_of_mem hp
    simpa using none ⟨j, by simpa using hj⟩
  rw [Bank.styleMatch, missed, Option.map_none]

theorem resolve_of_match {c : StationConfig} {x : Bank} {st : Fin 16} {b : Word} {sy : Fin 64}
    (h : x.styleMatch (key c b) st = some sy) :
    resolve c x st b = ⟨some sy, tabulate 8 (fun p => x.work? st p sy b)⟩ := by
  simp [resolve, h]

theorem resolve_of_no_match {c : StationConfig} {x : Bank} {st : Fin 16} {b : Word}
    (h : x.styleMatch (key c b) st = none) : resolve c x st b = ⟨none, tabulate 8 (fun _ => none)⟩ := by
  simp [resolve, h]

/-- Settles O12: the match is the first place that matches, and the works are those of the records at the style's keys. -/
theorem styleMatchAndRecords : Obligations.StyleMatchAndRecords := by
  refine ⟨fun x k st i here before => ?_, fun x k st none => ?_, fun c x st b none => ?_, fun c x st b sy found => ?_⟩
  · exact Bank.styleMatch_of_lowest ((StylePlace.matchesKey_iff _ _ _).mpr here) fun j hj => by
      rw [← Bool.not_eq_true, StylePlace.matchesKey_iff]
      exact before j hj
  · exact Bank.styleMatch_of_none fun j => by
      rw [← Bool.not_eq_true, StylePlace.matchesKey_iff]
      exact none j
  · rw [resolve_of_no_match none]
    exact ⟨rfl, fun p => by simp⟩
  · rw [resolve_of_match found]
    exact ⟨rfl, fun p => by simp [Bank.work?, programKey]⟩

end Sys2Proof.Machine
end

section
/-! The output bits and the comparison of images, and the occurrences of events (the statements O30 and O35). -/

namespace Sys2Proof.Machine

/-! ## Output bits (R166, R167, R171) -/

theorem State.dressing_iff (s : State) (st : Fin 16) :
    s.dressing st = true
      ↔ ∃ (i : Fin 128) (e : Entry), s.entry? i = some e ∧ e.kind = .dress ∧ e.state = .welding ∧ e.station = st := by
  simp only [State.dressing, List.any_eq_true, Option.any_eq_true, Bool.and_eq_true, beq_iff_eq, Vector.mem_toList_iff,
    Vector.mem_iff_getElem, State.entry?, State.place]
  constructor
  · rintro ⟨_, ⟨i, hi, rfl⟩, e, he, ⟨kind, state⟩, station⟩
    exact ⟨⟨i, hi⟩, e, he, kind, state, station⟩
  · rintro ⟨i, e, he, kind, state, station⟩
    exact ⟨_, ⟨i, i.isLt, rfl⟩, e, he, ⟨kind, state⟩, station⟩

theorem State.image_getElem (s : State) (st : Fin 16) : s.image[st] = s.effectiveByte st := by
  simp [State.image]

/-- The four effective values stand in the low bits of a station's byte. -/
theorem State.getLsbD_effectiveByte (s : State) (st : Fin 16) :
    (∀ b : Fin 4, (s.effectiveByte st).getLsbD b = s.effectiveBit st b)
      ∧ ∀ n, 4 ≤ n → (s.effectiveByte st).getLsbD n = false := by
  unfold State.effectiveByte
  generalize s.effectiveBit st = bit
  have low : ∀ b0 b1 b2 b3 : Bool, ∀ n : Fin 8,
      (BitVec.ofNat 8 (bitNumber b0 1 + bitNumber b1 2 + bitNumber b2 4 + bitNumber b3 8)).getLsbD n
        = if n = 0 then b0 else if n = 1 then b1 else if n = 2 then b2 else if n = 3 then b3 else false := by decide
  refine ⟨fun b => ?_, fun n hn => ?_⟩
  · have at_b := low (bit 0) (bit 1) (bit 2) (bit 3) ⟨b, by omega⟩
    rw [at_b]
    match b with
    | 0 => rfl
    | 1 => rfl
    | 2 => rfl
    | 3 => rfl
  · by_cases short : n < 8
    · have at_n := low (bit 0) (bit 1) (bit 2) (bit 3) ⟨n, short⟩
      rw [at_n]
      simp only [Fin.ext_iff]
      have : (0 : Fin 8).val = 0 ∧ (1 : Fin 8).val = 1 ∧ (2 : Fin 8).val = 2 ∧ (3 : Fin 8).val = 3 := by decide
      rw [if_neg (by omega), if_neg (by omega), if_neg (by omega), if_neg (by omega)]
    · exact BitVec.getLsbD_of_ge _ _ (by omega)

/-! ## The comparison of images (R171, R172) -/

theorem State.sendImage_of_no_line {s : State} (h : s.lineInUse = 0) :
    s.sendImage = { s with piu := { s.piu with reported := s.image } } := by
  simp [State.sendImage, State.issueToLine, h, State.imageReported]

theorem State.issue_piu (s : State) (x : Telegram) : (s.issue x).piu = s.piu := (s.issue_leads x).1.2 .piu (by simp)

theorem State.issue_image (s : State) (x : Telegram) : (s.issue x).image = s.image :=
  State.image_congr ((s.issue_leads x).1.2 .stc (by simp)) ((s.issue_leads x).1.2 .dtr (by simp))
    (congrArg Piu.panels (s.issue_piu x))

theorem State.sendImage_of_line {s : State} (h : s.lineInUse ≠ 0) :
    s.sendImage = { s.issue (.stationOutputs s.lineInUse s.image) with piu := { s.piu with reported := s.image } } := by
  rw [State.sendImage, State.issueToLine, if_neg h, State.imageReported, State.issue_image, State.issue_piu]

/-- Settles O30: each bit by its definition, and the three cases of a comparison. -/
theorem outputImage : Obligations.OutputImage := by
  refine ⟨fun s st => ⟨?released, ?held, ?dressing, ?disabled, fun b free => ?free, fun b forced => ?forced,
    fun b => ?bit, fun n hn => ?high⟩, fun s => ⟨fun same => ?same, fun differ line => ?noLine, fun differ line => ?line⟩⟩
  case released => simp [State.computedBit, Option.any_eq_true]
  case held => simp [State.computedBit]
  case dressing => rw [← s.dressing_iff st]; rfl
  case disabled => simp [State.computedBit]
  case free => rw [State.effectiveBit, if_neg (by simpa using free)]
  case forced => rw [State.effectiveBit, if_pos (by simpa using forced)]
  case bit => rw [s.image_getElem]; exact (s.getLsbD_effectiveByte st).1 b
  case high => rw [s.image_getElem]; exact (s.getLsbD_effectiveByte st).2 n hn
  case same => exact if_pos same
  case noLine => rw [State.comparePoint, if_neg differ, State.sendImage_of_no_line line]
  case line => rw [State.comparePoint, if_neg differ, State.sendImage_of_line line]

/-! ## Event statuses (R177, R178) -/

theorem State.setStationStatus_self {s : State} {st : Fin 16} {n : Fin 8} {x : Status} (h : s.stationStatus st n = x) :
    s.setStationStatus st n x = s := by
  subst h
  simp [State.setStationStatus, State.stationStatus]

theorem State.stationEvent_of_set {s : State} {st : Fin 16} {e : StationEvent}
    (h : (s.stationStatus st (stationEventNumber e)).set = true) (r : Option (Fin 64)) (b : Option Word) :
    s.stationEvent st e r b = s := by
  simp only [State.stationEvent, Status.raise, Status.reports, h, if_true, Bool.not_true, Bool.false_and,
    Bool.false_eq_true, if_false]
  exact State.setStationStatus_self rfl

theorem State.stationEvent_of_clear {s : State} {st : Fin 16} {e : StationEvent}
    (h : (s.stationStatus st (stationEventNumber e)).set = false) (r : Option (Fin 64)) (b : Option Word) :
    s.stationEvent st e r b
      = if (s.stationStatus st (stationEventNumber e)).mask then
          s.setStationStatus st (stationEventNumber e) ⟨true, true, ⟨some st, r, b⟩⟩
        else (s.setStationStatus st (stationEventNumber e) ⟨true, false, ⟨some st, r, b⟩⟩).report false
          (stationEventNumber e) ⟨some st, r, b⟩ := by
  cases mask : (s.stationStatus st (stationEventNumber e)).mask <;>
    simp [State.stationEvent, Status.raise, Status.reports, h, mask]

/-! ## Counters (R184, R187) -/

theorem State.offerCounter_of_not {s : State} {e : CounterEvent} {a : Attributes} {k : Fin 8}
    (h : ¬ ((s.counter k).config.mode = .count ∧ (s.counter k).config.event = e ∧ (s.counter k).config.selects a
      ∧ ¬ s.counterHeld k)) (d : Nat) : s.offerCounter e d a k = s := if_neg h

theorem State.offerCounter_of_selected {s : State} {e : CounterEvent} {a : Attributes} {k : Fin 8}
    (h : (s.counter k).config.mode = .count ∧ (s.counter k).config.event = e ∧ (s.counter k).config.selects a
      ∧ ¬ s.counterHeld k) (d : Nat) : s.offerCounter e d a k = s.increase k d := if_pos h

theorem State.increase_of_not_fires {s : State} {k : Fin 8} {d : Nat}
    (h : (s.counter k).config.fires (s.counter k).value ((s.counter k).value + BitVec.ofNat 48 d) = false) :
    s.increase k d = s.setCounter k { s.counter k with value := (s.counter k).value + BitVec.ofNat 48 d } := by
  simp [State.increase, h]

theorem State.increase_of_fires {s : State} {k : Fin 8} {d : Nat}
    (h : (s.counter k).config.fires (s.counter k).value ((s.counter k).value + BitVec.ofNat 48 d) = true) :
    s.increase k d = ((s.setCounter k { s.counter k with value := (s.counter k).value + BitVec.ofNat 48 d }).setFreeze
      true).deviceEvent .counterFrozen {} := by
  simp [State.increase, h, State.setFreeze]

theorem State.deviceEvent_emu (s : State) (e : DeviceEvent) (c : Capture) :
    (s.deviceEvent e c).emu
      = (s.setDeviceStatus (deviceEventNumber e) ((s.deviceStatus (deviceEventNumber e)).raise c)).emu := by
  unfold State.deviceEvent
  dsimp only
  split
  · exact (State.report_leads _ _ _ _).1.2 .emu (by simp)
  · rfl

theorem Status.raise_set (x : Status) (c : Capture) : (x.raise c).set = true := by
  unfold Status.raise
  split
  · assumption
  · rfl

theorem Status.raise_of_set {x : Status} (h : x.set = true) (c : Capture) : x.raise c = x := if_pos h

theorem Status.raise_mask (x : Status) (c : Capture) : (x.raise c).mask = x.mask := by
  unfold Status.raise
  split <;> rfl

theorem State.deviceEvent_counter (s : State) (e : DeviceEvent) (c : Capture) (k : Fin 8) :
    (s.deviceEvent e c).counter k = s.counter k := by
  rw [State.counter, State.deviceEvent_emu]
  rfl

theorem State.deviceEvent_freeze (s : State) (e : DeviceEvent) (c : Capture) :
    (s.deviceEvent e c).emu.freeze = s.emu.freeze := by
  rw [State.deviceEvent_emu]
  rfl

theorem State.deviceEvent_stationStatus (s : State) (e : DeviceEvent) (c : Capture) (st : Fin 16) (n : Fin 8) :
    (s.deviceEvent e c).stationStatus st n = s.stationStatus st n := by
  rw [State.stationStatus, State.deviceEvent_emu]
  rfl

theorem State.deviceEvent_deviceStatus (s : State) (e : DeviceEvent) (c : Capture) (n : Fin 8) :
    (s.deviceEvent e c).deviceStatus n
      = if deviceEventNumber e = n then (s.deviceStatus n).raise c else s.deviceStatus n := by
  have emu : (s.deviceEvent e c).deviceStatus n
      = (s.setDeviceStatus (deviceEventNumber e) ((s.deviceStatus (deviceEventNumber e)).raise c)).deviceStatus n := by
    rw [State.deviceStatus, State.deviceEvent_emu]
    rfl
  rw [emu, State.deviceStatus_setDeviceStatus]
  split
  · next same => rw [same]
  · rfl

theorem State.deviceEvent_set (s : State) (e : DeviceEvent) (c : Capture) :
    ((s.deviceEvent e c).deviceStatus (deviceEventNumber e)).set = true := by
  rw [State.deviceEvent_deviceStatus, if_pos rfl, Status.raise_set]

theorem State.increase_counter_self (s : State) (k : Fin 8) (d : Nat) :
    (s.increase k d).counter k = { s.counter k with value := (s.counter k).value + BitVec.ofNat 48 d } := by
  cases fires : (s.counter k).config.fires (s.counter k).value ((s.counter k).value + BitVec.ofNat 48 d) with
  | true =>
    rw [State.increase_of_fires fires, State.deviceEvent_counter]
    exact (State.counter_setCounter _ _ _ _).trans (if_pos rfl)
  | false =>
    rw [State.increase_of_not_fires fires]
    exact (State.counter_setCounter _ _ _ _).trans (if_pos rfl)

/-- Settles O35: a status that is set stays, one that is clear is raised; a counter is increased where all three conditions
of its offer hold. -/
theorem occurrence : Obligations.Occurrence := by
  refine ⟨fun s st e r b n hn => ?_, fun s e d a k c hc => ?_⟩
  · subst hn
    refine ⟨fun set => State.stationEvent_of_set set r b, fun clear silent => ?_, fun clear mask node => ?_⟩
    · rw [State.stationEvent_of_clear clear]
      rcases silent with mask | node
      · rw [if_pos mask, mask]
      · split
        · next mask => rw [mask]
        · next mask =>
          rw [Bool.not_eq_true] at mask
          rw [mask, State.report, if_pos (by exact node)]
    · rw [State.stationEvent_of_clear clear, mask, if_neg (by simp), State.report, if_neg (by exact node)]
      rfl
  · subst hc
    refine ⟨fun other => State.offerCounter_of_not (by tauto) d, fun frozen flag => ?_, fun mode event selects free => ?_⟩
    · exact State.offerCounter_of_not (by simp [State.counterHeld, frozen, flag]) d
    · have held : ¬ s.counterHeld k := by
        rcases free with free | free <;> simp [State.counterHeld, free]
      rw [State.offerCounter_of_selected ⟨mode, event, selects, held⟩]
      refine ⟨by rw [State.increase_counter_self]; simp [BitVec.toNat_add], by rw [State.increase_counter_self],
        fun v trigger below above => ?_, fun trigger => ?_⟩
      · have fires : (s.counter k).config.fires (s.counter k).value ((s.counter k).value + BitVec.ofNat 48 d) = true := by
          have sum : ((s.counter k).value + BitVec.ofNat 48 d).toNat = ((s.counter k).value.toNat + d) % 2 ^ 48 := by
            simp [BitVec.toNat_add]
          simp only [CounterConfig.fires, trigger, Option.any_some, sum, below, above, decide_true, Bool.and_self]
        rw [State.increase_of_fires fires]
        exact ⟨State.deviceEvent_freeze _ _ _, State.deviceEvent_set _ .counterFrozen _⟩
      · exact State.increase_of_not_fires (by simp [CounterConfig.fires, trigger])

end Sys2Proof.Machine
end

section
/-! A management request handed to a quiet part (10.4): what it is answered, and what is left where it called for no pass. -/

namespace Sys2Proof.Machine

/-- The state in which a request handed to a quiet part is executed: the event has begun and the request is the one in the
queue. -/
def State.posed (s : State) (f : Sender) (r : Request) : State := s.begin.setRequests [⟨f, r⟩]

theorem State.posed_begin (s : State) (f : Sender) (r : Request) : s.posed f r = s.begin.setRequests [⟨f, r⟩] := rfl

/-- A request that is no copy or clear, handed to a quiet part, is executed and completed, and the event ends. -/
theorem State.request_eq {s : State} {f : Sender} {r : Request} (quiet : s.quiet = true)
    (job : (s.posed f r).jobOf? r = none) :
    s.request f r = (((s.posed f r).run r).1.complete ⟨f, r⟩ ((s.posed f r).run r).2 []).finish := by
  obtain ⟨⟨running, node⟩, empty, _⟩ := s.quiet_iff.mp quiet
  have taken : s.begin.take f r = (s.posed f r).drain 1 := by
    simp [State.take, empty, Config.maxRequests, State.posed]
  have drained : (s.posed f r).drain 1 = ((s.posed f r).run r).1.complete ⟨f, r⟩ ((s.posed f r).run r).2 [] := by
    have head : (s.posed f r).mge.queue = [⟨f, r⟩] := rfl
    simp only [State.drain, head, job, ite_self]
  rw [State.request, State.telegram, if_pos node, State.event, if_neg (by simp [running]), taken, drained]

/-- The comparison of images neither reads nor writes the management queue. -/
theorem State.comparePoint_setRequests (s : State) (q : List MgmtEntry) :
    (s.setRequests q).comparePoint = s.comparePoint.setRequests q := by
  have image : (s.setRequests q).image = s.image := rfl
  have line : (s.setRequests q).lineInUse = s.lineInUse := rfl
  by_cases same : s.image = s.piu.reported
  · rw [State.comparePoint, State.comparePoint, if_pos same, if_pos (by exact same)]
  · rw [State.comparePoint, State.comparePoint, if_neg same, if_neg (by exact same)]
    by_cases silent : s.lineInUse = 0
    · rw [State.sendImage_of_no_line silent, State.sendImage_of_no_line (by exact silent)]
      rfl
    · rw [State.sendImage_of_line silent, State.sendImage_of_line (by exact silent), line, image]
      unfold State.issue
      rw [State.setRequests_lif]
      split <;> rfl

/-- The answer of a request whose execution is calm: the comparison of images, then the response. -/
theorem State.request_of_calm {s t : State} {f : Sender} {r : Request} {result : Result} {payload : List Byte}
    (quiet : s.quiet = true) (job : (s.posed f r).jobOf? r = none)
    (ran : (s.posed f r).run r = (t.setRequests [⟨f, r⟩], result, payload)) (queue : t.mge.queue = []) (calm : t.calm) :
    s.request f r
      = { ({ t with passDue := false } : State).comparePoint.answered f (requestCode r) result
            (if result = .ok then payload else []) with formerNodes := none } := by
  have passed : (t.setRequests [⟨f, r⟩]).runPass = ({ t with passDue := false } : State).setRequests [⟨f, r⟩] :=
    State.runPass_of_calm (by exact calm)
  rw [State.request_eq quiet job, ran]
  dsimp only
  rw [State.complete, passed, State.comparePoint_setRequests]
  set u := ({ t with passDue := false } : State).comparePoint with hu
  have uQueue : u.mge.queue = [] :=
    (congrArg Mge.queue (({ t with passDue := false } : State).comparePoint_leads.1.2 .mge (by simp))).trans queue
  have uPass : u.passDue = false := ({ t with passDue := false } : State).comparePoint_passDue
  have completed (payload : List Byte) :
      (((u.setRequests [⟨f, r⟩]).answered f (requestCode r) result payload).setRequests []) =
        u.answered f (requestCode r) result payload := by
    rw [State.answered_setRequests, State.setRequests_setRequests_of_queue (by rw [State.answered_mge, uQueue])]
  have settled (payload : List Byte) : (u.answered f (requestCode r) result payload).settled = true :=
    (State.keeps_settled (u.answered_leads _ _ _ _).1 (by simp) (by simp) (by simp)).trans (State.comparePoint_settled _)
  have done (payload : List Byte) : (u.answered f (requestCode r) result payload).passDue = false :=
    (u.answered_passDue _ _ _ _).trans uPass
  change State.finish ((((u.setRequests [⟨f, r⟩]).answered f (requestCode r) result _).setRequests [])) = _
  rw [completed, State.finish_of_calm_settled (.inl (done _)) (settled _)]
  have marks := done (if result = .ok then payload else [])
  rw [← marks]

/-- The same, where the nodes in use are those of CONFIG_LINE and no pass is called for. -/
theorem State.request_of_unpassed {s t : State} {f : Sender} {r : Request} {result : Result} {payload : List Byte}
    (quiet : s.quiet = true) (job : (s.posed f r).jobOf? r = none)
    (ran : (s.posed f r).run r = (t.setRequests [⟨f, r⟩], result, payload)) (queue : t.mge.queue = [])
    (pass : t.passDue = false) (nodes : t.formerNodes = none) :
    s.request f r = t.comparePoint.answered f (requestCode r) result (if result = .ok then payload else []) := by
  rw [State.request_of_calm quiet job ran queue (.inl pass)]
  have same : ({ t with passDue := false } : State) = t := by rw [← pass]
  have kept : (t.comparePoint.answered f (requestCode r) result (if result = .ok then payload else [])).formerNodes = none := by
    rw [State.answered_formerNodes, t.comparePoint_leads.2.2.2.2.2 (by simp), nodes]
  rw [same, ← kept]

/-- A request that is refused, or changes nothing, is answered and nothing more is done. -/
theorem State.request_of_unchanged {s : State} {f : Sender} {r : Request} {result : Result} {payload : List Byte}
    (quiet : s.quiet = true) (job : (s.posed f r).jobOf? r = none)
    (ran : (s.posed f r).run r = (s.posed f r, result, payload)) :
    s.request f r = s.begin.answered f (requestCode r) result (if result = .ok then payload else []) := by
  obtain ⟨_, empty, settled⟩ := s.quiet_iff.mp quiet
  exact State.request_of_quiet quiet job ran empty rfl settled rfl

/-- The same, for an answer without a payload. -/
theorem State.request_of_bare {s : State} {f : Sender} {r : Request} {result : Result}
    (quiet : s.quiet = true) (job : (s.posed f r).jobOf? r = none)
    (ran : (s.posed f r).run r = bare (s.posed f r, result)) :
    s.request f r = s.begin.answered f (requestCode r) result [] := by
  have answer := State.request_of_unchanged quiet job ran
  rwa [ite_self] at answer

/-- A request that is done, calls for no pass and leaves the image as reported. -/
theorem State.request_of_done {s t : State} {f : Sender} {r : Request} {result : Result} {l : List Block}
    (quiet : s.quiet = true) (job : (s.posed f r).jobOf? r = none)
    (ran : (s.posed f r).run r = bare (t.setRequests [⟨f, r⟩], result)) (kept : s.begin.leads t l)
    (pass : t.passDue = false) (image : t.image = s.begin.image) (mge : .mge ∉ l := by simp) (piu : .piu ∉ l := by simp) :
    s.request f r = t.answered f (requestCode r) result [] := by
  obtain ⟨_, empty, settled⟩ := s.quiet_iff.mp quiet
  have stays : t.settled = true := by
    rw [State.settled, decide_eq_true_eq] at settled ⊢
    rw [image, kept.1.2 .piu piu]
    exact settled
  have answer := State.request_of_quiet quiet job ran ((congrArg Mge.queue (kept.1.2 .mge mge)).trans empty) pass stays
    (kept.2.2.2.2.2 mge)
  rwa [ite_self] at answer

/-- The image is read from the stations, the tracker and the panels alone. -/
theorem State.image_of_leads {s t : State} {l : List Block} (h : s.leads t l) (stc : .stc ∉ l := by simp)
    (dtr : .dtr ∉ l := by simp) (piu : .piu ∉ l := by simp) : t.image = s.image :=
  State.image_congr (h.1.2 .stc stc) (h.1.2 .dtr dtr) (congrArg Piu.panels (h.1.2 .piu piu))

/-! ## What a completed request leaves -/

theorem State.issue_issued {s : State} (node : s.lif.node?.isSome = true) (x : Telegram) :
    (s.issue x).issued = s.issued ++ [x] := by
  obtain ⟨n, hn⟩ := Option.isSome_iff_exists.mp node
  simp [State.issue, hn]

/-- What a comparison of images issues. -/
theorem State.comparePoint_issued {s : State} (node : s.lif.node?.isSome = true) :
    s.comparePoint.issued = s.issued
      ++ if s.image = s.piu.reported ∨ s.lineInUse = 0 then [] else [.stationOutputs s.lineInUse s.image] := by
  unfold State.comparePoint
  split
  · next same => simp [same]
  · next differ =>
    by_cases silent : s.lineInUse = 0
    · simp [State.sendImage_of_no_line silent, silent]
    · rw [State.sendImage_of_line silent, if_neg (not_or.mpr ⟨differ, silent⟩)]
      exact s.issue_issued node _

theorem State.leads_node {s t : State} {l : List Block} (h : s.leads t l) : t.lif.node? = s.lif.node? := by
  simp [Lif.node?, h.2.2.2.1]

/-- What a request leaves whose execution led to `u` and was calm: `u` with the image reported, its answer last, and no request
waiting. -/
structure State.Completed (u t : State) (f : Sender) (code : Byte) (result : Result) (payload : List Byte) : Prop where
  keeps : u.keeps t [.lif, .piu, .mge]
  mge : t.mge = { u.mge with queue := [] }
  piu : t.piu = { u.piu with reported := u.image }
  issued : t.issued = u.comparePoint.issued ++ [.mgmtResponse f.node f.seq code result payload]

theorem State.request_completed {s u : State} {f : Sender} {r : Request} {l : List Block} {result : Result}
    {payload : List Byte} (quiet : s.quiet = true) (job : (s.posed f r).jobOf? r = none)
    (ran : (s.posed f r).run r = (u, result, payload)) (kept : (s.posed f r).leads u l) (calm : u.calm) :
    State.Completed u (s.request f r) f (requestCode r) result (if result = .ok then payload else []) := by
  obtain ⟨⟨_, node⟩, _, _⟩ := s.quiet_iff.mp quiet
  have nodeKept := State.leads_node kept
  rw [State.request_eq quiet job, ran, State.complete, State.runPass_of_calm calm]
  set c := ({ u with passDue := false } : State).comparePoint with hc
  have compared := ({ u with passDue := false } : State).comparePoint_leads
  have answered := c.respond_leads ⟨f, r⟩ result payload
  have done : ((c.respond ⟨f, r⟩ result payload).setRequests []).passDue = false :=
    (State.issue_passDue _ _).trans ({ u with passDue := false } : State).comparePoint_passDue
  have settled : ((c.respond ⟨f, r⟩ result payload).setRequests []).settled = true :=
    (State.keeps_settled answered.1 (by simp) (by simp) (by simp)).trans (State.comparePoint_settled _)
  rw [State.finish_of_calm_settled (.inl done) settled]
  have unmarked : c.issued = u.comparePoint.issued := by
    rw [hc, State.comparePoint_issued, State.comparePoint_issued]
    · rfl
    · rw [nodeKept]; exact node
    · exact (congrArg Option.isSome nodeKept).trans node
  refine ⟨⟨answered.1.1.trans compared.1.1, fun b hb => ?_⟩, ?_, ?_, ?_⟩
  · simp only [List.mem_cons, List.not_mem_nil, or_false, not_or] at hb
    have first := compared.1.2 b (by simp [hb])
    have second := answered.1.2 b (by simp [hb])
    cases b <;> first | exact Eq.trans second first | exact absurd rfl hb.2.2
  · have mge : (c.respond ⟨f, r⟩ result payload).mge = u.mge :=
      (answered.1.2 .mge (by simp)).trans (compared.1.2 .mge (by simp))
    exact congrArg (fun x : Mge => { x with queue := [] }) mge
  · exact (answered.1.2 .piu (by simp)).trans (State.comparePoint_piu _)
  · refine (State.issue_issued ?_ _).trans (congrArg (· ++ _) unmarked)
    rw [State.leads_node compared]
    exact (congrArg Option.isSome nodeKept).trans node

section
variable {s u t : State} {f : Sender} {r : Request} {code : Byte} {result : Result} {payload : List Byte} {l : List Block}

theorem State.Completed.image (h : State.Completed u t f code result payload) : t.image = u.image :=
  State.image_congr (h.keeps.2 .stc (by simp)) (h.keeps.2 .dtr (by simp)) (by rw [h.piu])

theorem State.Completed.reported (h : State.Completed u t f code result payload) : t.piu.reported = t.image := by
  rw [h.image, h.piu]

theorem State.Completed.getLast? (h : State.Completed u t f code result payload) :
    t.issued.getLast? = some (.mgmtResponse f.node f.seq code result payload) := by
  rw [h.issued, List.getLast?_concat]

/-- What the execution issued was issued before the answer. -/
theorem State.Completed.mem_issued (h : State.Completed u t f code result payload) {x : Telegram} (hx : x ∈ u.issued) :
    x ∈ t.issued := by
  rw [h.issued]
  exact List.mem_append_left _ (u.comparePoint_leads.2.1.subset hx)

theorem State.Completed.mge_eq (h : State.Completed u t f code result payload) (empty : s.mge.queue = [])
    (kept : (s.posed f r).leads u l) (mge : .mge ∉ l := by simp) : t.mge = s.mge := by
  rw [h.mge, kept.1.2 .mge mge]
  exact congrArg State.mge (State.setRequests_setRequests_of_queue (s := s.begin) empty [⟨f, r⟩])

/-- The frame of a request: what its execution may change, PIU where the image changed, and the ports' stores. -/
theorem State.Completed.keeps_of_leads (h : State.Completed u t f code result payload) (empty : s.mge.queue = [])
    (kept : (s.posed f r).leads u l) {n : List Block} (sub : l ⊆ n := by simp) (lif : .lif ∈ n := by simp)
    (piu : .piu ∈ n := by simp) (mge : .mge ∉ l := by simp) : s.keeps t n := by
  refine ⟨h.keeps.1.trans kept.1.1, fun b hb => ?_⟩
  by_cases here : b = .mge
  · subst here
    exact h.mge_eq empty kept mge
  · have second := h.keeps.2 b (by
      simp only [List.mem_cons, List.not_mem_nil, or_false, not_or]
      exact ⟨fun e => hb (e ▸ lif), fun e => hb (e ▸ piu), here⟩)
    have first := kept.1.2 b (fun e => hb (sub e))
    cases b <;> first | exact Eq.trans second first | exact absurd rfl here

theorem State.Completed.piu_of_settled (h : State.Completed u t f code result payload) (settled : u.settled = true) :
    t.piu = u.piu := by
  rw [State.settled, decide_eq_true_eq] at settled
  rw [h.piu, ← settled]

/-- The frame where the execution left the image as reported. -/
theorem State.Completed.keeps_of_settled (h : State.Completed u t f code result payload) (empty : s.mge.queue = [])
    (kept : (s.posed f r).leads u l) (settled : u.settled = true) {n : List Block} (sub : l ⊆ n := by simp)
    (lif : .lif ∈ n := by simp) (mge : .mge ∉ l := by simp) : s.keeps t n := by
  have k := h.keeps_of_leads empty kept (n := .piu :: n) (fun b hb => List.mem_cons_of_mem _ (sub hb)) (by simp [lif])
    (by simp) mge
  refine ⟨k.1, fun b hb => ?_⟩
  by_cases here : b = .piu
  · subst here
    exact (h.piu_of_settled settled).trans (kept.1.2 .piu (fun e => hb (sub e)))
  · exact k.2 b (by simp [here, hb])

theorem State.Completed.issued_of_settled (h : State.Completed u t f code result payload) (settled : u.settled = true) :
    t.issued = u.issued ++ [.mgmtResponse f.node f.seq code result payload] := by
  rw [h.issued, State.comparePoint_of_settled settled]

end

end Sys2Proof.Machine
end

section
/-! The style table, and table writes while a bank is DRAINING (the statements O13, O17 and O18). -/

namespace Sys2Proof.Machine

theorem Tbs.shadow?_of_draining {x : Tbs} (h : x.draining = true) : x.shadow? = none := by simp [Tbs.shadow?, h]

/-! ## STYLE_WRITE and STYLE_ERASE (R31, R32) -/

theorem styleWrite?_of_fields {x : StyleFields} {i : Fin 128} {sy : Fin 64} (hi : x.index.toNat = i) (hsy : x.style.toNat = sy)
    (value : x.value &&& ~~~x.care = 0) : styleWrite? x = some (i, ⟨true, x.value, x.care, sy, x.stations⟩) := by
  rw [styleWrite?, below?_of_eq hi, below?_of_eq hsy]
  exact if_pos value

theorem styleWrite?_of_range {x : StyleFields}
    (h : 128 ≤ x.index.toNat ∨ 64 ≤ x.style.toNat ∨ x.value &&& ~~~x.care ≠ 0) : styleWrite? x = none := by
  unfold styleWrite?
  rcases h with index | style | value
  · rw [below?_of_le index]
  · rw [below?_of_le style]
    split
    · next eq => cases eq
    · rfl
  · split
    · exact if_neg value
    · rfl

theorem State.styleWrite_of_range {x : StyleFields} (h : styleWrite? x = none) (u : State) :
    u.styleWrite x = (u, .range) := by
  simp only [State.styleWrite, h]

theorem State.styleWrite_of_draining {x : StyleFields} {i : Fin 128} {p : StylePlace} (h : styleWrite? x = some (i, p))
    {u : State} (shadow : u.tbs.shadow? = none) : u.styleWrite x = (u, .draining) := by
  simp only [State.styleWrite, h, shadow]

theorem State.styleWrite_of_shadow {x : StyleFields} {i : Fin 128} {p : StylePlace} (h : styleWrite? x = some (i, p))
    {u : State} {id : BankId} (shadow : u.tbs.shadow? = some id) :
    u.styleWrite x = (u.setBank id ((u.bank id).setStyle i p), .ok) := by
  simp only [State.styleWrite, h, shadow]

theorem State.styleErase_of_range {n : Byte} (h : 128 ≤ n.toNat) (u : State) : u.styleErase n = (u, .range) := by
  simp only [State.styleErase, below?_of_le h]

theorem State.styleErase_of_draining {n : Byte} (h : n.toNat < 128) {u : State} (shadow : u.tbs.shadow? = none) :
    u.styleErase n = (u, .draining) := by
  simp only [State.styleErase, below?_of_eq (i := ⟨n.toNat, h⟩) rfl, shadow]

theorem State.styleErase_of_shadow {n : Byte} {i : Fin 128} (hi : n.toNat = i) {u : State} {id : BankId}
    (shadow : u.tbs.shadow? = some id) :
    u.styleErase n = if ((u.bank id).styles[i]).valid then (u.setBank id ((u.bank id).setStyle i {}), .ok)
      else (u, .notFound) := by
  simp only [State.styleErase, below?_of_eq hi, shadow]

/-- A request that writes the SHADOW bank alone, handed to a quiet part. -/
theorem State.request_of_bank {s : State} {f : Sender} {r : Request} {id : BankId} {x : Bank} (quiet : s.quiet = true)
    (job : (s.posed f r).jobOf? r = none) (ran : (s.posed f r).run r = bare ((s.posed f r).setBank id x, .ok)) :
    s.request f r = (s.begin.setBank id x).answered f (requestCode r) .ok [] :=
  State.request_of_done quiet job (by rw [ran, State.posed_begin, State.setBank_setRequests])
    (s.begin.setBank_leads id x) (State.setBank_passDue ..) (State.image_of_leads (s.begin.setBank_leads id x))

/-- Settles O13: each outcome of the two requests, handed to a quiet part. -/
theorem styleTableWritten : Obligations.StyleTableWritten := by
  intro s f id quiet drained hid
  have shadow : s.tbs.shadow? = some id := hid ▸ Tbs.shadow?_of_not_draining drained
  refine ⟨fun x i sy hi hsy value => ?write, fun x range => ?writeRange, fun n i hi valid => ?erase,
    fun n i hi invalid => ?absent, fun n range => ?eraseRange⟩
  case write =>
    exact congrArg Host.Outcome.next (State.request_of_bank (r := .styleWrite x) quiet rfl
      (congrArg bare (State.styleWrite_of_shadow (styleWrite?_of_fields hi hsy value) (by exact shadow))))
  case writeRange =>
    exact congrArg Host.Outcome.next (State.request_of_bare (r := .styleWrite x) quiet rfl
      (congrArg bare (State.styleWrite_of_range (styleWrite?_of_range range) _)))
  case erase =>
    exact congrArg Host.Outcome.next (State.request_of_bank (r := .styleErase n) quiet rfl
      (congrArg bare ((State.styleErase_of_shadow hi (by exact shadow)).trans (if_pos (by exact valid)))))
  case absent =>
    exact congrArg Host.Outcome.next (State.request_of_bare (r := .styleErase n) quiet rfl
      (congrArg bare ((State.styleErase_of_shadow hi (by exact shadow)).trans
        (if_neg (by rw [Bool.not_eq_true]; exact invalid)))))
  case eraseRange =>
    exact congrArg Host.Outcome.next (State.request_of_bare (r := .styleErase n) quiet rfl
      (congrArg bare (State.styleErase_of_range range _)))

/-! ## Writes while a bank is DRAINING (R30, R37, R38, R41) -/

theorem State.programWrite_of_draining {x : ProgramFields} (h : programWrite? x ≠ none) {u : State}
    (shadow : u.tbs.shadow? = none) : u.programWrite x = (u, .draining) := by
  obtain ⟨⟨k, y⟩, hx⟩ := Option.ne_none_iff_exists'.mp h
  simp only [State.programWrite, hx, shadow]

theorem State.programErase_of_draining {b1 b2 b3 : Byte} (h1 : b1.toNat < 16) (h2 : b2.toNat < 8) (h3 : b3.toNat < 64)
    {u : State} (shadow : u.tbs.shadow? = none) : u.programErase b1 b2 b3 = (u, .draining) := by
  simp only [State.programErase, below?_of_eq (i := ⟨b1.toNat, h1⟩) rfl, below?_of_eq (i := ⟨b2.toNat, h2⟩) rfl,
    below?_of_eq (i := ⟨b3.toNat, h3⟩) rfl, shadow]

theorem State.jobOf?_of_draining {u : State} (h : u.tbs.draining = true) (r : Request) : u.jobOf? r = none := by
  cases r <;> simp [State.jobOf?, h]

/-- Settles O18: without a SHADOW bank each request is refused. -/
theorem writesRefusedDraining : Obligations.WritesRefusedDraining := by
  intro s f quiet draining
  have shadow : s.tbs.shadow? = none := Tbs.shadow?_of_draining draining
  have refused (r : Request) (ran : (s.posed f r).run r = bare (s.posed f r, .draining)) :
      s.request f r = s.begin.answered f (requestCode r) .draining [] :=
    State.request_of_bare quiet (State.jobOf?_of_draining draining r) ran
  refine ⟨fun x index style value => ?_, fun n index => ?_, fun x range => ?_, fun b1 b2 b3 h1 h2 h3 => ?_, ?_, ?_, ?_⟩
  · exact congrArg Host.Outcome.next (refused (.styleWrite x) (congrArg bare (State.styleWrite_of_draining
      (styleWrite?_of_fields (i := ⟨_, index⟩) (sy := ⟨_, style⟩) rfl rfl value) (by exact shadow))))
  · exact congrArg Host.Outcome.next (refused (.styleErase n) (congrArg bare (State.styleErase_of_draining index
      (by exact shadow))))
  · exact congrArg Host.Outcome.next (refused (.programWrite x) (congrArg bare (State.programWrite_of_draining range
      (by exact shadow))))
  · exact congrArg Host.Outcome.next (refused (.programErase b1 b2 b3) (congrArg bare
      (State.programErase_of_draining h1 h2 h3 (by exact shadow))))
  · exact congrArg Host.Outcome.next (refused .tableCopy rfl)
  · exact congrArg Host.Outcome.next (refused .tableClear rfl)
  · exact congrArg Host.Outcome.next (refused .tableCommit (if_pos (by exact draining)))

end Sys2Proof.Machine
end

section
/-! The configuration requests, and those of gun wear and robots (the statements O19 to O22). -/

namespace Sys2Proof.Machine

/-! ## The states of a station (R136) -/

theorem Station.state_eq_disabled (x : Station) : x.state = .disabled ↔ x.enabled = false := by
  unfold Station.state
  cases x.enabled
  · simp
  · by_cases held : (x.bodyLost || x.current.any (fun c => !c.reasons.isEmpty)) = true
    · simp [held]
    · simp [held]

theorem Station.state_eq_held (x : Station) :
    x.state = .held ↔ x.enabled = true ∧ (x.bodyLost || x.current.any (fun c => !c.reasons.isEmpty)) = true := by
  unfold Station.state
  cases x.enabled
  · simp
  · by_cases held : (x.bodyLost || x.current.any (fun c => !c.reasons.isEmpty)) = true
    · simp [held]
    · simp [held]

theorem Station.state_eq_running (x : Station) :
    x.state = .running ↔ x.enabled = true ∧ (x.bodyLost || x.current.any (fun c => !c.reasons.isEmpty)) = false := by
  unfold Station.state
  cases x.enabled
  · simp
  · by_cases held : (x.bodyLost || x.current.any (fun c => !c.reasons.isEmpty)) = true
    · simp [held]
    · simp [held]

theorem Station.enabled_iff (x : Station) : x.enabled = true ↔ x.state ≠ .disabled := by
  rw [ne_eq, Station.state_eq_disabled, Bool.not_eq_false]

/-! ## Enumerated fields out of range (R205, R208) -/

theorem shiftKind?_of_le {b : Byte} (h : 4 ≤ b.toNat) : shiftKind? b = none := by
  have other (n : Byte) (hn : n.toNat < 4) : b ≠ n := by rintro rfl; omega
  simp only [shiftKind?, if_neg (other 0 (by decide)), if_neg (other 1 (by decide)), if_neg (other 2 (by decide)),
    if_neg (other 3 (by decide))]

theorem policy?_of_le {b : Byte} (h : 2 ≤ b.toNat) : policy? b = none := by
  have other (n : Byte) (hn : n.toNat < 2) : b ≠ n := by rintro rfl; omega
  simp only [policy?, if_neg (other 0 (by decide)), if_neg (other 1 (by decide))]

theorem edgeMode?_of_le {b : Byte} (h : 4 ≤ b.toNat) : edgeMode? b = none := by
  have other (n : Byte) (hn : n.toNat < 4) : b ≠ n := by rintro rfl; omega
  simp only [edgeMode?, if_neg (other 0 (by decide)), if_neg (other 1 (by decide)), if_neg (other 2 (by decide)),
    if_neg (other 3 (by decide))]

theorem flag?_of_le_one {b : Byte} (h : b.toNat ≤ 1) : flag? b = some (decide (b = 1)) := by
  have cases : b = 0 ∨ b = 1 := by bv_omega
  rcases cases with rfl | rfl <;> decide

theorem flag?_of_le {b : Byte} (h : 2 ≤ b.toNat) : flag? b = none := by
  have other (n : Byte) (hn : n.toNat < 2) : b ≠ n := by rintro rfl; omega
  simp only [flag?, if_neg (other 0 (by decide)), if_neg (other 1 (by decide))]

/-! ## CONFIG_STATION (R134) -/

theorem State.configStation_of_range {x : StationFields} (h : 16 ≤ x.station.toNat ∨ stationConfig? x = none) (u : State) :
    u.configStation x = (u, .range) := by
  unfold State.configStation
  rcases h with station | config
  · simp only [below?_of_le station]
  · split
    · next some => rw [config] at some; cases some
    · rfl

theorem State.configStation_of_fields {x : StationFields} {st : Fin 16} {c : StationConfig} (hst : x.station.toNat = st)
    (config : stationConfig? x = some c) (u : State) :
    u.configStation x
      = if (u.station st).enabled then (u, .state) else (u.setStation st { u.station st with config := c }, .ok) := by
  simp only [State.configStation, below?_of_eq hst, config]

theorem stationConfig?_of_range {x : StationFields}
    (h : 4 ≤ x.shiftKind.toNat ∨ 31 < x.shiftCount.toNat ∨ 10000 < x.seatDelay.toNat ∨ x.cycleLimit = 0
      ∨ x.selectTimeout.toNat < 10 ∨ 5000 < x.selectTimeout.toNat ∨ 2 ≤ x.noStyle.toNat ∨ 2 ≤ x.short.toNat
      ∨ 4 ≤ x.seatEdge.toNat ∨ 4 ≤ x.departureEdge.toNat) : stationConfig? x = none := by
  unfold stationConfig?
  split
  · next kind noStyle short seat departure =>
    refine if_neg fun ⟨count, delay, limit, low, high⟩ => ?_
    rcases h with h | h | h | h | h | h | h | h | h | h
    · rw [shiftKind?_of_le h] at kind; cases kind
    · omega
    · omega
    · exact limit h
    · omega
    · omega
    · rw [policy?_of_le h] at noStyle; cases noStyle
    · rw [policy?_of_le h] at short; cases short
    · rw [edgeMode?_of_le h] at seat; cases seat
    · rw [edgeMode?_of_le h] at departure; cases departure
  · rfl

/-- A change of a station's record that the image does not show. -/
theorem State.image_setStation_config (s : State) (st : Fin 16) (c : StationConfig) :
    (s.setStation st { s.station st with config := c }).image = s.image := by
  have same (q : Fin 16) : ((s.setStation st { s.station st with config := c }).station q).current = (s.station q).current
      ∧ ((s.setStation st { s.station st with config := c }).station q).state = (s.station q).state := by
    rw [State.station_setStation]
    split
    · next here => subst here; exact ⟨rfl, rfl⟩
    · exact ⟨rfl, rfl⟩
  have bit (q : Fin 16) (b : Fin 4) :
      (s.setStation st { s.station st with config := c }).effectiveBit q b = s.effectiveBit q b := by
    simp only [State.effectiveBit, State.computedBit, same]
    rfl
  refine congrArg (tabulate 16) (funext fun q => ?_)
  simp only [State.effectiveByte, bit]

/-- Settles O20: the record of a DISABLED station takes the configuration; nothing else is done. -/
theorem stationConfigured : Obligations.StationConfigured := by
  intro s f x quiet
  refine ⟨fun st k n sh se de hst kind count delay limit low high noStyle short seat departure => ?_, fun range => ?_⟩
  · have config : stationConfig? x = some ⟨k, x.shiftCount.toNat, x.mask, x.seatDelay.toNat, x.cycleLimit.toNat,
        x.selectTimeout.toNat, n, sh, se, de⟩ := by
      simp only [stationConfig?, kind, noStyle, short, seat, departure]
      exact if_pos ⟨count, delay, limit, low, high⟩
    have ran := State.configStation_of_fields hst config (s.posed f (.configStation x))
    refine ⟨fun disabled => ?_, fun enabled => ?_⟩
    · have off : ¬ ((s.posed f (.configStation x)).station st).enabled = true := by
        rw [Bool.not_eq_true]
        exact (Station.state_eq_disabled _).mp disabled
      exact congrArg Host.Outcome.next (State.request_of_done (r := .configStation x) quiet rfl
        (congrArg bare (ran.trans (if_neg off)))
        (s.begin.setStation_leads st _) rfl (s.begin.image_setStation_config st _))
    · exact congrArg Host.Outcome.next (State.request_of_bare (r := .configStation x) quiet rfl
        (congrArg bare (ran.trans (if_pos ((Station.enabled_iff _).mpr enabled)))))
  · exact congrArg Host.Outcome.next (State.request_of_bare (r := .configStation x) quiet rfl
      (congrArg bare (State.configStation_of_range (range.imp_right stationConfig?_of_range) _)))

/-! ## CONFIG_ROBOT (R95) -/

theorem Robot.enabled_iff (x : Robot) : x.enabled = true ↔ x.state ≠ .disabled := by simp [Robot.enabled]

theorem Robot.enabled_eq_false (x : Robot) : x.enabled = false ↔ x.state = .disabled := by simp [Robot.enabled]

theorem Lif.node?_of_isSome {l : Lif} (h : l.node?.isSome = true) : l.node? = some l.nodeStraps := by
  unfold Lif.node? at h ⊢
  split
  · rfl
  · next unusable => simp [unusable] at h

theorem State.configRobot_of_range {x : RobotFields} {u : State}
    (h : 64 ≤ x.robot.toNat ∨ x.node = 0 ∨ x.node = 255 ∨ some x.node = u.lif.node? ∨ 16 ≤ x.station.toNat
      ∨ 8 ≤ x.position.toNat ∨ 9 ≤ x.group.toNat ∨ x.dress = 0 ∨ x.interval = 0 ∨ 60000 < x.interval.toNat
      ∨ x.limit.toNat < x.interval.toNat) : u.configRobot x = (u, .range) := by
  unfold State.configRobot
  split
  · next robot station position group =>
    refine if_pos ?_
    rcases h with h | h | h | h | h | h | h | h | h | h | h
    · rw [below?_of_le h] at robot; cases robot
    · exact .inl h
    · exact .inr (.inl h)
    · exact .inr (.inr (.inl h))
    · rw [below?_of_le h] at station; cases station
    · rw [below?_of_le h] at position; cases position
    · rw [below?_of_le h] at group; cases group
    · exact .inr (.inr (.inr (.inl h)))
    · exact .inr (.inr (.inr (.inr (.inl h))))
    · exact .inr (.inr (.inr (.inr (.inr (.inl h)))))
    · exact .inr (.inr (.inr (.inr (.inr (.inr h)))))
  · rfl

theorem State.configRobot_of_fields {x : RobotFields} {r : Fin 64} {st : Fin 16} {p : Fin 8} {g : Fin 9} {u : State}
    (hr : x.robot.toNat = r) (hst : x.station.toNat = st) (hp : x.position.toNat = p) (hg : x.group.toNat = g)
    (inside : ¬ (x.node = 0 ∨ x.node = Config.broadcast ∨ some x.node = u.lif.node? ∨ x.dress = 0 ∨ x.interval = 0
        ∨ 60000 < x.interval.toNat ∨ x.limit.toNat < x.interval.toNat)) :
    u.configRobot x = if (u.robot r).enabled then (u, .state)
      else (u.setRobot r ⟨true, x.node, st, p, g, x.dress, x.interval.toNat, x.limit.toNat, (u.robot r).state,
        (u.robot r).wear, (u.robot r).maint⟩, .ok) := by
  simp only [State.configRobot, below?_of_eq hr, below?_of_eq hst, below?_of_eq hp, below?_of_eq hg]
  exact if_neg inside

/-- Settles O21: the record of a DISABLED robot takes the fields; nothing else is done. -/
theorem robotConfigured : Obligations.RobotConfigured := by
  intro s f x quiet
  obtain ⟨⟨_, node⟩, _⟩ := s.quiet_iff.mp quiet
  have own : s.lif.node? = some s.lif.nodeStraps := Lif.node?_of_isSome node
  refine ⟨fun r st p g hr hst hp hg zero broadcast other dress interval high limit => ?_, fun range => ?_⟩
  · have inside : ¬ (x.node = 0 ∨ x.node = Config.broadcast ∨ some x.node = s.lif.node? ∨ x.dress = 0 ∨ x.interval = 0
        ∨ 60000 < x.interval.toNat ∨ x.limit.toNat < x.interval.toNat) := by
      rw [own]
      rintro (h | h | h | h | h | h | h)
      · exact zero h
      · exact broadcast h
      · exact other (Option.some.inj h)
      · exact dress h
      · exact interval h
      · omega
      · omega
    have ran := State.configRobot_of_fields (u := s.posed f (.configRobot x)) hr hst hp hg (by exact inside)
    refine ⟨fun disabled => ?_, fun enabled => ?_⟩
    · have off : ¬ ((s.posed f (.configRobot x)).robot r).enabled = true := by
        rw [Bool.not_eq_true]
        exact (Robot.enabled_eq_false _).mpr disabled
      rw [← disabled]
      exact congrArg Host.Outcome.next (State.request_of_done (r := .configRobot x) quiet rfl
        (congrArg bare (ran.trans (if_neg off))) (s.begin.setRobot_leads r _) rfl
        (State.image_of_leads (s.begin.setRobot_leads r _)))
    · exact congrArg Host.Outcome.next (State.request_of_bare (r := .configRobot x) quiet rfl
        (congrArg bare (ran.trans (if_pos ((Robot.enabled_iff _).mpr enabled)))))
  · refine congrArg Host.Outcome.next (State.request_of_bare (r := .configRobot x) quiet rfl
      (congrArg bare (State.configRobot_of_range ?_)))
    rcases range with h | h | h | h | h
    · exact .inl h
    · exact .inr (.inl h)
    · exact .inr (.inr (.inl h))
    · exact .inr (.inr (.inr (.inl ((congrArg some h).trans own.symm))))
    · exact .inr (.inr (.inr (.inr h)))

/-! ## WEAR_SET and ROBOT_ENABLE (R101, R108) -/

theorem State.clashes_iff (u : State) (r : Fin 64) :
    u.clashes r = true ↔ ∃ q : Fin 64, q ≠ r ∧ (u.robot q).state ≠ .disabled
      ∧ ((u.robot q).node = (u.robot r).node
        ∨ ((u.robot q).station = (u.robot r).station ∧ (u.robot q).position = (u.robot r).position)) := by
  simp only [State.clashes, allRobots, List.any_eq_true, List.mem_finRange, true_and, Bool.and_eq_true, Bool.or_eq_true,
    bne_iff_ne, beq_iff_eq, Robot.enabled_iff, and_assoc, or_comm]

theorem State.robotEnable_of_below {b : Byte} {r : Fin 64} (hr : b.toNat = r) (u : State) :
    u.robotEnable b = if ¬ (u.robot r).configured ∨ (u.robot r).enabled ∨ u.clashes r then (u, .state)
      else (u.setRobotState r .idle, .ok) := by
  simp only [State.robotEnable, below?_of_eq hr]

theorem State.robotEnable_of_range {b : Byte} (h : 64 ≤ b.toNat) (u : State) : u.robotEnable b = (u, .range) := by
  simp only [State.robotEnable, below?_of_le h]

theorem State.wearSet_of_below {b : Byte} {r : Fin 64} (hr : b.toNat = r) (v : Half) (u : State) :
    u.wearSet b v = (u.setRobot r { u.robot r with wear := v.toNat }, .ok) := by
  simp only [State.wearSet, below?_of_eq hr]

theorem State.wearSet_of_range {b : Byte} (h : 64 ≤ b.toNat) (v : Half) (u : State) : u.wearSet b v = (u, .range) := by
  simp only [State.wearSet, below?_of_le h]

/-- Settles O22: both requests write one robot's record, which the image does not show. -/
theorem wearAndEnable : Obligations.WearAndEnable := by
  refine ⟨fun s f b v quiet => ⟨fun r hr => ?wear, fun range => ?wearRange⟩, fun s f b quiet => ⟨fun r hr => ?enable,
    fun range => ?enableRange⟩⟩
  case wear =>
    exact congrArg Host.Outcome.next (State.request_of_done (r := .wearSet b v) quiet rfl
      (congrArg bare (State.wearSet_of_below hr v _)) (s.begin.setRobot_leads r _) rfl
      (State.image_of_leads (s.begin.setRobot_leads r _)))
  case wearRange =>
    exact congrArg Host.Outcome.next (State.request_of_bare (r := .wearSet b v) quiet rfl
      (congrArg bare (State.wearSet_of_range range v _)))
  case enable =>
    have ran := State.robotEnable_of_below hr (s.posed f (.robotEnable b))
    refine ⟨fun configured disabled alone => ?_, fun refused => ?_⟩
    · have free : ¬ (s.clashes r = true) := by
        rw [State.clashes_iff]
        rintro ⟨q, other, enabled, node | place⟩
        · exact (alone q other enabled).1 node
        · exact (alone q other enabled).2 place
      have off := (Robot.enabled_eq_false _).mpr disabled
      rw [if_neg (by
        rintro (h | h | h)
        · exact h configured
        · exact absurd off (by rw [Bool.not_eq_false]; exact h)
        · exact free h)] at ran
      exact congrArg Host.Outcome.next (State.request_of_done (r := .robotEnable b) quiet rfl (congrArg bare ran)
        (s.begin.setRobotState_leads r _) rfl (State.image_of_leads (s.begin.setRobotState_leads r _)))
    · rw [if_pos (by
        rcases refused with plain | enabled | clash
        · exact .inl (by rw [Bool.not_eq_true]; exact plain)
        · exact .inr (.inl ((Robot.enabled_iff _).mpr enabled))
        · exact .inr (.inr ((s.clashes_iff r).mpr clash)))] at ran
      exact congrArg Host.Outcome.next (State.request_of_bare (r := .robotEnable b) quiet rfl (congrArg bare ran))
  case enableRange =>
    exact congrArg Host.Outcome.next (State.request_of_bare (r := .robotEnable b) quiet rfl
      (congrArg bare (State.robotEnable_of_range range _)))

end Sys2Proof.Machine
end

section
/-! TABLE_COPY, TABLE_CLEAR, TABLE_COMMIT, CONFIG_LINE, CONFIG_GROUP and the output bits (the statements O16, O17, O19 and
O31). -/

namespace Sys2Proof.Machine

/-! ## TABLE_COPY and TABLE_CLEAR (R37, R38) -/

/-- A copy or clear handed to a quiet part begins and waits at the head of the queue. -/
theorem State.request_of_job {s : State} {f : Sender} {r : Request} {job : TableJob} (quiet : s.quiet = true)
    (begins : (s.posed f r).jobOf? r = some job) :
    s.request f r = { s.begin with mge := { s.mge with queue := [⟨f, r⟩], job := some job } } := by
  obtain ⟨⟨running, node⟩, empty, settled⟩ := s.quiet_iff.mp quiet
  have taken : s.begin.take f r = (s.posed f r).drain 1 := by
    simp [State.take, empty, Config.maxRequests, State.posed]
  have head : (s.posed f r).mge.queue = [⟨f, r⟩] := rfl
  have begun : (s.posed f r).drain 1 = { s.begin with mge := { s.mge with queue := [⟨f, r⟩], job := some job } } := by
    simp only [State.drain, head, begins]
    rfl
  rw [State.request, State.telegram, if_pos node, State.event, if_neg (by simp [running]), taken, begun,
    State.finish_of_settled rfl (by exact settled) rfl]

/-- The end of a copy or clear behind which no request waits: the SHADOW bank's new contents and the answer. -/
theorem exec_tableEnd {s : State} {f : Sender} {r : Request} {clear : Bool} (ready : s.ready = true)
    (settled : s.settled = true) (queue : s.mge.queue = [⟨f, r⟩]) (job : s.mge.job = some ⟨clear, 0⟩) (x : Bank)
    (hx : x = if clear then (s.bank s.tbs.active.other).cleared
      else (s.bank s.tbs.active.other).copyFrom (s.bank s.tbs.active)) :
    s.event (·.tableEnd clear)
      = (({ s.begin with mge := { s.mge with queue := [], job := none } } : State).setBank s.tbs.active.other x).answered f
          (requestCode r) .ok (if clear then [] else u8 x.validEntries ++ u16 x.recordCount) := by
  set payload := if clear then [] else u8 x.validEntries ++ u16 x.recordCount with hpayload
  set u := ({ s.begin with mge := { s.mge with queue := [], job := none } } : State).setBank s.tbs.active.other x with hu
  have written : ({ s.begin.setBank s.tbs.active.other x with
      mge := { (s.begin.setBank s.tbs.active.other x).mge with job := none } } : State) = u.setRequests [⟨f, r⟩] := by
    rw [hu]
    cases s.tbs.active.other <;> simp [State.setBank, State.setRequests, State.begin, queue]
  have mge : u.mge = { s.mge with queue := [], job := none } := State.setBank_mge ..
  have pass : u.passDue = false := State.setBank_passDue ..
  have still : u.settled = true :=
    (State.keeps_settled (State.setBank_leads ({ s.begin with mge := { s.mge with queue := [], job := none } } : State)
      _ x).1 (by simp) (by simp) (by simp)).trans settled
  have nodes : u.formerNodes = none := State.setBank_formerNodes ..
  have ended : s.begin.tableEnd clear = u.answered f (requestCode r) .ok payload := by
    have due : s.begin.mge.job = some ⟨clear, 0⟩ := job
    unfold State.tableEnd
    rw [if_pos due]
    dsimp only
    have shadow : (if clear then (s.begin.bank s.begin.tbs.active.other).cleared
        else (s.begin.bank s.begin.tbs.active.other).copyFrom (s.begin.bank s.begin.tbs.active)) = x := hx.symm
    rw [shadow]
    have next : ({ s.begin.setBank s.begin.tbs.active.other x with
        mge := { (s.begin.setBank s.begin.tbs.active.other x).mge with job := none } } : State)
          = u.setRequests [⟨f, r⟩] := written
    rw [next]
    have completed := State.complete_of_settled (m := ⟨f, r⟩) (congrArg Mge.queue mge) pass still .ok payload
    rw [if_pos rfl] at completed
    have head : (s.begin.setBank s.begin.tbs.active.other x).mge.queue = [⟨f, r⟩] := by
      rw [State.setBank_mge]
      exact queue
    simp only [head]
    exact completed
  rw [State.event_of_ready ready, ended]
  refine State.finish_of_settled ((u.answered_passDue _ _ _ _).trans pass) ?_ ((u.answered_formerNodes _ _ _ _).trans nodes)
  exact (State.keeps_settled (u.answered_leads _ _ _ _).1 (by simp) (by simp) (by simp)).trans still

/-- Settles O16: the begin leaves the banks as they are, and each end writes the SHADOW bank. -/
theorem copyAndClear : Obligations.CopyAndClear := by
  refine ⟨fun s f quiet drained => ⟨?_, ?_⟩, fun s f id ready settled hid queue job => ?_,
    fun s f id ready settled hid queue job => ?_⟩
  · exact congrArg Host.Outcome.next (State.request_of_job (r := .tableCopy) quiet
      (if_neg (by rw [Bool.not_eq_true]; exact drained)))
  · exact congrArg Host.Outcome.next (State.request_of_job (r := .tableClear) quiet
      (if_neg (by rw [Bool.not_eq_true]; exact drained)))
  · subst hid
    exact congrArg Host.Outcome.next (exec_tableEnd (clear := false) ready settled queue job _ rfl)
  · subst hid
    exact congrArg Host.Outcome.next (exec_tableEnd (clear := true) ready settled queue job _ rfl)

/-! ## TABLE_COMMIT (R41) -/

theorem State.commit_of_stamped {s : State} (h : 0 < (s.bank s.tbs.active).stamps) :
    s.commit = { s with tbs := { s.tbs with active := s.tbs.active.other, draining := true } } := by
  have kept : ¬ (s.bank s.tbs.active).stamps = 0 := by omega
  simp [State.commit, kept, h]

theorem State.commit_of_unstamped {s : State} (h : (s.bank s.tbs.active).stamps = 0) :
    s.commit = ({ s with tbs := { s.tbs with active := s.tbs.active.other, draining := false } } : State).deviceEvent
      .commitDone {} := by
  simp [State.commit, h]

theorem State.tableCommit_of_not_draining {u : State} (h : u.tbs.draining = false) :
    u.tableCommit = (u.commit, .ok,
      [bankCode u.tbs.active.other] ++ flagByte (decide (0 < (u.bank u.tbs.active).stamps))) :=
  if_neg (by rw [Bool.not_eq_true]; exact h)

theorem State.commit_passDue (s : State) : s.commit.passDue = s.passDue := by
  unfold State.commit
  dsimp only
  split <;> simp

/-- Settles O17: with stamped arrivals the commit writes the roles alone, without it also sets COMMIT_DONE. -/
theorem committed : Obligations.Committed := by
  intro s f quiet drained
  have ran := State.tableCommit_of_not_draining (u := s.posed f .tableCommit) drained
  obtain ⟨_, empty, settled⟩ := s.quiet_iff.mp quiet
  refine ⟨fun stamped => ?_, fun unstamped => ?_⟩
  · rw [State.commit_of_stamped (by exact stamped)] at ran
    have payload : [bankCode s.tbs.active.other] ++ flagByte (decide (0 < (s.bank s.tbs.active).stamps))
        = [bankCode s.tbs.active.other, 1] := by simp [flagByte, stamped]
    rw [← payload]
    exact congrArg Host.Outcome.next (State.request_of_quiet (r := .tableCommit)
      (t := { s.begin with tbs := { s.tbs with active := s.tbs.active.other, draining := true } }) quiet rfl ran empty rfl
      settled rfl)
  · have payload : [bankCode s.tbs.active.other] ++ flagByte (decide (0 < (s.bank s.tbs.active).stamps))
        = [bankCode s.tbs.active.other, 0] := by simp [flagByte, unstamped]
    have kept := (s.posed f .tableCommit).commit_leads
    have done := State.request_completed (r := .tableCommit) quiet rfl ran kept (.inl (State.commit_passDue _))
    have still : (s.posed f .tableCommit).commit.settled = true :=
      (State.keeps_settled kept.1 (by simp) (by simp) (by simp)).trans settled
    have roles : (s.posed f .tableCommit).commit.tbs = { s.tbs with active := s.tbs.active.other, draining := false } := by
      rw [State.commit_of_unstamped (by exact unstamped), State.deviceEvent_tbs]
      rfl
    refine ⟨_, rfl, (done.keeps.2 .tbs (by simp)).trans roles, ?_, ?_, done.keeps_of_settled empty kept still⟩
    · have emu : (s.request f .tableCommit).emu = (s.posed f .tableCommit).commit.emu := done.keeps.2 .emu (by simp)
      rw [State.deviceStatus, emu, State.commit_of_unstamped (by exact unstamped)]
      exact State.deviceEvent_set _ .commitDone _
    · rw [← payload]
      exact done.getLast?

/-! ## CONFIG_LINE (R172, R196) -/

theorem State.imageReported_of_settled {s : State} (h : s.settled = true) : s.imageReported = s := by
  rw [State.settled, decide_eq_true_eq] at h
  rw [State.imageReported, ← h]

theorem State.issue_setRequests (s : State) (q : List MgmtEntry) (x : Telegram) :
    (s.setRequests q).issue x = (s.issue x).setRequests q := by
  unfold State.issue
  rw [State.setRequests_lif]
  split <;> rfl

/-- Issuing neither reads nor writes the marks of an event. -/
theorem State.issue_formerNodes (s : State) (n : Option (Byte × Byte)) (x : Telegram) :
    ({ s with formerNodes := n } : State).issue x = { s.issue x with formerNodes := n } := by
  have node : ({ s with formerNodes := n } : State).lif.node? = s.lif.node? := rfl
  cases h : s.lif.node? <;> simp [State.issue, h]

theorem State.issue_settled {s : State} (h : s.settled = true) (x : Telegram) : (s.issue x).settled = true :=
  (State.keeps_settled (s.issue_leads x).1 (by simp) (by simp) (by simp)).trans h

theorem State.configLine_of_range {u : State} {l r : Byte}
    (h : l = 255 ∨ r = 255 ∨ some l = u.lif.node? ∨ some r = u.lif.node?) : u.configLine l r = (u, .range) := if_pos h

/-- CONFIG_LINE with nodes in their range; `former` are the nodes that the event goes on using. -/
theorem State.configLine_of_fields {u : State} {l r : Byte}
    (h : ¬ (l = 255 ∨ r = 255 ∨ some l = u.lif.node? ∨ some r = u.lif.node?)) (former : Option (Byte × Byte))
    (hf : former = some (u.lineInUse, u.reportInUse)) (s1 : State)
    (h1 : s1 = { u with mge := { u.mge with lineNode := l, reportNode := r }, formerNodes := former }) :
    u.configLine l r
      = (if l = 0 then s1 else (s1.issue (.stationOutputs l s1.image)).imageReported, .ok) := by
  subst h1 hf
  exact if_neg h

/-- CONFIG_GROUP (R127). -/
theorem groupNamed?_of_eq {b : Byte} {g : Fin 8} (h : b.toNat = g + 1) : groupNamed? b = some g := by
  have named : below? 9 b = some ⟨g + 1, by omega⟩ := below?_of_eq (i := ⟨g + 1, by omega⟩) h
  simp [groupNamed?, named, groupPlace?]

theorem groupNamed?_of_range {b : Byte} (h : b = 0 ∨ 8 < b.toNat) : groupNamed? b = none := by
  rcases h with rfl | high
  · rfl
  · rw [groupNamed?, below?_of_le (by omega), Option.bind_none]

theorem State.configGroup_of_range {b c : Byte} {h : Half}
    (range : b = 0 ∨ 8 < b.toNat ∨ c = 0 ∨ 4 < c.toNat ∨ h.toNat < 100) (u : State) :
    u.configGroup b c h = (u, .range) := by
  unfold State.configGroup
  split
  · rfl
  · next g named =>
    refine if_pos ?_
    rcases range with zero | high | rest
    · rw [groupNamed?_of_range (.inl zero)] at named; cases named
    · rw [groupNamed?_of_range (.inr high)] at named; cases named
    · exact rest

theorem State.configGroup_of_fields {b c : Byte} {h : Half} {g : Fin 8} (hg : b.toNat = g + 1) (low : 1 ≤ c.toNat)
    (high : c.toNat ≤ 4) (limit : 100 ≤ h.toNat) (u : State) :
    u.configGroup b c h
      = if u.holders g ≠ [] ∨ u.waiters g ≠ [] then (u, .state)
        else (u.setGroup g { u.group g with capacity := c.toNat, holdLimit := h.toNat }, .ok) := by
  have nonzero : ¬ c = 0 := by rintro rfl; simp at low
  simp only [State.configGroup, groupNamed?_of_eq hg]
  exact if_neg (by
    rintro (h | h | h)
    · exact nonzero h
    · omega
    · omega)

section
variable {s : State} {f : Sender} {l r : Byte}

/-- CONFIG_LINE handed to a quiet part: the nodes are written, and a line node other than 0 is sent the image. -/
theorem exec_configLine_of_fields (quiet : s.quiet = true) (hl : l ≠ 255) (hr : r ≠ 255) (ol : l ≠ s.lif.nodeStraps)
    (or : r ≠ s.lif.nodeStraps) (u : State)
    (hu : u = { s.begin with mge := { s.mge with lineNode := l, reportNode := r } }) (v : State)
    (hv : v = if l = 0 then u else u.issue (.stationOutputs l s.image)) :
    exec (.configLine f l r) s = .next (v.answered f 1 .ok []) := by
  obtain ⟨⟨_, node⟩, empty, settled⟩ := s.quiet_iff.mp quiet
  have own := Lif.node?_of_isSome node
  have inside : ¬ (l = 255 ∨ r = 255 ∨ some l = s.lif.node? ∨ some r = s.lif.node?) := by
    rw [own]
    rintro (h | h | h | h)
    · exact hl h
    · exact hr h
    · exact ol (Option.some.inj h)
    · exact or (Option.some.inj h)
  have uSettled : u.settled = true := by subst hu; exact settled
  have vSettled : v.settled = true := by
    subst hv
    split
    · exact uSettled
    · exact State.issue_settled uSettled _
  set former := some (s.mge.lineNode, s.mge.reportNode)
  have ran := State.configLine_of_fields (u := s.posed f (.configLine l r)) inside former rfl
    (({ u with formerNodes := former } : State).setRequests [⟨f, .configLine l r⟩]) (by subst hu; rfl)
  have image : (({ u with formerNodes := former } : State).setRequests [⟨f, .configLine l r⟩]).image = s.image := by
    subst hu; rfl
  rw [image] at ran
  have state : (if l = 0 then ({ u with formerNodes := former } : State).setRequests [⟨f, .configLine l r⟩]
      else ((({ u with formerNodes := former } : State).setRequests [⟨f, .configLine l r⟩]).issue
        (.stationOutputs l s.image)).imageReported)
      = ({ v with formerNodes := former } : State).setRequests [⟨f, .configLine l r⟩] := by
    subst hv
    split
    · rfl
    · rw [State.imageReported_of_settled (State.issue_settled (by exact uSettled) _), State.issue_setRequests,
        State.issue_formerNodes]
  rw [state] at ran
  have vEmpty : v.mge.queue = [] := by
    subst hv hu
    split
    · exact empty
    · rw [(State.issue_leads _ _).1.2 .mge (by simp)]
      exact empty
  have vPass : v.passDue = false := by
    subst hv hu
    split
    · rfl
    · exact State.issue_passDue _ _
  have vNodes : v.formerNodes = none := by
    subst hv hu
    split
    · rfl
    · exact (State.issue_leads _ _).2.2.2.2.2 (by simp)
  have answer := State.request_of_calm (r := .configLine l r) quiet rfl (congrArg bare ran) (by exact vEmpty)
    (.inl (by exact vPass))
  refine congrArg Host.Outcome.next (answer.trans ?_)
  have still : ({ ({ v with formerNodes := former } : State) with passDue := false } : State).settled = true := vSettled
  rw [State.comparePoint_of_settled still]
  have answered : (({ v with passDue := false, formerNodes := former } : State).answered f 1 .ok [])
      = { v.answered f 1 .ok [] with formerNodes := former } := by
    have same : ({ v with passDue := false, formerNodes := former } : State) = { v with formerNodes := former } := by
      rw [← vPass]
    rw [same]
    exact State.issue_formerNodes v former _
  have marks : (v.answered f 1 .ok []).formerNodes = none := (State.answered_formerNodes ..).trans vNodes
  calc ({ ({ v with passDue := false, formerNodes := former } : State).answered f 1 .ok [] with formerNodes := none } : State)
      = { v.answered f 1 .ok [] with formerNodes := none } := by rw [answered]
    _ = v.answered f 1 .ok [] := by rw [← marks]

end

/-- Settles O19: the nodes in use stay to the end of the event; a group is written where nobody stands in it. -/
theorem lineAndGroupConfigured : Obligations.LineAndGroupConfigured := by
  refine ⟨fun s f l r quiet => ⟨fun range => ?lineRange, fun hl hr ol or => ⟨fun zero => ?silent, fun line => ?sent⟩⟩,
    fun s l r => ?nodes, fun s f b c h quiet => ⟨fun g hg low high limit => ⟨fun holders waiters => ?group,
      fun standing => ?standing⟩, fun range => ?groupRange⟩⟩
  case lineRange =>
    obtain ⟨⟨_, node⟩, _⟩ := s.quiet_iff.mp quiet
    have own := Lif.node?_of_isSome node
    have outside : l = 255 ∨ r = 255 ∨ some l = s.lif.node? ∨ some r = s.lif.node? := by
      rw [own, Option.some.injEq, Option.some.injEq]
      exact range
    exact congrArg Host.Outcome.next (State.request_of_bare (r := .configLine l r) quiet rfl
      (congrArg bare (State.configLine_of_range (by exact outside))))
  case silent => exact exec_configLine_of_fields quiet hl hr ol or _ rfl _ (by rw [if_pos zero])
  case sent => exact exec_configLine_of_fields quiet hl hr ol or _ rfl _ (by rw [if_neg line])
  case nodes =>
    refine ⟨?_, ?_, ?_, fun none => ?_, rfl, rfl⟩
    all_goals
      by_cases outside : l = 255 ∨ r = 255 ∨ some l = s.lif.node? ∨ some r = s.lif.node?
    · rw [State.configLine_of_range outside]
      exact fun h => absurd h (by simp)
    · rw [State.configLine_of_fields outside _ rfl _ rfl]
      intro _
      dsimp only
      split
      · rfl
      · exact (State.imageReported_leads _).1.2 .mge (by simp) |>.trans ((State.issue_leads _ _).1.2 .mge (by simp))
    · rw [State.configLine_of_range outside]
    · rw [State.configLine_of_fields outside _ rfl _ rfl]
      dsimp only
      split
      · rfl
      · exact (State.leads_inUse (State.leads_seq (State.issue_leads _ _) (State.imageReported_leads _) (n := [.lif, .piu])
          (by simp) (by simp)) (by simp)).1
    · rw [State.configLine_of_range outside]
    · rw [State.configLine_of_fields outside _ rfl _ rfl]
      dsimp only
      split
      · rfl
      · exact (State.leads_inUse (State.leads_seq (State.issue_leads _ _) (State.imageReported_leads _) (n := [.lif, .piu])
          (by simp) (by simp)) (by simp)).2
    all_goals simp [State.lineInUse, State.reportInUse, none]
  case group =>
    exact congrArg Host.Outcome.next (State.request_of_done (r := .configGroup b c h) quiet rfl
      (congrArg bare ((State.configGroup_of_fields hg low high limit _).trans
        (if_neg (by exact not_or.mpr ⟨not_not.mpr holders, not_not.mpr waiters⟩))))
      (s.begin.setGroup_leads g _) rfl (State.image_of_leads (s.begin.setGroup_leads g _)))
  case standing =>
    exact congrArg Host.Outcome.next (State.request_of_bare (r := .configGroup b c h) quiet rfl
      (congrArg bare ((State.configGroup_of_fields hg low high limit _).trans (if_pos (by exact standing)))))
  case groupRange =>
    exact congrArg Host.Outcome.next (State.request_of_bare (r := .configGroup b c h) quiet rfl
      (congrArg bare (State.configGroup_of_range range _)))

end Sys2Proof.Machine
end

section
/-! EVENT_ACK and EVENT_MASK (the statements O36 and O37). -/

namespace Sys2Proof.Machine

/-! ## The statuses of an event group: a station's, or the device's (R176) -/

/-- The status of an event in an event group. -/
def State.groupStatus (s : State) (g : Option (Fin 16)) (n : Fin 8) : Status :=
  match g with
  | some st => s.stationStatus st n
  | none => s.deviceStatus n

/-- Writes the status of an event in an event group. -/
def State.setGroupStatus (s : State) (g : Option (Fin 16)) (n : Fin 8) (x : Status) : State :=
  match g with
  | some st => s.setStationStatus st n x
  | none => s.setDeviceStatus n x

theorem State.groupStatus_setGroupStatus (s : State) (g g' : Option (Fin 16)) (n n' : Fin 8) (x : Status) :
    (s.setGroupStatus g n x).groupStatus g' n' = if g = g' ∧ n = n' then x else s.groupStatus g' n' := by
  cases g <;> cases g' <;> simp [State.groupStatus, State.setGroupStatus]

/-- A write of a status keeps the rest of EMU. -/
theorem State.setGroupStatus_counters (s : State) (g : Option (Fin 16)) (n : Fin 8) (x : Status) :
    (s.setGroupStatus g n x).emu.counters = s.emu.counters ∧ (s.setGroupStatus g n x).emu.freeze = s.emu.freeze := by
  cases g <;> exact ⟨rfl, rfl⟩

theorem State.setGroupStatus_issued (s : State) (g : Option (Fin 16)) (n : Fin 8) (x : Status) :
    (s.setGroupStatus g n x).issued = s.issued := by cases g <;> rfl

theorem State.setGroupStatus_leads (s : State) (g : Option (Fin 16)) (n : Fin 8) (x : Status) :
    s.leads (s.setGroupStatus g n x) [.emu] := by
  cases g
  · exact s.setDeviceStatus_leads n x
  · exact s.setStationStatus_leads _ n x

theorem State.groupStatus_congr {s t : State} (h : t.emu = s.emu) (g : Option (Fin 16)) (n : Fin 8) :
    t.groupStatus g n = s.groupStatus g n := by
  cases g <;> simp [State.groupStatus, State.stationStatus, State.deviceStatus, h]

theorem forAll_cons {α : Type} (a : α) (l : List α) (f : α → State → State) (s : State) :
    forAll (a :: l) f s = forAll l f (f a s) := rfl

/-! ## Reading the items (R180, R181) -/

theorem groupInstance?_eq (b : Byte) (h : b.toNat < 16 ∨ b = 255) :
    ∃ g, groupInstance? b = some g ∧ (∀ st : Fin 16, g = some st ↔ b.toNat = st) ∧ (g = none ↔ b = 255) := by
  rcases h with low | rfl
  · have other : b ≠ 255 := by rintro rfl; simp at low
    refine ⟨some ⟨b.toNat, low⟩, ?_, fun st => by simp [Fin.ext_iff],
      ⟨(nomatch ·), fun h => absurd h other⟩⟩
    rw [groupInstance?, if_neg other, below?_of_eq (i := ⟨b.toNat, low⟩) rfl, Option.map_some]
  · exact ⟨none, rfl, fun st => by have := st.isLt; simp; omega, by simp⟩

theorem groupInstance?_of_range {b : Byte} (h : 16 ≤ b.toNat) (other : b ≠ 255) : groupInstance? b = none := by
  rw [groupInstance?, if_neg other, below?_of_le h, Option.map_none]

/-- An item read names the event group of its first byte. -/
def readsAs (x : Byte × Byte) (y : Option (Fin 16) × Byte) : Prop :=
  y.2 = x.2 ∧ (∀ st : Fin 16, y.1 = some st ↔ x.1.toNat = st) ∧ (y.1 = none ↔ x.1 = 255)

theorem readItems_of_groups {items : List (Byte × Byte)} (h : ∀ x ∈ items, x.1.toNat < 16 ∨ x.1 = 255) :
    ∃ l, readItems items = some l ∧ List.Forall₂ readsAs items l := by
  induction items with
  | nil => exact ⟨[], rfl, .nil⟩
  | cons x items ih =>
    obtain ⟨l, hl, read⟩ := ih fun y hy => h y (by simp [hy])
    obtain ⟨g, hg, station, device⟩ := groupInstance?_eq x.1 (h x (by simp))
    refine ⟨(g, x.2) :: l, ?_, .cons ⟨rfl, station, device⟩ read⟩
    unfold readItems at hl ⊢
    simp [List.mapM_cons, hg, hl]

theorem readItems_of_range {items : List (Byte × Byte)} (h : ∃ x ∈ items, 16 ≤ x.1.toNat ∧ x.1 ≠ 255) :
    readItems items = none := by
  induction items with
  | nil => simp at h
  | cons x items ih =>
    unfold readItems at ih ⊢
    rw [List.mapM_cons]
    obtain ⟨y, hy, range, other⟩ := h
    rcases List.mem_cons.mp hy with rfl | rest
    · simp [groupInstance?_of_range range other]
    · simp [ih ⟨y, rest, range, other⟩]

/-! ## EVENT_ACK (R180) -/

/-- The acknowledgement of one event of an item. -/
def State.ackOne (item : Option (Fin 16) × Byte) (n : Fin 8) (s : State) : State :=
  if item.2.getLsbD n then s.setGroupStatus item.1 n { s.groupStatus item.1 n with set := false, capture := {} } else s

theorem State.ackItem_eq (item : Option (Fin 16) × Byte) : State.ackItem item = forAll allPositions (State.ackOne item) := by
  obtain ⟨g, m⟩ := item
  cases g <;> rfl

/-- A status cleared by an acknowledgement. -/
def Status.acked (x : Status) : Status := { x with set := false, capture := {} }

theorem State.ackOne_status (item : Option (Fin 16) × Byte) (n : Fin 8) (s : State) (g : Option (Fin 16)) (m : Fin 8) :
    (State.ackOne item n s).groupStatus g m
      = if item.1 = g ∧ n = m ∧ item.2.getLsbD m then (s.groupStatus g m).acked else s.groupStatus g m := by
  unfold State.ackOne
  split
  · next bit =>
    rw [State.groupStatus_setGroupStatus]
    by_cases here : item.1 = g ∧ n = m
    · obtain ⟨rfl, rfl⟩ := here
      simp [bit, Status.acked]
    · rw [if_neg here, if_neg fun ⟨a, b, _⟩ => here ⟨a, b⟩]
  · next bit =>
    refine (if_neg fun ⟨_, same, set⟩ => bit ?_).symm
    rw [same]
    exact set

theorem State.forAll_ackOne_status (item : Option (Fin 16) × Byte) (ns : List (Fin 8)) (s : State) (g : Option (Fin 16))
    (m : Fin 8) :
    (forAll ns (State.ackOne item) s).groupStatus g m
      = if item.1 = g ∧ m ∈ ns ∧ item.2.getLsbD m then (s.groupStatus g m).acked else s.groupStatus g m := by
  induction ns generalizing s with
  | nil => simp [forAll]
  | cons n ns ih =>
    rw [forAll_cons, ih, State.ackOne_status]
    by_cases named : item.1 = g ∧ item.2.getLsbD m
    · by_cases here : n = m
      · subst here
        simp [named, Status.acked]
      · simp [named, here, Ne.symm here]
    · rw [if_neg fun ⟨a, _, c⟩ => named ⟨a, c⟩, if_neg fun ⟨a, _, c⟩ => named ⟨a, c⟩,
        if_neg fun ⟨a, _, c⟩ => named ⟨a, c⟩]

theorem State.ackItem_status (item : Option (Fin 16) × Byte) (s : State) (g : Option (Fin 16)) (m : Fin 8) :
    (State.ackItem item s).groupStatus g m
      = if item.1 = g ∧ item.2.getLsbD m then (s.groupStatus g m).acked else s.groupStatus g m := by
  rw [State.ackItem_eq, State.forAll_ackOne_status]
  simp [allPositions]

/-- After all items the statuses that one of them names are cleared. -/
theorem State.forAll_ackItem_status (l : List (Option (Fin 16) × Byte)) (s : State) (g : Option (Fin 16)) (m : Fin 8) :
    (forAll l State.ackItem s).groupStatus g m
      = if ∃ y ∈ l, y.1 = g ∧ y.2.getLsbD m then (s.groupStatus g m).acked else s.groupStatus g m := by
  induction l generalizing s with
  | nil => simp [forAll]
  | cons y l ih =>
    rw [forAll_cons, ih, State.ackItem_status]
    by_cases here : y.1 = g ∧ y.2.getLsbD m
    · have named : ∃ z ∈ y :: l, z.1 = g ∧ z.2.getLsbD m := ⟨y, by simp, here⟩
      rw [if_pos here, if_pos named]
      exact ite_eq_right_iff.mpr fun _ => rfl
    · rw [if_neg here]
      simp only [List.mem_cons, exists_eq_or_imp, here, false_or]

theorem State.ackItem_counters (item : Option (Fin 16) × Byte) (s : State) :
    (State.ackItem item s).emu.counters = s.emu.counters ∧ (State.ackItem item s).emu.freeze = s.emu.freeze := by
  rw [State.ackItem_eq]
  refine forAll_keep (P := fun t => t.emu.counters = s.emu.counters ∧ t.emu.freeze = s.emu.freeze) (fun n t h => ?_) _
    ⟨rfl, rfl⟩
  unfold State.ackOne
  split
  · obtain ⟨counters, freeze⟩ := t.setGroupStatus_counters item.1 n
      { t.groupStatus item.1 n with set := false, capture := {} }
    exact ⟨counters.trans h.1, freeze.trans h.2⟩
  · exact h

theorem State.ackItem_issued (item : Option (Fin 16) × Byte) (s : State) : (State.ackItem item s).issued = s.issued := by
  rw [State.ackItem_eq]
  refine forAll_keep (P := fun t => t.issued = s.issued) (fun n t h => ?_) _ rfl
  unfold State.ackOne
  split
  · exact (t.setGroupStatus_issued _ _ _).trans h
  · exact h

theorem State.ackItem_passDue (item : Option (Fin 16) × Byte) (s : State) :
    (State.ackItem item s).passDue = s.passDue := by
  rw [State.ackItem_eq]
  refine forAll_keep (P := fun t => t.passDue = s.passDue) (fun n t h => ?_) _ rfl
  unfold State.ackOne State.setGroupStatus
  split
  · split <;> exact h
  · exact h

/-- Which statuses items name, by their bytes and as they are read. -/
theorem exists_readsAs {items : List (Byte × Byte)} {l : List (Option (Fin 16) × Byte)}
    (h : List.Forall₂ readsAs items l) (g : Option (Fin 16)) (p : Byte → Prop) (m : Fin 8)
    (named : ∀ x y, readsAs x y → (y.1 = g ↔ p x.1)) :
    (∃ y ∈ l, y.1 = g ∧ y.2.getLsbD m) ↔ ∃ x ∈ items, p x.1 ∧ x.2.getLsbD m := by
  induction h with
  | nil => simp
  | cons read rest ih =>
    simp only [List.mem_cons, exists_eq_or_imp, ih, named _ _ read, read.1]

theorem State.eventAck_of_groups {items : List (Byte × Byte)} {l : List (Option (Fin 16) × Byte)}
    (h : readItems items = some l) (u : State) :
    u.eventAck items = (forAll l State.ackItem u, .ok, (forAll l State.ackItem u).allStatusBytes) := by
  simp only [State.eventAck, h]

theorem State.eventAck_of_range {items : List (Byte × Byte)} (h : readItems items = none) (u : State) :
    u.eventAck items = (u, .range, []) := by
  simp only [State.eventAck, h]

theorem exec_eventAck {items : List (Byte × Byte)} (h : items.length ≤ 17) (f : Sender) (s : State) :
    exec (.eventAck f items) s = .next (s.request f (.eventAck items)) := by
  have fits : itemsFit items = true := decide_eq_true h
  have read : exec (.eventAck f items) s = .next (s.request f (if itemsFit items then .eventAck items else .bad 22)) := rfl
  rw [read, if_pos fits]

/-- Settles O36: each item clears what it names and nothing else. -/
theorem eventsAcknowledged : Obligations.EventsAcknowledged := by
  intro s f items quiet few
  obtain ⟨_, empty, settled⟩ := s.quiet_iff.mp quiet
  refine ⟨fun groups => ?_, fun range => ?_⟩
  · obtain ⟨l, hl, read⟩ := readItems_of_groups groups
    have ran := State.eventAck_of_groups hl (s.posed f (.eventAck items))
    set u := forAll l State.ackItem (s.posed f (.eventAck items)) with hu
    have kept : (s.posed f (.eventAck items)).leads u [.emu] := forAll_leads State.ackItem_leads l _
    have unpassed : u.passDue = false :=
      forAll_keep (P := fun t => t.passDue = false) (fun y t h => (t.ackItem_passDue y).trans h) l rfl
    have counters : u.emu.counters = s.emu.counters ∧ u.emu.freeze = s.emu.freeze :=
      forAll_keep (P := fun t => t.emu.counters = s.emu.counters ∧ t.emu.freeze = s.emu.freeze) (fun y t h =>
        ⟨(t.ackItem_counters y).1.trans h.1, (t.ackItem_counters y).2.trans h.2⟩) l ⟨rfl, rfl⟩
    have unissued : u.issued = [] :=
      forAll_keep (P := fun t => t.issued = []) (fun y t h => (t.ackItem_issued y).trans h) l rfl
    have still : u.settled = true := (State.keeps_settled kept.1 (by simp) (by simp) (by simp)).trans settled
    have done := State.request_completed (r := .eventAck items) quiet rfl ran kept (.inl unpassed)
    have emu : (s.request f (.eventAck items)).emu = u.emu := done.keeps.2 .emu (by simp)
    have status (g : Option (Fin 16)) (m : Fin 8) (p : Byte → Prop) (named : ∀ x y, readsAs x y → (y.1 = g ↔ p x.1))
        [Decidable (∃ x ∈ items, p x.1 ∧ x.2.getLsbD m)] :
        (s.request f (.eventAck items)).groupStatus g m
          = if ∃ x ∈ items, p x.1 ∧ x.2.getLsbD m then (s.groupStatus g m).acked else s.groupStatus g m := by
      rw [State.groupStatus_congr emu, hu, State.forAll_ackItem_status]
      simp only [exists_readsAs read g p m named]
      rfl
    refine ⟨_, exec_eventAck few f s, fun st n => ?_, fun n => ?_, (congrArg Emu.counters emu).trans counters.1,
      (congrArg Emu.freeze emu).trans counters.2, ?_, done.keeps_of_settled empty kept still⟩
    · exact status (some st) n (fun b => b.toNat = st) fun x y read => read.2.1 st
    · exact status none n (fun b => b = 255) fun x y read => read.2.2
    · rw [done.issued_of_settled still, unissued, if_pos rfl]
      have bytes : u.allStatusBytes = (s.request f (.eventAck items)).allStatusBytes := by
        simp only [State.allStatusBytes, emu]
      rw [bytes]
      rfl
  · rw [exec_eventAck few]
    exact congrArg Host.Outcome.next (State.request_of_unchanged (r := .eventAck items) quiet rfl
      (State.eventAck_of_range (readItems_of_range range) _))

/-! ## EVENT_MASK (R181) -/

/-- A status with a mask written. -/
def Status.masked (x : Status) (m : Bool) : Status := { x with mask := m }

/-- The mask of one event of an item: it is written, and a status that is set and becomes unmasked reports. -/
def State.maskOne (item : Option (Fin 16) × Byte) (n : Fin 8) (s : State) : State :=
  let x := s.groupStatus item.1 n
  let s' := s.setGroupStatus item.1 n (x.masked (item.2.getLsbD n))
  if x.mask && !item.2.getLsbD n && x.set then s'.report item.1.isNone n x.capture else s'

theorem State.maskItem_eq (item : Option (Fin 16) × Byte) : State.maskItem item = forAll allPositions (State.maskOne item) := by
  obtain ⟨g, m⟩ := item
  cases g <;> rfl

theorem State.report_emu (s : State) (d : Bool) (n : Fin 8) (c : Capture) : (s.report d n c).emu = s.emu :=
  (s.report_leads d n c).1.2 .emu (by simp)

theorem State.maskOne_emu (item : Option (Fin 16) × Byte) (n : Fin 8) (s : State) :
    (State.maskOne item n s).emu
      = (s.setGroupStatus item.1 n ((s.groupStatus item.1 n).masked (item.2.getLsbD n))).emu := by
  unfold State.maskOne
  dsimp only
  split
  · exact State.report_emu _ _ _ _
  · rfl

theorem State.maskOne_status (item : Option (Fin 16) × Byte) (n : Fin 8) (s : State) (g : Option (Fin 16)) (m : Fin 8) :
    (State.maskOne item n s).groupStatus g m
      = if item.1 = g ∧ n = m then (s.groupStatus g m).masked (item.2.getLsbD m) else s.groupStatus g m := by
  rw [State.groupStatus_congr (State.maskOne_emu item n s), State.groupStatus_setGroupStatus]
  by_cases here : item.1 = g ∧ n = m
  · obtain ⟨rfl, rfl⟩ := here
    rfl
  · rw [if_neg here, if_neg here]

theorem State.forAll_maskOne_status (item : Option (Fin 16) × Byte) (ns : List (Fin 8)) (s : State) (g : Option (Fin 16))
    (m : Fin 8) :
    (forAll ns (State.maskOne item) s).groupStatus g m
      = if item.1 = g ∧ m ∈ ns then (s.groupStatus g m).masked (item.2.getLsbD m) else s.groupStatus g m := by
  induction ns generalizing s with
  | nil => simp [forAll]
  | cons n ns ih =>
    rw [forAll_cons, ih, State.maskOne_status]
    by_cases named : item.1 = g
    · by_cases here : n = m
      · subst here
        simp [named, Status.masked]
      · simp [named, here, Ne.symm here]
    · simp [named]

theorem State.maskItem_status (item : Option (Fin 16) × Byte) (s : State) (g : Option (Fin 16)) (m : Fin 8) :
    (State.maskItem item s).groupStatus g m
      = if item.1 = g then (s.groupStatus g m).masked (item.2.getLsbD m) else s.groupStatus g m := by
  rw [State.maskItem_eq, State.forAll_maskOne_status]
  simp [allPositions]

theorem getLast?_filter_cons {α : Type} (p : α → Bool) (y : α) (l : List α) :
    ((y :: l).filter p).getLast? = ((l.filter p).getLast?).or (if p y then some y else none) := by
  cases h : p y
  · simp [h]
  · rw [List.filter_cons_of_pos h, List.getLast?_cons]
    cases (l.filter p).getLast? <;> simp

/-- After all items an event group has the masks of the last item that names it. -/
theorem State.forAll_maskItem_status (l : List (Option (Fin 16) × Byte)) (s : State) (g : Option (Fin 16)) (m : Fin 8) :
    (forAll l State.maskItem s).groupStatus g m
      = ((l.filter (fun y => y.1 == g)).getLast?).elim (s.groupStatus g m)
          (fun y => (s.groupStatus g m).masked (y.2.getLsbD m)) := by
  induction l generalizing s with
  | nil => simp [forAll]
  | cons y l ih =>
    rw [forAll_cons, ih, State.maskItem_status, getLast?_filter_cons]
    cases (l.filter (fun y => y.1 == g)).getLast? with
    | some z => by_cases here : y.1 = g <;> simp [here, Status.masked]
    | none => by_cases here : y.1 = g <;> simp [here]

/-- The last item that names an event group, by the items' bytes and as they are read. -/
theorem getLast?_readsAs {items : List (Byte × Byte)} {l : List (Option (Fin 16) × Byte)}
    (h : List.Forall₂ readsAs items l) (g : Option (Fin 16)) (p : Byte → Bool)
    (named : ∀ x y, readsAs x y → (y.1 = g ↔ p x.1 = true)) :
    ((l.filter (fun y => y.1 == g)).getLast?).map (·.2) = ((items.filter (fun x => p x.1)).getLast?).map (·.2) := by
  induction h with
  | nil => rfl
  | @cons x y items l read rest ih =>
    rw [getLast?_filter_cons, getLast?_filter_cons]
    have same : (y.1 == g) = p x.1 := by
      rw [Bool.eq_iff_iff, beq_iff_eq]
      exact named x y read
    rw [same]
    cases hl : (l.filter (fun y => y.1 == g)).getLast? with
    | some z =>
      rw [hl] at ih
      cases hi : (items.filter (fun x => p x.1)).getLast? with
      | some w => rw [hi] at ih; simpa using ih
      | none => rw [hi] at ih; cases ih
    | none =>
      rw [hl] at ih
      cases hi : (items.filter (fun x => p x.1)).getLast? with
      | some w => rw [hi] at ih; cases ih
      | none => cases p x.1 <;> simp [read.1]

theorem State.maskOne_passDue (item : Option (Fin 16) × Byte) (n : Fin 8) (s : State) :
    (State.maskOne item n s).passDue = s.passDue := by
  have put (x : Status) : (s.setGroupStatus item.1 n x).passDue = s.passDue := by
    unfold State.setGroupStatus
    split <;> rfl
  unfold State.maskOne
  dsimp only
  split
  · rw [State.report_passDue, put]
  · exact put _

theorem State.maskItem_passDue (item : Option (Fin 16) × Byte) (s : State) :
    (State.maskItem item s).passDue = s.passDue := by
  rw [State.maskItem_eq]
  exact forAll_keep (P := fun t => t.passDue = s.passDue) (fun n t h => (t.maskOne_passDue item n).trans h) _ rfl

theorem State.maskItem_counters (item : Option (Fin 16) × Byte) (s : State) :
    (State.maskItem item s).emu.counters = s.emu.counters ∧ (State.maskItem item s).emu.freeze = s.emu.freeze := by
  rw [State.maskItem_eq]
  refine forAll_keep (P := fun t => t.emu.counters = s.emu.counters ∧ t.emu.freeze = s.emu.freeze) (fun n t h => ?_) _
    ⟨rfl, rfl⟩
  obtain ⟨counters, freeze⟩ := t.setGroupStatus_counters item.1 n ((t.groupStatus item.1 n).masked (item.2.getLsbD n))
  rw [State.maskOne_emu]
  exact ⟨counters.trans h.1, freeze.trans h.2⟩

/-- The report that an item's mask sends for one event, to the report node given. -/
def State.maskReport (s : State) (item : Option (Fin 16) × Byte) (dst : Byte) (n : Fin 8) : Option Telegram :=
  if (s.groupStatus item.1 n).set ∧ (s.groupStatus item.1 n).mask ∧ item.2.getLsbD n = false ∧ dst ≠ 0 then
    some (.eventReport dst item.1.isNone n (s.groupStatus item.1 n).capture)
  else none

theorem State.report_issued {s : State} (node : s.lif.node?.isSome = true) (d : Bool) (n : Fin 8) (c : Capture) :
    (s.report d n c).issued
      = s.issued ++ if s.reportInUse = 0 then [] else [.eventReport s.reportInUse d n c] := by
  unfold State.report
  split
  · simp
  · exact s.issue_issued node _

theorem State.maskOne_leads (item : Option (Fin 16) × Byte) (n : Fin 8) (s : State) :
    s.leads (State.maskOne item n s) [.emu, .lif] := by
  unfold State.maskOne
  dsimp only
  split
  · exact State.leads_seq (s.setGroupStatus_leads _ _ _) (State.report_leads _ _ _ _) (by simp) (by simp)
  · exact State.leads_mono (s.setGroupStatus_leads _ _ _) (by simp)

theorem State.maskOne_issued {s : State} (node : s.lif.node?.isSome = true) (item : Option (Fin 16) × Byte) (n : Fin 8) :
    (State.maskOne item n s).issued = s.issued ++ (s.maskReport item s.reportInUse n).toList := by
  have put := s.setGroupStatus_leads item.1 n ((s.groupStatus item.1 n).masked (item.2.getLsbD n))
  have unissued := s.setGroupStatus_issued item.1 n ((s.groupStatus item.1 n).masked (item.2.getLsbD n))
  unfold State.maskOne State.maskReport
  dsimp only
  by_cases due : (s.groupStatus item.1 n).mask && !item.2.getLsbD n && (s.groupStatus item.1 n).set
  · rw [if_pos due, State.report_issued ((congrArg Option.isSome (State.leads_node put)).trans node), unissued,
      (State.leads_inUse put (by simp)).2]
    simp only [Bool.and_eq_true, Bool.not_eq_true'] at due
    by_cases silent : s.reportInUse = 0
    · rw [if_pos silent, if_neg fun h => h.2.2.2 silent]
      rfl
    · rw [if_neg silent, if_pos ⟨due.2, due.1.1, due.1.2, silent⟩]
      rfl
  · rw [if_neg due, unissued, if_neg fun ⟨set, mask, bit, _⟩ => due (by simp only [set, mask, bit]; rfl)]
    exact (List.append_nil _).symm

/-- The reports of an item leave in event number order; each reads the status of its own event, which no other event of the
item has written. -/
theorem State.forAll_maskOne_issued (item : Option (Fin 16) × Byte) (dst : Byte) :
    ∀ (ns : List (Fin 8)) (s : State), ns.Nodup → s.lif.node?.isSome = true → s.reportInUse = dst →
      (forAll ns (State.maskOne item) s).issued = s.issued ++ ns.filterMap (s.maskReport item dst)
  | [], s, _, _, _ => by simp [forAll]
  | n :: ns, s, nodup, node, inUse => by
    have step := s.maskOne_leads item n
    obtain ⟨fresh, rest⟩ := List.nodup_cons.mp nodup
    rw [forAll_cons, State.forAll_maskOne_issued item dst ns _ rest
      ((congrArg Option.isSome (State.leads_node step)).trans node) ((State.leads_inUse step (by simp)).2.trans inUse),
      State.maskOne_issued node, inUse]
    have others : ns.filterMap ((State.maskOne item n s).maskReport item dst) = ns.filterMap (s.maskReport item dst) := by
      refine List.filterMap_congr fun m hm => ?_
      have same : (State.maskOne item n s).groupStatus item.1 m = s.groupStatus item.1 m := by
        rw [State.maskOne_status, if_neg fun ⟨_, e⟩ => fresh (e ▸ hm)]
      simp only [State.maskReport, same]
    rw [others, List.append_assoc, List.filterMap_cons]
    cases s.maskReport item dst n <;> rfl

theorem State.eventMask_of_groups {items : List (Byte × Byte)} {l : List (Option (Fin 16) × Byte)}
    (h : readItems items = some l) (u : State) : u.eventMask items = (forAll l State.maskItem u, .ok) := by
  simp only [State.eventMask, h]

theorem State.eventMask_of_range {items : List (Byte × Byte)} (h : readItems items = none) (u : State) :
    u.eventMask items = (u, .range) := by
  simp only [State.eventMask, h]

theorem exec_eventMask {items : List (Byte × Byte)} (h : items.length ≤ 17) (f : Sender) (s : State) :
    exec (.eventMask f items) s = .next (s.request f (.eventMask items)) := by
  have fits : itemsFit items = true := decide_eq_true h
  have read : exec (.eventMask f items) s = .next (s.request f (if itemsFit items then .eventMask items else .bad 23)) := rfl
  rw [read, if_pos fits]

/-- What an EVENT_MASK with readable items, handed to a quiet part, leaves. -/
theorem State.eventMask_completed {s : State} {f : Sender} {items : List (Byte × Byte)} {l : List (Option (Fin 16) × Byte)}
    (quiet : s.quiet = true) (hl : readItems items = some l) (u : State)
    (hu : u = forAll l State.maskItem (s.posed f (.eventMask items))) :
    State.Completed u (s.request f (.eventMask items)) f 23 .ok []
      ∧ (s.posed f (.eventMask items)).leads u [.emu, .lif] ∧ u.settled = true := by
  obtain ⟨_, _, settled⟩ := s.quiet_iff.mp quiet
  subst hu
  have kept := forAll_leads State.maskItem_leads l (s.posed f (.eventMask items))
  have unpassed : (forAll l State.maskItem (s.posed f (.eventMask items))).passDue = false :=
    forAll_keep (P := fun t => t.passDue = false) (fun y t h => (t.maskItem_passDue y).trans h) l rfl
  exact ⟨State.request_completed (r := .eventMask items) quiet rfl (congrArg bare (State.eventMask_of_groups hl _)) kept
    (.inl unpassed), kept, (State.keeps_settled kept.1 (by simp) (by simp) (by simp)).trans settled⟩

/-- The reports and the answer of an EVENT_MASK with one item. -/
theorem State.eventMask_issued {s : State} (f : Sender) {g m : Byte} {y : Option (Fin 16) × Byte} (quiet : s.quiet = true)
    (read : readItems [(g, m)] = some [y]) :
    (s.request f (.eventMask [(g, m)])).issued
      = (List.finRange 8).filterMap (s.maskReport y s.mge.reportNode) ++ [.mgmtResponse f.node f.seq 23 .ok []] := by
  obtain ⟨⟨_, node⟩, _, _⟩ := s.quiet_iff.mp quiet
  obtain ⟨done, _, still⟩ := State.eventMask_completed (f := f) quiet read _ rfl
  rw [done.issued_of_settled still]
  have reports := State.forAll_maskOne_issued y s.mge.reportNode allPositions (s.posed f (.eventMask [(g, m)]))
    (List.nodup_finRange 8) node rfl
  rw [← State.maskItem_eq] at reports
  exact congrArg (· ++ _) reports

/-- Settles O37: the masks are those of the last item that names a group, and the reports of one item leave in order. -/
theorem eventsMasked : Obligations.EventsMasked := by
  intro s f quiet
  obtain ⟨_, empty, _⟩ := s.quiet_iff.mp quiet
  refine ⟨fun items few => ⟨fun groups => ?masks, fun range => ?range⟩, fun g m => ⟨fun st hst => ?station,
    fun device => ?device⟩⟩
  case masks =>
    obtain ⟨l, hl, read⟩ := readItems_of_groups groups
    obtain ⟨done, kept, still⟩ := State.eventMask_completed (f := f) quiet hl _ rfl
    set u := forAll l State.maskItem (s.posed f (.eventMask items)) with hu
    have counters : u.emu.counters = s.emu.counters ∧ u.emu.freeze = s.emu.freeze :=
      forAll_keep (P := fun t => t.emu.counters = s.emu.counters ∧ t.emu.freeze = s.emu.freeze) (fun y t h =>
        ⟨(t.maskItem_counters y).1.trans h.1, (t.maskItem_counters y).2.trans h.2⟩) l ⟨rfl, rfl⟩
    have emu : (s.request f (.eventMask items)).emu = u.emu := done.keeps.2 .emu (by simp)
    have status (g : Option (Fin 16)) (m : Fin 8) (p : Byte → Bool)
        (named : ∀ x y, readsAs x y → (y.1 = g ↔ p x.1 = true)) :
        (s.request f (.eventMask items)).groupStatus g m
          = match (items.filter (fun x => p x.1)).getLast? with
            | none => s.groupStatus g m
            | some x => (s.groupStatus g m).masked (x.2.getLsbD m) := by
      have last := getLast?_readsAs read g p named
      rw [State.groupStatus_congr emu, hu, State.forAll_maskItem_status]
      cases hi : (items.filter (fun x => p x.1)).getLast? with
      | none =>
        rw [hi, Option.map_none, Option.map_eq_none_iff] at last
        rw [last]
        rfl
      | some x =>
        rw [hi, Option.map_some, Option.map_eq_some_iff] at last
        obtain ⟨y, hy, bits⟩ := last
        rw [hy, Option.elim_some, bits]
        rfl
    refine ⟨_, exec_eventMask few f s, fun st n => ?_, fun n => ?_, (congrArg Emu.counters emu).trans counters.1,
      (congrArg Emu.freeze emu).trans counters.2, done.getLast?, done.keeps_of_settled empty kept still⟩
    · exact status (some st) n (fun b => b.toNat == st) fun x y read => (read.2.1 st).trans (beq_iff_eq).symm
    · exact status none n (fun b => b == 255) fun x y read => read.2.2.trans (beq_iff_eq).symm
  case range =>
    rw [exec_eventMask few]
    exact congrArg Host.Outcome.next (State.request_of_bare (r := .eventMask items) quiet rfl
      (congrArg bare (State.eventMask_of_range (readItems_of_range range) _)))
  case station =>
    have read : readItems [(g, m)] = some [(some st, m)] := by
      have low : g.toNat < 16 := hst ▸ st.isLt
      have other : g ≠ 255 := by rintro rfl; simp at low
      have named : groupInstance? g = some (some st) := by
        rw [groupInstance?, if_neg other, below?_of_eq hst, Option.map_some]
      simp [readItems, named]
    exact ⟨_, exec_eventMask (by simp) f s, State.eventMask_issued f quiet read⟩
  case device =>
    subst device
    have read : readItems [(255, m)] = some [(none, m)] := rfl
    exact ⟨_, exec_eventMask (by simp) f s, State.eventMask_issued f quiet read⟩

end Sys2Proof.Machine
end

section
/-! The output bits' requests and the counters' requests (the statements O31 and O38). -/

namespace Sys2Proof.Machine

/-! ## Output bits (R168 to R170) -/

theorem State.outputForce_of_fields {b1 b2 b3 : Byte} {st : Fin 16} {b : Fin 4} (hst : b1.toNat = st) (hb : b2.toNat = b)
    (value : b3.toNat ≤ 1) (u : State) :
    u.outputForce b1 b2 b3 = if ((u.panel st).bits[b]).protect then (u, .protectedBit)
      else (u.setBit st b { (u.panel st).bits[b] with forced := true, value := decide (b3 = 1) }, .ok) := by
  simp only [State.outputForce, below?_of_eq hst, below?_of_eq hb, flag?_of_le_one value]

theorem State.outputForce_of_range {b1 b2 b3 : Byte} (h : 16 ≤ b1.toNat ∨ 4 ≤ b2.toNat ∨ 2 ≤ b3.toNat) (u : State) :
    u.outputForce b1 b2 b3 = (u, .range) := by
  unfold State.outputForce
  split
  · next station bit value =>
    rcases h with h | h | h
    · rw [below?_of_le h] at station; cases station
    · rw [below?_of_le h] at bit; cases bit
    · rw [flag?_of_le h] at value; cases value
  · rfl

theorem State.outputRelease_of_fields {b1 b2 : Byte} {st : Fin 16} {b : Fin 4} (hst : b1.toNat = st) (hb : b2.toNat = b)
    (u : State) :
    u.outputRelease b1 b2 = (u.setBit st b { (u.panel st).bits[b] with forced := false, value := false }, .ok) := by
  simp only [State.outputRelease, below?_of_eq hst, below?_of_eq hb]

theorem State.outputUnprotect_of_fields {b1 b2 : Byte} {st : Fin 16} {b : Fin 4} (hst : b1.toNat = st) (hb : b2.toNat = b)
    (u : State) : u.outputUnprotect b1 b2 = (u.setBit st b { (u.panel st).bits[b] with protect := false }, .ok) := by
  simp only [State.outputUnprotect, below?_of_eq hst, below?_of_eq hb]

theorem State.outputRelease_of_range {b1 b2 : Byte} (h : 16 ≤ b1.toNat ∨ 4 ≤ b2.toNat) (u : State) :
    u.outputRelease b1 b2 = (u, .range) := by
  unfold State.outputRelease
  split
  · next station bit =>
    rcases h with h | h
    · rw [below?_of_le h] at station; cases station
    · rw [below?_of_le h] at bit; cases bit
  · rfl

theorem State.outputUnprotect_of_range {b1 b2 : Byte} (h : 16 ≤ b1.toNat ∨ 4 ≤ b2.toNat) (u : State) :
    u.outputUnprotect b1 b2 = (u, .range) := by
  unfold State.outputUnprotect
  split
  · next station bit =>
    rcases h with h | h
    · rw [below?_of_le h] at station; cases station
    · rw [below?_of_le h] at bit; cases bit
  · rfl

/-- The protect flag of a bit does not show in the image. -/
theorem State.image_setBit_of_source {s : State} {st : Fin 16} {b : Fin 4} {x : OutputBit}
    (forced : x.forced = ((s.panel st).bits[b]).forced) (value : x.value = ((s.panel st).bits[b]).value) :
    (s.setBit st b x).image = s.image := by
  have same (q : Fin 16) (c : Fin 4) : (((s.setBit st b x).panel q).bits[c]).forced = ((s.panel q).bits[c]).forced
      ∧ (((s.setBit st b x).panel q).bits[c]).value = ((s.panel q).bits[c]).value := by
    rw [State.panel_setBit]
    by_cases here : st = q
    · subst here
      rw [if_pos rfl]
      by_cases bit : b = c
      · subst bit
        simpa using ⟨forced, value⟩
      · have other : (b : Nat) ≠ c := fun e => bit (Fin.ext e)
        simp [other]
    · rw [if_neg here]
      exact ⟨rfl, rfl⟩
  have bit (q : Fin 16) (c : Fin 4) : (s.setBit st b x).effectiveBit q c = s.effectiveBit q c := by
    simp only [State.effectiveBit, same]
    rfl
  refine congrArg (tabulate 16) (funext fun q => ?_)
  simp only [State.effectiveByte, bit]

/-- A request that writes an output bit alone: the image is compared ahead of the answer. -/
theorem State.request_of_bit {s : State} {f : Sender} {r : Request} {st : Fin 16} {b : Fin 4} {x : OutputBit}
    (quiet : s.quiet = true) (job : (s.posed f r).jobOf? r = none)
    (ran : (s.posed f r).run r = bare ((s.posed f r).setBit st b x, .ok)) :
    s.request f r = (s.begin.setBit st b x).comparePoint.answered f (requestCode r) .ok [] := by
  obtain ⟨_, empty, _⟩ := s.quiet_iff.mp quiet
  exact State.request_of_unpassed (t := s.begin.setBit st b x) quiet job ran empty rfl rfl

/-- The same, where the image does not show the change. -/
theorem State.request_of_hidden_bit {s : State} {f : Sender} {r : Request} {st : Fin 16} {b : Fin 4} {x : OutputBit}
    (quiet : s.quiet = true) (job : (s.posed f r).jobOf? r = none)
    (ran : (s.posed f r).run r = bare ((s.posed f r).setBit st b x, .ok))
    (image : (s.begin.setBit st b x).image = s.begin.image) :
    s.request f r = (s.begin.setBit st b x).answered f (requestCode r) .ok [] := by
  obtain ⟨_, _, settled⟩ := s.quiet_iff.mp quiet
  have still : (s.begin.setBit st b x).settled = true := by
    rw [State.settled, decide_eq_true_eq] at settled ⊢
    exact settled.trans image.symm
  rw [State.request_of_bit quiet job ran, State.comparePoint_of_settled still]

/-- Settles O31: each request writes one bit's record, and the comparison of images stands ahead of its answer. -/
theorem outputsWritten : Obligations.OutputsWritten := by
  intro s f b1 b2 b3 quiet
  refine ⟨fun st b hst hb => ⟨fun value free => ?force, fun value protect => ?protect, ?release, ?unprotect⟩,
    fun range => ⟨?forceRange, ?releaseRange, ?unprotectRange⟩, fun range => ?valueRange⟩
  case force =>
    have ran := State.outputForce_of_fields hst hb value (s.posed f (.outputForce b1 b2 b3))
    have open_ : ¬ (((s.posed f (.outputForce b1 b2 b3)).panel st).bits[b]).protect = true := by
      rw [Bool.not_eq_true]
      exact free
    have done := State.request_of_bit (r := .outputForce b1 b2 b3) quiet rfl (congrArg bare (ran.trans (if_neg open_)))
    refine congrArg Host.Outcome.next (done.trans ?_)
    have record : ({ ((s.panel st).bits[b]) with forced := true, value := decide (b3 = 1) } : OutputBit)
        = ⟨true, decide (b3 = 1), false⟩ := by
      rw [← free]
    exact congrArg (fun x => ((s.begin.setBit st b x).comparePoint.answered f 19 .ok [])) record
  case protect =>
    exact congrArg Host.Outcome.next (State.request_of_bare (r := .outputForce b1 b2 b3) quiet rfl
      (congrArg bare ((State.outputForce_of_fields hst hb value _).trans (if_pos (by exact protect)))))
  case release =>
    exact congrArg Host.Outcome.next (State.request_of_bit (r := .outputRelease b1 b2) quiet rfl
      (congrArg bare (State.outputRelease_of_fields hst hb _)))
  case unprotect =>
    exact congrArg Host.Outcome.next (State.request_of_hidden_bit (r := .outputUnprotect b1 b2) quiet rfl
      (congrArg bare (State.outputUnprotect_of_fields hst hb _)) (State.image_setBit_of_source rfl rfl))
  case forceRange =>
    exact congrArg Host.Outcome.next (State.request_of_bare (r := .outputForce b1 b2 b3) quiet rfl
      (congrArg bare (State.outputForce_of_range (range.imp_right .inl) _)))
  case releaseRange =>
    exact congrArg Host.Outcome.next (State.request_of_bare (r := .outputRelease b1 b2) quiet rfl
      (congrArg bare (State.outputRelease_of_range range _)))
  case unprotectRange =>
    exact congrArg Host.Outcome.next (State.request_of_bare (r := .outputUnprotect b1 b2) quiet rfl
      (congrArg bare (State.outputUnprotect_of_range range _)))
  case valueRange =>
    exact congrArg Host.Outcome.next (State.request_of_bare (r := .outputForce b1 b2 b3) quiet rfl
      (congrArg bare (State.outputForce_of_range (.inr (.inr range)) _)))

/-! ## The fields of COUNTER_SET (R188, R208) -/

theorem counterEvent?_isSome (b : Byte) : (counterEvent? b).isSome = true ↔ b.toNat ≤ 15 := by
  rw [counterEvent?, isSome_getElem?, List.length_cons]
  simp only [List.length_cons, List.length_nil]
  omega

theorem counterMode?_isSome (b : Byte) : (counterMode? b).isSome = true ↔ b.toNat < 4 := by
  rw [counterMode?, isSome_getElem?]
  simp

theorem flag?_isSome (b : Byte) : (flag? b).isSome = true ↔ b.toNat ≤ 1 := by
  constructor
  · intro some
    by_contra high
    rw [flag?_of_le (by omega)] at some
    cases some
  · intro low
    rw [flag?_of_le_one low]
    rfl

theorem flag?_eq_some {b : Byte} {v : Bool} (h : flag? b = some v) : v = decide (b = 1) := by
  have low := (flag?_isSome b).mp (by rw [h]; rfl)
  rw [flag?_of_le_one low, Option.some.injEq] at h
  exact h.symm

theorem below?_isSome (n : Nat) (b : Byte) : (below? n b).isSome = true ↔ b.toNat < n := by
  unfold below?
  split <;> simp [*]

theorem filter?_isSome (n : Nat) (b : Byte) : (filter? n b).isSome = true ↔ b.toNat < n ∨ b = 255 := by
  unfold filter?
  split
  · next all => simp [all]
  · next other => simp only [Option.isSome_map, below?_isSome, other, or_false]

theorem filter?_eq_some {n : Nat} {b : Byte} {x : Option (Fin n)} (h : filter? n b = some x) :
    x.map (·.val) = if b = 255 then none else some b.toNat := by
  unfold filter? at h
  split at h
  · next all =>
    cases h
    rw [if_pos all]
    rfl
  · next other =>
    rw [if_neg other]
    obtain ⟨i, hi, rfl⟩ := Option.map_eq_some_iff.mp h
    rw [Option.map_some, below?_eq_some.mp hi]

/-- Which modes fit which event selects, by their codes. -/
theorem modeFits_iff {b m : Byte} {e : CounterEvent} {x : CounterMode} (he : counterEvent? b = some e)
    (hx : counterMode? m = some x) :
    modeFits e x = true
      ↔ b = 0 ∨ (1 ≤ b.toNat ∧ b.toNat ≤ 12 ∧ m = 0) ∨ (13 ≤ b.toNat ∧ m ≠ 0) := by
  have table : ∀ (i : Fin 16) (j : Fin 4),
      modeFits (([.none, .arrivalsAccepted, .arrivalsRefused, .allocSkips, .offers, .done, .short, .rejects, .expiries,
        .dressCycles, .stale, .clampedReports, .weldsReported, .trackerInUse, .queueDepth, .supplyWaiters] :
          List CounterEvent)[i.val]?.getD .none) (([.count, .level, .threshold, .edge] : List CounterMode)[j.val]?.getD .count)
        = decide (i.val = 0 ∨ (1 ≤ i.val ∧ i.val ≤ 12 ∧ j.val = 0) ∨ (13 ≤ i.val ∧ j.val ≠ 0)) := by decide
  have low := (counterEvent?_isSome b).mp (by rw [he]; rfl)
  have mode := (counterMode?_isSome m).mp (by rw [hx]; rfl)
  have here := table ⟨b.toNat, by omega⟩ ⟨m.toNat, mode⟩
  rw [counterEvent?] at he
  rw [counterMode?] at hx
  simp only [he, hx, Option.getD_some] at here
  rw [here, decide_eq_true_eq]
  have b0 : b = 0 ↔ b.toNat = 0 := by rw [BitVec.toNat_eq]; rfl
  have m0 : m = 0 ↔ m.toNat = 0 := by rw [BitVec.toNat_eq]; rfl
  simp only [b0, m0, ne_eq]

/-- The configuration that COUNTER_SET writes, as its fields are read. -/
theorem counterConfig?_eq_some {x : CounterFields} {c : CounterConfig} :
    counterConfig? x = some c ↔ ∃ e st r sy m inv fe tp,
      (counterEvent? x.event = some e ∧ filter? 16 x.station = some st ∧ filter? 64 x.robot = some r
        ∧ filter? 64 x.style = some sy ∧ counterMode? x.mode = some m ∧ flag? x.invert = some inv
        ∧ flag? x.freezeEnable = some fe ∧ flag? x.triggerPresent = some tp)
      ∧ (modeFits e m = true ∧ ¬ (tp = true ∧ x.trigger = 0))
      ∧ c = ⟨e, st, r, sy, m, x.threshold.toNat, inv, fe, if tp then some x.trigger else none⟩ := by
  unfold counterConfig?
  constructor
  · intro h
    split at h
    · next e st r sy m inv fe tp he hst hr hsy hm hinv hfe htp =>
      split at h
      · next fits =>
        cases h
        exact ⟨e, st, r, sy, m, inv, fe, tp, ⟨he, hst, hr, hsy, hm, hinv, hfe, htp⟩, fits, rfl⟩
      · cases h
    · cases h
  · rintro ⟨e, st, r, sy, m, inv, fe, tp, ⟨he, hst, hr, hsy, hm, hinv, hfe, htp⟩, fits, rfl⟩
    simp only [he, hst, hr, hsy, hm, hinv, hfe, htp]
    exact if_pos fits

theorem trigger_present_iff {b : Byte} {v : Bool} (h : flag? b = some v) : v = true ↔ b = 1 := by
  rw [flag?_eq_some h, decide_eq_true_eq]

/-- The ranges of COUNTER_SET. -/
theorem counterConfig?_ne_none (x : CounterFields) : counterConfig? x ≠ none ↔
    (x.event.toNat ≤ 15 ∧ (x.station.toNat < 16 ∨ x.station = 255) ∧ (x.robot.toNat < 64 ∨ x.robot = 255)
      ∧ (x.style.toNat < 64 ∨ x.style = 255) ∧ x.mode.toNat < 4
      ∧ (x.event = 0 ∨ (1 ≤ x.event.toNat ∧ x.event.toNat ≤ 12 ∧ x.mode = 0) ∨ (13 ≤ x.event.toNat ∧ x.mode ≠ 0))
      ∧ x.invert.toNat ≤ 1 ∧ x.freezeEnable.toNat ≤ 1 ∧ x.triggerPresent.toNat ≤ 1
      ∧ (x.triggerPresent = 1 → x.trigger ≠ 0)) := by
  rw [Option.ne_none_iff_exists']
  simp only [counterConfig?_eq_some]
  constructor
  · rintro ⟨c, e, st, r, sy, m, inv, fe, tp, ⟨he, hst, hr, hsy, hm, hinv, hfe, htp⟩, ⟨fits, trigger⟩, rfl⟩
    refine ⟨(counterEvent?_isSome _).mp (by rw [he]; rfl), (filter?_isSome _ _).mp (by rw [hst]; rfl),
      (filter?_isSome _ _).mp (by rw [hr]; rfl), (filter?_isSome _ _).mp (by rw [hsy]; rfl),
      (counterMode?_isSome _).mp (by rw [hm]; rfl), (modeFits_iff he hm).mp fits, (flag?_isSome _).mp (by rw [hinv]; rfl),
      (flag?_isSome _).mp (by rw [hfe]; rfl), (flag?_isSome _).mp (by rw [htp]; rfl), fun present zero => ?_⟩
    exact trigger ⟨(trigger_present_iff htp).mpr present, zero⟩
  · rintro ⟨he, hst, hr, hsy, hm, fits, hinv, hfe, htp, trigger⟩
    obtain ⟨e, he⟩ := Option.isSome_iff_exists.mp ((counterEvent?_isSome _).mpr he)
    obtain ⟨st, hst⟩ := Option.isSome_iff_exists.mp ((filter?_isSome _ _).mpr hst)
    obtain ⟨r, hr⟩ := Option.isSome_iff_exists.mp ((filter?_isSome _ _).mpr hr)
    obtain ⟨sy, hsy⟩ := Option.isSome_iff_exists.mp ((filter?_isSome _ _).mpr hsy)
    obtain ⟨m, hm⟩ := Option.isSome_iff_exists.mp ((counterMode?_isSome _).mpr hm)
    obtain ⟨inv, hinv⟩ := Option.isSome_iff_exists.mp ((flag?_isSome _).mpr hinv)
    obtain ⟨fe, hfe⟩ := Option.isSome_iff_exists.mp ((flag?_isSome _).mpr hfe)
    obtain ⟨tp, htp⟩ := Option.isSome_iff_exists.mp ((flag?_isSome _).mpr htp)
    exact ⟨_, e, st, r, sy, m, inv, fe, tp, ⟨he, hst, hr, hsy, hm, hinv, hfe, htp⟩, ⟨(modeFits_iff he hm).mpr fits,
      fun ⟨present, zero⟩ => trigger ((trigger_present_iff htp).mp present) zero⟩, rfl⟩

/-! ## The requests of the counters (R186, R188, R189) -/

theorem State.counterSet_of_fields {x : CounterFields} {k : Fin 8} {c : CounterConfig} (hk : x.counter.toNat = k)
    (config : counterConfig? x = some c) (u : State) : u.counterSet x = (u.setCounter k ⟨x.value, c, false⟩, .ok) := by
  simp only [State.counterSet, below?_of_eq hk, config]

theorem State.counterSet_of_range {x : CounterFields} (h : 8 ≤ x.counter.toNat ∨ counterConfig? x = none) (u : State) :
    u.counterSet x = (u, .range) := by
  unfold State.counterSet
  split
  · next counter config =>
    rcases h with h | h
    · rw [below?_of_le h] at counter; cases counter
    · rw [h] at config; cases config
  · rfl

theorem State.counterRead_of_below {b : Byte} {k : Fin 8} (hk : b.toNat = k) (u : State) :
    u.counterRead b = (.ok, u48 (u.counter k).value.toNat ++ counterConfigBytes (u.counter k).config
      ++ flagByte u.emu.freeze) := by
  have other : b ≠ 255 := by
    rintro rfl
    have := k.isLt
    simp at hk
    omega
  simp only [State.counterRead, if_neg other, below?_of_eq hk, orRange]

theorem State.counterRead_of_range {b : Byte} (h : 8 ≤ b.toNat) (other : b ≠ 255) (u : State) :
    u.counterRead b = (.range, []) := by
  simp only [State.counterRead, if_neg other, below?_of_le h, orRange]

/-- Settles O38: the requests write EMU alone, and the fields are read one by one. -/
theorem countersWritten : Obligations.CountersWritten := by
  refine ⟨fun s f quiet => ⟨fun x k c hk config => ?set, fun x range => ?setRange, fun b k hk => ?read, ?readAll,
    fun b range other => ?readRange, ?freeze, ?unfreeze⟩, counterConfig?_ne_none, fun x c config => ?fields⟩
  case set =>
    exact congrArg Host.Outcome.next (State.request_of_done (r := .counterSet x) quiet rfl
      (congrArg bare (State.counterSet_of_fields hk config _)) (s.begin.setCounter_leads k _) rfl
      (State.image_of_leads (s.begin.setCounter_leads k _)))
  case setRange =>
    exact congrArg Host.Outcome.next (State.request_of_bare (r := .counterSet x) quiet rfl
      (congrArg bare (State.counterSet_of_range range _)))
  case read =>
    exact congrArg Host.Outcome.next (State.request_of_unchanged (r := .counterRead b) quiet rfl
      (congrArg (Prod.mk _) (State.counterRead_of_below hk _)))
  case readAll =>
    exact congrArg Host.Outcome.next (State.request_of_unchanged (r := .counterRead 255) quiet rfl rfl)
  case readRange =>
    exact congrArg Host.Outcome.next (State.request_of_unchanged (r := .counterRead b) quiet rfl
      (congrArg (Prod.mk _) (State.counterRead_of_range range other _)))
  case freeze =>
    exact congrArg Host.Outcome.next (State.request_of_done (r := .counterFreeze) quiet rfl rfl
      (s.begin.setFreeze_leads true) rfl (State.image_of_leads (s.begin.setFreeze_leads true)))
  case unfreeze =>
    exact congrArg Host.Outcome.next (State.request_of_done (r := .counterUnfreeze) quiet rfl rfl
      (s.begin.setFreeze_leads false) rfl (State.image_of_leads (s.begin.setFreeze_leads false)))
  case fields =>
    obtain ⟨e, st, r, sy, m, inv, fe, tp, ⟨he, hst, hr, hsy, hm, hinv, hfe, htp⟩, _, rfl⟩ := counterConfig?_eq_some.mp config
    refine ⟨he, filter?_eq_some hst, filter?_eq_some hr, filter?_eq_some hsy, hm, rfl, flag?_eq_some hinv,
      flag?_eq_some hfe, ?_⟩
    exact if_congr (trigger_present_iff htp) rfl rfl

end Sys2Proof.Machine
end

section
/-! PROGRAM_WRITE: its ranges, its record and its effect (the statement O14). -/

namespace Sys2Proof.Machine

/-! ## A record put into a program table (R35) -/

theorem lookup_insertRecord_self (k : Nat) (x : ProgramRecord) (l : List (Nat × ProgramRecord)) :
    (insertRecord k x l).lookup k = some x := by
  induction l with
  | nil => simp [insertRecord]
  | cons p l ih =>
    obtain ⟨n, y⟩ := p
    unfold insertRecord
    split
    · simp
    · split
      · simp
      · next _ other =>
        rw [List.lookup_cons, beq_eq_false_iff_ne.mpr other, ih]

theorem lookup_insertRecord_of_ne {k k' : Nat} (h : k' ≠ k) (x : ProgramRecord) (l : List (Nat × ProgramRecord)) :
    (insertRecord k x l).lookup k' = l.lookup k' := by
  have skip : (k' == k) = false := beq_eq_false_iff_ne.mpr h
  induction l with
  | nil => simp [insertRecord, List.lookup_cons, skip]
  | cons p l ih =>
    obtain ⟨n, y⟩ := p
    unfold insertRecord
    split
    · rw [List.lookup_cons, skip]
    · split
      · next here =>
        subst here
        rw [List.lookup_cons, List.lookup_cons, skip]
      · rw [List.lookup_cons, List.lookup_cons, ih]

/-- A bank with a record put at a key. -/
def Bank.written (x : Bank) (k : Nat) (y : ProgramRecord) : Bank := { x with programs := insertRecord k y x.programs }

theorem Bank.record?_written_self (x : Bank) (k : Nat) (y : ProgramRecord) : (x.written k y).record? k = some y :=
  lookup_insertRecord_self k y _

theorem Bank.record?_written_of_ne {k k' : Nat} (h : k' ≠ k) (x : Bank) (y : ProgramRecord) :
    (x.written k y).record? k' = x.record? k' := lookup_insertRecord_of_ne h y _

theorem Bank.recordCount_written {x : Bank} (rise : keysRise x.programs = true) (k : Nat) (y : ProgramRecord) :
    (x.written k y).recordCount = x.recordCount + if x.record? k = none then 1 else 0 := by
  refine (StepKept.length_insertRecord k y rise).trans ?_
  unfold Bank.record? Bank.recordCount
  split <;> rfl

/-! ## The fields of PROGRAM_WRITE (R34) -/

theorem shiftKind?_eq (b : Byte) : shiftKind? b = ([.rl, .rc, .ll, .lc] : List ShiftKind)[b.toNat]? := by
  by_cases low : b.toNat < 4
  · have value : b = 0 ∨ b = 1 ∨ b = 2 ∨ b = 3 := by bv_omega
    rcases value with rfl | rfl | rfl | rfl <;> rfl
  · rw [shiftKind?_of_le (by omega), List.getElem?_eq_none (by simpa using low)]

theorem shiftKind?_isSome (b : Byte) : (shiftKind? b).isSome = true ↔ b.toNat < 4 := by
  rw [shiftKind?_eq, isSome_getElem?]
  simp

/-- An adder place in range: a bit of the mask, with a delta in -64..63. -/
def goodAdder (mask : Byte) (p : Byte × Byte) : Prop :=
  p.1.toNat < 8 ∧ mask.getLsbD p.1.toNat = true ∧ -64 ≤ p.2.toInt ∧ p.2.toInt ≤ 63

/-- The adders read where every place is in range and no bit is named twice. -/
theorem adders?_eq_some {mask : Byte} {seen : List Nat} {l : List (Byte × Byte)} {r : List Adder} :
    adders? mask seen l = some r
      ↔ (∀ p ∈ l, goodAdder mask p ∧ p.1.toNat ∉ seen) ∧ l.Pairwise (fun p q => p.1 ≠ q.1)
        ∧ r = l.map (fun p => ⟨p.1.toNat, p.2.toInt⟩) := by
  induction l generalizing seen r with
  | nil => simp [adders?, eq_comm]
  | cons p l ih =>
    obtain ⟨b, d⟩ := p
    unfold adders?
    constructor
    · intro h
      split at h
      · next good =>
        obtain ⟨tail, htail, rfl⟩ := Option.map_eq_some_iff.mp h
        obtain ⟨all, distinct, rfl⟩ := ih.mp htail
        obtain ⟨bit, masked, fresh, low, high⟩ := good
        refine ⟨fun q hq => ?_, List.pairwise_cons.mpr ⟨fun q hq same => ?_, distinct⟩, rfl⟩
        · rcases List.mem_cons.mp hq with rfl | hq
          · exact ⟨⟨bit, masked, low, high⟩, fresh⟩
          · exact ⟨(all q hq).1, fun old => (all q hq).2 (List.mem_cons_of_mem _ old)⟩
        · refine (all q hq).2 ?_
          rw [← same]
          exact List.mem_cons_self
      · cases h
    · rintro ⟨all, distinct, rfl⟩
      obtain ⟨⟨⟨bit, masked, low, high⟩, fresh⟩, rest⟩ := List.forall_mem_cons.mp all
      obtain ⟨other, distinct⟩ := List.pairwise_cons.mp distinct
      rw [if_pos ⟨bit, masked, fresh, low, high⟩, ih.mpr ⟨fun q hq => ⟨(rest q hq).1, fun old => ?_⟩, distinct, rfl⟩]
      · rfl
      · rcases List.mem_cons.mp old with same | old
        · exact other q hq (BitVec.eq_of_toNat_eq same.symm)
        · exact (rest q hq).2 old

theorem flag?_cases (b : Byte) : (b = 0 ∧ flag? b = some false) ∨ (b = 1 ∧ flag? b = some true)
    ∨ (b ≠ 0 ∧ b ≠ 1 ∧ flag? b = none) := by
  by_cases zero : b = 0
  · exact .inl ⟨zero, if_pos zero⟩
  · by_cases one : b = 1
    · exact .inr (.inl ⟨one, by rw [flag?, if_neg zero, if_pos one]⟩)
    · exact .inr (.inr ⟨zero, one, by rw [flag?, if_neg zero, if_neg one]⟩)

theorem overlay?_eq_some {x : ProgramFields} {o : Option Overlay} :
    overlay? x = some o ↔ (x.overlay = 0 ∧ o = none)
      ∨ (x.overlay = 1 ∧ ∃ kind, shiftKind? x.kind = some kind ∧ x.count.toNat ≤ 31 ∧ x.mask ≠ 0
        ∧ o = some ⟨kind, x.count.toNat, x.mask⟩) := by
  unfold overlay?
  rcases flag?_cases x.overlay with ⟨zero, flag⟩ | ⟨one, flag⟩ | ⟨zero, one, flag⟩
  · have other : x.overlay ≠ 1 := fun one => absurd (zero.symm.trans one) (by decide)
    rw [flag]
    exact ⟨fun h => .inl ⟨zero, (Option.some.inj h).symm⟩, fun h => (h.resolve_right fun h => other h.1).2 ▸ rfl⟩
  · have other : x.overlay ≠ 0 := fun zero => absurd (zero.symm.trans one) (by decide)
    rw [flag]
    refine Iff.trans ?_ (or_iff_right fun h => other h.1).symm
    cases shiftKind? x.kind with
    | none => exact ⟨nofun, fun ⟨_, _, h, _⟩ => nomatch h⟩
    | some kind =>
      dsimp only
      split
      · next range =>
        exact ⟨fun h => ⟨one, kind, rfl, range.1, range.2, by simpa using h.symm⟩,
          fun ⟨_, _, same, _, _, h⟩ => by cases same; rw [h]⟩
      · next range => exact ⟨nofun, fun ⟨_, _, _, count, mask, _⟩ => (range ⟨count, mask⟩).elim⟩
  · rw [flag]
    exact ⟨nofun, fun h => h.elim (fun h => (zero h.1).elim) (fun h => (one h.1).elim)⟩

/-- The record that PROGRAM_WRITE gives, as its fields are read. -/
theorem programWrite?_eq_some {x : ProgramFields} {k : Nat} {y : ProgramRecord} :
    programWrite? x = some (k, y) ↔ ∃ st p sy o l,
      (below? 16 x.station = some st ∧ below? 8 x.position = some p ∧ below? 64 x.style = some sy ∧ overlay? x = some o)
      ∧ (x.program ≠ 0 ∧ x.expected.toNat ≤ 1023 ∧ x.adders.toNat ≤ 4 ∧ (x.adders.toNat = 0 ∨ o.isSome))
      ∧ adders? ((o.map (·.mask)).getD 0) [] (x.places.toList.take x.adders.toNat) = some l
      ∧ k = programKey st p sy ∧ y = ⟨x.program, x.expected.toNat, o, l⟩ := by
  unfold programWrite?
  constructor
  · intro h
    split at h
    · next st p sy o hst hp hsy ho =>
      split at h
      · next range =>
        obtain ⟨l, hl, eq⟩ := Option.map_eq_some_iff.mp h
        cases eq
        exact ⟨st, p, sy, o, l, ⟨hst, hp, hsy, ho⟩, range, hl, rfl, rfl⟩
      · cases h
    · cases h
  · rintro ⟨st, p, sy, o, l, ⟨hst, hp, hsy, ho⟩, range, hl, rfl, rfl⟩
    simp only [hst, hp, hsy, ho]
    rw [if_pos (by exact range), hl]
    rfl

theorem places_take (x : ProgramFields) (h : x.adders.toNat ≤ 4) (P : Byte × Byte → Prop) :
    (∀ p ∈ x.places.toList.take x.adders.toNat, P p) ↔ ∀ i : Fin 4, (i : Nat) < x.adders.toNat → P x.places[i] := by
  simp only [List.forall_mem_iff_getElem, List.length_take, Vector.length_toList, List.getElem_take, Vector.getElem_toList]
  exact ⟨fun all i hi => all i (by omega), fun all i hi => all ⟨i, by omega⟩ (by simp; omega)⟩

theorem places_take_pairwise (x : ProgramFields) (h : x.adders.toNat ≤ 4) :
    (x.places.toList.take x.adders.toNat).Pairwise (fun p q => p.1 ≠ q.1)
      ↔ ∀ i : Fin 4, (i : Nat) < x.adders.toNat → ∀ j : Fin 4, j < i → (x.places[j]).1 ≠ (x.places[i]).1 := by
  rw [List.pairwise_iff_getElem]
  simp only [List.length_take, Vector.length_toList, List.getElem_take, Vector.getElem_toList]
  refine ⟨fun all i hi j hj => all j i (by omega) (by omega) hj, fun all i j hi hj below => ?_⟩
  exact all ⟨j, by omega⟩ (by simp; omega) ⟨i, by omega⟩ below

/-- The ranges of PROGRAM_WRITE. -/
theorem programWrite?_ne_none (x : ProgramFields) : programWrite? x ≠ none ↔
    (x.station.toNat < 16 ∧ x.position.toNat < 8 ∧ x.style.toNat < 64 ∧ x.program ≠ 0 ∧ x.expected.toNat ≤ 1023
      ∧ ((x.overlay = 0 ∧ x.adders = 0)
        ∨ (x.overlay = 1 ∧ x.kind.toNat < 4 ∧ x.count.toNat ≤ 31 ∧ x.mask ≠ 0 ∧ x.adders.toNat ≤ 4
          ∧ ∀ i : Fin 4, (i : Nat) < x.adders.toNat →
            (x.places[i]).1.toNat < 8 ∧ x.mask.getLsbD (x.places[i]).1.toNat = true
            ∧ -64 ≤ (x.places[i]).2.toInt ∧ (x.places[i]).2.toInt ≤ 63
            ∧ ∀ j : Fin 4, j < i → (x.places[j]).1 ≠ (x.places[i]).1))) := by
  rw [Option.ne_none_iff_exists', Prod.exists]
  simp only [programWrite?_eq_some, overlay?_eq_some, adders?_eq_some]
  constructor
  · rintro ⟨k, y, st, p, sy, o, l, ⟨hst, hp, hsy, ho⟩, ⟨program, expected, few, carried⟩, ⟨good, distinct, rfl⟩, _, _⟩
    refine ⟨(below?_isSome _ _).mp (by rw [hst]; rfl), (below?_isSome _ _).mp (by rw [hp]; rfl),
      (below?_isSome _ _).mp (by rw [hsy]; rfl), program, expected, ?_⟩
    rcases ho with ⟨zero, rfl⟩ | ⟨one, kind, hkind, count, mask, rfl⟩
    · have none : x.adders.toNat = 0 := carried.resolve_right (by simp)
      exact .inl ⟨zero, BitVec.eq_of_toNat_eq none⟩
    · refine .inr ⟨one, (shiftKind?_isSome _).mp (by rw [hkind]; rfl), count, mask, few, fun i hi => ?_⟩
      obtain ⟨⟨bit, masked, low, high⟩, _⟩ := (places_take x few _).mp good i hi
      exact ⟨bit, masked, low, high, (places_take_pairwise x few).mp distinct i hi⟩
  · rintro ⟨hst, hp, hsy, program, expected, overlay⟩
    have read {n : Nat} {b : Byte} (h : b.toNat < n) : below? n b = some ⟨b.toNat, h⟩ := below?_of_eq rfl
    rcases overlay with ⟨zero, none⟩ | ⟨one, hkind, count, mask, few, places⟩
    · refine ⟨_, _, _, _, _, Option.none, _, ⟨read hst, read hp, read hsy, .inl ⟨zero, rfl⟩⟩,
        ⟨program, expected, ?_, ?_⟩, ⟨?_, ?_, rfl⟩, rfl, rfl⟩
      all_goals simp [none]
    · obtain ⟨kind, hkind⟩ := Option.isSome_iff_exists.mp ((shiftKind?_isSome _).mpr hkind)
      refine ⟨_, _, _, _, _, some ⟨kind, x.count.toNat, x.mask⟩, _,
        ⟨read hst, read hp, read hsy, .inr ⟨one, kind, hkind, count, mask, rfl⟩⟩,
        ⟨program, expected, few, .inr rfl⟩, ⟨(places_take x few _).mpr fun i hi => ?_,
          (places_take_pairwise x few).mpr fun i hi => ?_, rfl⟩, rfl, rfl⟩
      · obtain ⟨bit, masked, low, high, _⟩ := places i hi
        exact ⟨⟨bit, masked, low, high⟩, by simp⟩
      · obtain ⟨_, _, _, _, distinct⟩ := places i hi
        exact distinct

/-! ## PROGRAM_WRITE handed to a quiet part (R34, R35) -/

theorem State.programWrite_of_range {x : ProgramFields} (h : programWrite? x = none) (u : State) :
    u.programWrite x = (u, .range) := by
  simp only [State.programWrite, h]

theorem State.programWrite_of_shadow {x : ProgramFields} {k : Nat} {y : ProgramRecord} (h : programWrite? x = some (k, y))
    {u : State} {id : BankId} (shadow : u.tbs.shadow? = some id) :
    u.programWrite x = if ((u.bank id).record? k).isNone ∧ 1024 ≤ (u.bank id).recordCount then (u, .full)
      else (u.setBank id ((u.bank id).written k y), .ok) := by
  simp only [State.programWrite, h, shadow]
  rfl

/-- Settles O14: the record is put at its key, and the fields are read one by one. -/
theorem programWritten : Obligations.ProgramWritten := by
  refine ⟨fun s f x id quiet drained hid => ?_, programWrite?_ne_none, fun x k y written => ?_⟩
  · have shadow : s.tbs.shadow? = some id := hid ▸ Tbs.shadow?_of_not_draining drained
    refine ⟨fun k y fields room => ?_, fun k y fields absent full => ?_, fun range => ?_⟩
    · have ran := State.programWrite_of_shadow fields (u := s.posed f (.programWrite x)) (by exact shadow)
      have fits : ¬ (((s.bank id).record? k).isNone = true ∧ 1024 ≤ (s.bank id).recordCount) := by
        rintro ⟨absent, full⟩
        rcases room with held | room
        · exact held (by simpa using absent)
        · omega
      have done := State.request_of_bank (r := .programWrite x) quiet rfl
        (congrArg bare (ran.trans (if_neg (by exact fits))))
      refine ⟨_, congrArg Host.Outcome.next done, ?_⟩
      obtain ⟨⟨_, node⟩, _⟩ := s.quiet_iff.mp quiet
      simp only [State.answered_bank, State.answered_tbs, State.bank_setBank, if_true, if_neg id.ne_other,
        State.active_setBank, State.draining_setBank]
      refine ⟨Bank.record?_written_self _ _ _, fun k' other => Bank.record?_written_of_ne other _ _, rfl, rfl, rfl, rfl,
        drained, fun wf => Bank.recordCount_written (State.tablesWf_keysRise wf id) k y, ?issued, ?frame⟩
      case issued => rw [State.answered_issued (by simpa using node), State.setBank_issued]; rfl
      case frame => exact (State.leads_seq (s.begin.setBank_leads id _) (State.answered_leads ..) (by simp) (by simp)).1
    · have ran := State.programWrite_of_shadow fields (u := s.posed f (.programWrite x)) (by exact shadow)
      have none : ((s.bank id).record? k).isNone = true := by rw [absent]; rfl
      exact congrArg Host.Outcome.next (State.request_of_bare (r := .programWrite x) quiet rfl
        (congrArg bare (ran.trans (if_pos (by exact ⟨none, full⟩)))))
    · exact congrArg Host.Outcome.next (State.request_of_bare (r := .programWrite x) quiet rfl
        (congrArg bare (State.programWrite_of_range range _)))
  · obtain ⟨st, p, sy, o, l, ⟨hst, hp, hsy, ho⟩, ⟨_, _, few, carried⟩, adders, rfl, rfl⟩ :=
      programWrite?_eq_some.mp written
    obtain ⟨_, _, rfl⟩ := adders?_eq_some.mp adders
    refine ⟨?_, rfl, rfl, fun zero => ?_, fun one => ?_⟩
    · rw [below?_eq_some.mp hst, below?_eq_some.mp hp, below?_eq_some.mp hsy]
      rfl
    · rcases overlay?_eq_some.mp ho with ⟨_, rfl⟩ | ⟨one, _⟩
      · have none : x.adders.toNat = 0 := carried.resolve_right (by simp)
        exact ⟨rfl, by simp [none]⟩
      · exact absurd (zero.symm.trans one) (by decide)
    · rcases overlay?_eq_some.mp ho with ⟨zero, _⟩ | ⟨_, kind, hkind, _, _, rfl⟩
      · exact absurd (zero.symm.trans one) (by decide)
      · exact ⟨kind, by rw [← shiftKind?_eq, hkind], rfl, rfl⟩

end Sys2Proof.Machine
end

section
/-! What a telegram or a timer leaves where it called for no pass, and the weld supply's requests and returns (the statements
O54 and O55). -/

namespace Sys2Proof.Machine

/-! ## Events without a pass -/

theorem State.begin_keeps {s t : State} {l : List Block} (h : s.begin.keeps t l) : s.keeps t l := h

/-- An event whose own work calls for no pass, keeps the nodes and leaves the image as reported ends as its work does. -/
theorem State.telegram_eq {s t : State} {work : State → State} (ready : s.ready = true) (h : work s.begin = t)
    (pass : t.passDue = false) (nodes : t.formerNodes = none) (settled : t.settled = true) : s.telegram work = t := by
  rw [State.telegram_of_ready ready, h, State.finish_of_settled pass settled nodes]

theorem State.event_eq {s t : State} {work : State → State} (running : s.lif.inReset = false) (h : work s.begin = t)
    (pass : t.passDue = false) (nodes : t.formerNodes = none) (settled : t.settled = true) : s.event work = t := by
  rw [State.event_of_running running, h, State.finish_of_settled pass settled nodes]

/-- The frame of an event without a pass: what its work may change, the ports' stores and the reported image. -/
theorem State.finish_keeps_of_leads {s u : State} {l n : List Block} (kept : s.begin.leads u l) (calm : u.calm)
    (sub : l ⊆ n := by simp) (lif : .lif ∈ n := by simp) (piu : .piu ∈ n := by simp) : s.keeps u.finish n :=
  State.begin_keeps (State.keeps_trans (State.keeps_mono kept.1 sub)
    (State.keeps_mono (State.finish_keeps_of_calm calm) (by simp [lif, piu])))

/-- The same where the work leaves the image as reported. -/
theorem State.finish_keeps_of_settled {s u : State} {l n : List Block} (kept : s.begin.leads u l) (calm : u.calm)
    (settled : u.settled = true) (sub : l ⊆ n := by simp) : s.keeps u.finish n :=
  State.begin_keeps (State.keeps_trans (State.keeps_mono kept.1 sub)
    (State.keeps_mono (State.finish_keeps_of_calm_settled calm settled).1 (by simp)))

theorem State.settled_iff (s : State) : s.settled = true ↔ s.piu.reported = s.image := decide_eq_true_iff

theorem State.settled_of_image {s t : State} (settled : s.settled = true) (image : t.image = s.image)
    (piu : t.piu = s.piu) : t.settled = true := by
  rw [State.settled_iff] at settled ⊢
  rw [image, piu, settled]

/-- Work that touches neither the stations, the tracker nor the image leaves the image as reported. -/
theorem State.settled_of_leads {s t : State} {l : List Block} (kept : s.leads t l) (settled : s.settled = true)
    (stc : .stc ∉ l := by simp) (dtr : .dtr ∉ l := by simp) (piu : .piu ∉ l := by simp) : t.settled = true :=
  State.settled_of_image settled (State.image_of_leads kept stc dtr piu) (kept.1.2 .piu piu)

/-! ## The DRESSING bit as the tracker changes (R166) -/

/-- Whether an entry lights the DRESSING bit of a station. -/
def Entry.dresses (e : Entry) (st : Fin 16) : Bool := e.kind == .dress && e.state == .welding && e.station == st

theorem Entry.dresses_of_state {e : Entry} (h : e.state ≠ .welding) (st : Fin 16) : e.dresses st = false := by
  simp [Entry.dresses, h]

theorem Entry.dresses_of_kind {e : Entry} (h : e.kind ≠ .dress) (st : Fin 16) : e.dresses st = false := by
  simp [Entry.dresses, h]

theorem State.dressing_iff_dresses (s : State) (st : Fin 16) :
    s.dressing st = true ↔ ∃ i, (s.entry? i).any (·.dresses st) = true := by
  rw [State.dressing_iff]
  simp only [Option.any_eq_true, Entry.dresses, Bool.and_eq_true, beq_iff_eq, and_assoc]

theorem State.dressing_congr {s t : State} {st : Fin 16}
    (h : ∀ i, (t.entry? i).any (·.dresses st) = (s.entry? i).any (·.dresses st)) : t.dressing st = s.dressing st := by
  rw [Bool.eq_iff_iff, State.dressing_iff_dresses, State.dressing_iff_dresses]
  simp only [h]

/-- What the image shows: of each station whether its CURRENT slot is RELEASED, its state and whether a DRESS is WELDING, and
the output bits' records. -/
theorem State.image_of_shown {s t : State}
    (permit : ∀ q, (t.station q).current.any (fun c => decide (c.state = .released))
      = (s.station q).current.any (fun c => decide (c.state = .released)))
    (state : ∀ q, (t.station q).state = (s.station q).state) (dressing : ∀ q, t.dressing q = s.dressing q)
    (bits : ∀ q, (t.panel q).bits = (s.panel q).bits) : t.image = s.image := by
  have bit (q : Fin 16) (b : Fin 4) : t.effectiveBit q b = s.effectiveBit q b := by
    simp only [State.effectiveBit, State.computedBit, bits, permit, state, dressing]
  refine congrArg (tabulate 16) (funext fun q => ?_)
  simp only [State.effectiveByte, bit]

/-- The image stays where the stations and the panels do and no DRESSING bit changes. -/
theorem State.image_of_dresses {s t : State} (stc : t.stc = s.stc) (panels : t.piu.panels = s.piu.panels)
    (h : ∀ i st, (t.entry? i).any (·.dresses st) = (s.entry? i).any (·.dresses st)) : t.image = s.image := by
  refine State.image_of_shown (fun q => by rw [State.station_congr stc]) (fun q => by rw [State.station_congr stc])
    (fun q => State.dressing_congr fun i => h i q) (fun q => ?_)
  simp only [State.panel, panels]

/-- The image stays where a station keeps its state and its CURRENT slot is RELEASED as before. -/
theorem State.image_setStation {s : State} {st : Fin 16} {x : Station}
    (permit : x.current.any (fun c => decide (c.state = .released))
      = (s.station st).current.any (fun c => decide (c.state = .released)))
    (state : x.state = (s.station st).state) : (s.setStation st x).image = s.image := by
  refine State.image_of_shown (fun q => ?_) (fun q => ?_) (fun _ => rfl) (fun _ => rfl)
  all_goals
    rw [State.station_setStation]
    split
    · next here => subst here; assumption
    · rfl

/-- The image stays where only the levels of a panel are written. -/
theorem State.image_setPanel {s : State} {st : Fin 16} {x : Panel} (bits : x.bits = (s.panel st).bits) :
    (s.setPanel st x).image = s.image := by
  refine State.image_of_shown (fun _ => rfl) (fun _ => rfl) (fun _ => rfl) (fun q => ?_)
  rw [State.panel_setPanel]
  split
  · next here => subst here; exact bits
  · rfl

theorem State.image_setEntry {s : State} {i : Fin 128} {x : Option Entry}
    (h : ∀ st, x.any (·.dresses st) = (s.entry? i).any (·.dresses st)) : (s.setEntry i x).image = s.image := by
  refine State.image_of_dresses rfl rfl fun j st => ?_
  rw [State.entry_setEntry]
  split
  · next here => rw [h, here]
  · rfl

theorem State.settled_setEntry {s : State} {i : Fin 128} {e x : Entry} (settled : s.settled = true)
    (he : s.entry? i = some e) (h : ∀ st, x.dresses st = e.dresses st) : (s.setEntry i (some x)).settled = true :=
  State.settled_of_image settled (State.image_setEntry fun st => by rw [he]; exact h st) rfl

theorem State.setEntry_eq_setPlace (s : State) (i : Fin 128) (x : Option Entry) :
    s.setEntry i x = s.setPlace i ⟨(s.place i).issue, x⟩ := rfl

/-! ## Groups and grants (6.1, 6.2) -/

theorem groupPlace?_of_zero {g : Fin 9} (h : g = 0) : groupPlace? g = none := by
  subst h
  rfl

theorem groupPlace?_of_eq {g : Fin 9} {k : Fin 8} (h : (g : Nat) = k + 1) : groupPlace? g = some k := by
  simp [groupPlace?, h]

theorem State.grant_of_some {s : State} {i : Fin 128} {e : Entry} (h : s.entry? i = some e) (g : Fin 8) :
    s.grant g i = ((s.setEntry i (some { e with
      supply := .holding, holdTimer := some ((s.group g).holdLimit + 1) })).setGroup g
        { s.group g with pointer := some e.robot }).issue (.weldGrant (s.robot e.robot).node (s.tag i) false) := by
  have tag (x : Option Entry) (y : Group) : ((s.setEntry i x).setGroup g y).tag i = s.tag i := s.tag_setEntry i i x
  simp only [State.grant, h, State.issueToRobot, tag]
  rfl

/-- The lowest robot of a list is the member of the least number, where no other has that number. -/
theorem State.lowestRobot?_of_least {s : State} {l : List (Fin 128)} {j : Fin 128} (mem : j ∈ l)
    (least : ∀ k ∈ l, s.robotNumber j ≤ s.robotNumber k) (only : ∀ k ∈ l, s.robotNumber k = s.robotNumber j → k = j) :
    s.lowestRobot? l = some j := by
  have bound : ∀ (l : List (Fin 128)) (i : Fin 128), s.lowestRobot? l = some i → ∀ k ∈ l, s.robotNumber i ≤ s.robotNumber k := by
    intro l
    induction l with
    | nil => simp
    | cons i l ih =>
      intro found h k hk
      unfold State.lowestRobot? at h
      split at h
      · next none =>
        cases h
        rcases List.mem_cons.mp hk with rfl | hk
        · exact le_rfl
        · cases l with
          | nil => cases hk
          | cons _ _ => unfold State.lowestRobot? at none; split at none <;> (try split at none) <;> cases none
      · next m hm =>
        have tail := ih m hm
        split at h <;> cases h <;> rcases List.mem_cons.mp hk with rfl | hk
        · exact le_rfl
        · exact le_trans (by assumption) (tail k hk)
        · omega
        · exact tail k hk
  cases found : s.lowestRobot? l with
  | none =>
    cases l with
    | nil => cases mem
    | cons _ _ => unfold State.lowestRobot? at found; split at found <;> (try split at found) <;> cases found
  | some i =>
    have member := State.lowestRobot?_mem found
    rw [only i member (le_antisymm (bound l i found j mem) (least i member))]

/-- The waiter that a freed credit goes to: the first after the pointer, or the first of all where none stands after it. -/
theorem State.nextWaiter?_of_first {s : State} {g : Fin 8} {l : List (Fin 128)} {j : Fin 128} (mem : j ∈ l)
    (only : ∀ k ∈ l, s.robotNumber k = s.robotNumber j → k = j)
    (first : (∃ q : Fin 64, (s.group g).pointer = some q ∧ (q : Nat) < s.robotNumber j
        ∧ ∀ k ∈ l, (q : Nat) < s.robotNumber k → s.robotNumber j ≤ s.robotNumber k)
      ∨ ((∀ q : Fin 64, (s.group g).pointer = some q → ∀ k ∈ l, s.robotNumber k ≤ (q : Nat))
        ∧ ∀ k ∈ l, s.robotNumber j ≤ s.robotNumber k)) : s.nextWaiter? g l = some j := by
  unfold State.nextWaiter?
  rcases first with ⟨q, pointer, after, least⟩ | ⟨none, least⟩
  · simp only [pointer]
    rw [State.lowestRobot?_of_least (j := j) (by simp [mem, after]) (fun k hk => ?_) (fun k hk => ?_)]
    · rfl
    · rw [List.mem_filter, decide_eq_true_iff] at hk
      exact least k hk.1 hk.2
    · exact only k (List.mem_of_mem_filter hk)
  · have all := State.lowestRobot?_of_least mem least only
    split
    · exact all
    · next q pointer =>
      have empty : l.filter (fun i => decide ((q : Nat) < s.robotNumber i)) = [] :=
        List.filter_eq_nil_iff.mpr fun k hk => by simpa using none q pointer k hk
      rw [empty, all]
      rfl

theorem State.nextWaiter?_nil (s : State) (g : Fin 8) : s.nextWaiter? g [] = none := by
  unfold State.nextWaiter?
  split <;> rfl

/-- An entry that gives its standing back and does not wait changes no group's waiters but by leaving them. -/
theorem State.waiters_setEntry_of_none {s : State} {i : Fin 128} {e x : Entry} (he : s.entry? i = some e)
    (was : e.supply ≠ .waiting) (now : x.supply ≠ .waiting) (g : Fin 8) :
    (s.setEntry i (some x)).waiters g = s.waiters g := by
  refine List.filter_congr fun j _ => ?_
  unfold State.standsIn
  rw [State.entry_setEntry]
  split
  · next here =>
    subst here
    rw [he, Option.any_some, Option.any_some, beq_eq_false_iff_ne.mpr was, beq_eq_false_iff_ne.mpr now]
    rfl
  · rfl

theorem State.releaseSupply_of_group {s : State} {i : Fin 128} {e : Entry} {g : Fin 8} (he : s.entry? i = some e)
    (supply : e.supply = .holding) (group : s.groupOf? e = some g) (ban : List (Fin 128)) :
    s.releaseSupply i ban = (s.setEntry i (some { e with supply := .none, holdTimer := none })).handOn g ban := by
  simp only [State.releaseSupply, he, supply, group]

/-- An entry that holds no credit of a group hands none on. -/
theorem State.releaseSupply_of_no_credit {s : State} {i : Fin 128} {e : Entry} (he : s.entry? i = some e)
    (free : e.supply = .holding → s.groupOf? e = none) (ban : List (Fin 128)) :
    s.releaseSupply i ban = s.setEntry i (some { e with supply := .none, holdTimer := none }) := by
  simp only [State.releaseSupply, he]
  split
  · next supply group => rw [free supply] at group; cases group
  · rfl

/-- A credit given back to a group without waiters stays free. -/
theorem State.handOn_of_no_waiters {s : State} {g : Fin 8} (h : s.waiters g = []) (ban : List (Fin 128)) :
    s.handOn g ban = s := by
  simp only [State.handOn, h, List.filter_nil, State.nextWaiter?_nil]

theorem State.handOn_of_first {s : State} {g : Fin 8} {j : Fin 128} (h : s.nextWaiter? g (s.waiters g) = some j) :
    s.handOn g [] = s.grant g j := by
  simp [State.handOn, h]

/-! ## WELD_REQ and WELD_FREE (6.1, 6.2) -/

theorem fits_of_mem {x y : EntryState} (h : x ∈ [y]) : (x == y) = true := by
  simpa using h

section
variable {s : State} {node : Byte} {tag : Tag} {i : Fin 128} {e : Entry}

theorem State.weldReq_of_no_group (h : s.live node tag i e [.welding]) (unbound : e.supply = .none)
    (group : s.groupOf? e = none) : s.weldReq node tag
      = (s.setEntry i (some { e with supply := .holding })).issueToRobot e.robot (.weldGrant · (s.tag i) false) := by
  have named := State.named?_of_live h (fits := (· == .welding)) (fun _ => fits_of_mem)
  simp only [State.weldReq, named, group]
  exact if_neg (by simp [unbound])

theorem State.weldReq_of_group {g : Fin 8} (h : s.live node tag i e [.welding]) (unbound : e.supply = .none)
    (group : s.groupOf? e = some g) : s.weldReq node tag
      = if 0 < s.freeCredits g ∧ s.waiters g = [] then s.grant g i
        else s.setEntry i (some { e with supply := .waiting }) := by
  have named := State.named?_of_live h (fits := (· == .welding)) (fun _ => fits_of_mem)
  simp only [State.weldReq, named, group]
  exact if_neg (by simp [unbound])

theorem State.weldFree_of_live (h : s.live node tag i e [.welding]) (standing : e.supply ≠ .none) :
    s.weldFree node tag = s.releaseSupply i [] := by
  have named := State.named?_of_live h (fits := (· == .welding)) (fun _ => fits_of_mem)
  simp only [State.weldFree, named]
  exact if_neg standing

end

/-- Settles O54: the three cases of WELD_REQ by the robot's group and its free credits. -/
theorem creditRequested : Obligations.CreditRequested := by
  intro s node tag i e ready settled live supply
  obtain ⟨entry, rfl, robot, _⟩ := id live
  have written (x : Entry) (h : ∀ st, x.dresses st = e.dresses st) : (s.begin.setEntry i (some x)).settled = true :=
    State.settled_setEntry (s := s.begin) settled entry h
  refine ⟨fun zero => ?_, fun g hg => ⟨fun free idle => ?_, fun busy => ?_⟩⟩
  · have group : s.begin.groupOf? e = none := groupPlace?_of_zero zero
    have asked := State.weldReq_of_no_group (s := s.begin) live supply group
    have node : (s.begin.robot e.robot).node = node := robot
    refine congrArg Host.Outcome.next (State.telegram_eq ready (asked.trans ?_) ?pass ?nodes ?settled)
    · exact congrArg (fun n => State.issue _ (.weldGrant n _ false)) node
    case pass => exact State.issue_passDue _ _
    case nodes => exact (State.issue_leads _ _).2.2.2.2.2 (by simp)
    case settled => exact State.settled_of_leads (State.issue_leads _ _) (written _ fun _ => rfl)
  · have group : s.begin.groupOf? e = some g := groupPlace?_of_eq hg
    have asked := State.weldReq_of_group (s := s.begin) live supply group
    have credit : 0 < s.begin.freeCredits g ∧ s.begin.waiters g = [] := ⟨Nat.sub_pos_of_lt free, idle⟩
    refine congrArg Host.Outcome.next (State.telegram_eq ready
      ((asked.trans (if_pos credit)).trans ((State.grant_of_some (s := s.begin) entry g).trans ?_)) ?pass ?nodes ?settled)
    · exact congrArg (fun n => State.issue _ (.weldGrant n _ false)) robot
    case pass => exact State.issue_passDue _ _
    case nodes => exact (State.issue_leads _ _).2.2.2.2.2 (by simp)
    case settled =>
      exact State.settled_of_leads (State.leads_seq (State.setGroup_leads _ _ _) (State.issue_leads _ _)
        (n := [.spa, .lif]) (by simp) (by simp)) (written _ fun _ => rfl)
  · have group : s.begin.groupOf? e = some g := groupPlace?_of_eq hg
    have asked := State.weldReq_of_group (s := s.begin) live supply group
    have refused : ¬ (0 < s.begin.freeCredits g ∧ s.begin.waiters g = []) := by
      rintro ⟨credit, empty⟩
      rcases busy with full | waiting
      · exact absurd (Nat.lt_of_sub_pos credit) (Nat.not_lt.mpr full)
      · exact waiting empty
    exact congrArg Host.Outcome.next (State.telegram_eq ready (asked.trans (if_neg refused)) rfl rfl
      (written _ fun _ => rfl))

/-- Settles O55: the entry's standing is taken back, and a credit of a group goes to the first waiter after the pointer. -/
theorem creditReturned : Obligations.CreditReturned := by
  intro s node tag i e ready settled live
  obtain ⟨entry, rfl, robot, _⟩ := id live
  have written : (s.begin.setEntry i (some { e with supply := .none, holdTimer := none })).settled = true :=
    State.settled_setEntry (s := s.begin) settled entry fun _ => rfl
  have back {t : State} (standing : e.supply ≠ .none) (h : s.begin.releaseSupply i [] = t) (pass : t.passDue = false)
      (nodes : t.formerNodes = none) (still : t.settled = true) : exec (.weldFree node (s.tag i)) s = .next t :=
    congrArg Host.Outcome.next (State.telegram_eq ready
      ((State.weldFree_of_live (s := s.begin) live standing).trans h) pass nodes still)
  refine ⟨fun waiting => ?_, fun holding => ⟨fun zero => ?_, fun g hg => ⟨fun idle => ?_, fun j x hx mem only first => ?_⟩⟩⟩
  · exact back (by simp [waiting]) (State.releaseSupply_of_no_credit (s := s.begin) entry (by simp [waiting]) []) rfl rfl written
  · exact back (by simp [holding]) (State.releaseSupply_of_no_credit (s := s.begin) entry
      (fun _ => groupPlace?_of_zero zero) []) rfl rfl written
  all_goals
    have group : s.begin.groupOf? e = some g := groupPlace?_of_eq hg
    have released := State.releaseSupply_of_group (s := s.begin) entry holding group []
    have waiters := State.waiters_setEntry_of_none (s := s.begin) (x := { e with supply := .none, holdTimer := none })
      entry (by simp [holding]) (by simp) g
  · exact back (by simp [holding]) (released.trans (State.handOn_of_no_waiters (waiters.trans idle) [])) rfl rfl written
  · have other : i ≠ j := by
      rintro rfl
      obtain ⟨y, hy, waiting, _⟩ := State.mem_waiters.mp mem
      rw [entry] at hy
      cases hy
      rw [holding] at waiting
      cases waiting
    have number (k : Fin 128) :
        (s.begin.setEntry i (some { e with supply := .none, holdTimer := none })).robotNumber k = s.robotNumber k := by
      unfold State.robotNumber
      rw [State.entry_setEntry]
      split
      · next here => subst here; rw [entry]; rfl
      · rfl
    have next : (s.begin.setEntry i (some { e with supply := .none, holdTimer := none })).nextWaiter? g
        ((s.begin.setEntry i (some { e with supply := .none, holdTimer := none })).waiters g) = some j := by
      rw [waiters]
      refine State.nextWaiter?_of_first (by exact mem) ?_ ?_
      · simp only [number]; exact only
      · simp only [number]; exact first
    have held : (s.begin.setEntry i (some { e with supply := .none, holdTimer := none })).entry? j = some x := by
      rw [State.entry_setEntry, if_neg other]
      exact hx
    refine back (by simp [holding]) (released.trans ((State.handOn_of_first next).trans
      ((State.grant_of_some held g).trans ?_))) ?pass ?nodes ?settled
    · rw [State.tag_setEntry, State.setEntry_eq_setPlace _ j, State.place_setEntry, if_neg other]
      rfl
    case pass => exact State.issue_passDue _ _
    case nodes => exact (State.issue_leads _ _).2.2.2.2.2 (by simp)
    case settled =>
      refine State.settled_of_leads (l := [.spa, .lif]) (s := (s.begin.setEntry i (some { e with supply := .none, holdTimer := none })).setEntry j
        (some { x with supply := .holding, holdTimer := some ((s.group g).holdLimit + 1) })) ?_
        (State.settled_setEntry written held fun _ => rfl)
      rw [State.setEntry_eq_setPlace _ j, State.place_setEntry, if_neg other]
      exact State.leads_seq (State.setGroup_leads _ _ _) (State.issue_leads _ _) (n := [.spa, .lif]) (by simp) (by simp)

end Sys2Proof.Machine
end

section
/-! The robots' handshake: PROG_SELECT, the echo with its one re-offer, and the start of a cycle (the statements O51 and
O53). -/

namespace Sys2Proof.Machine

/-- A frame that need not name PIU, where PIU is the same. -/
theorem State.keeps_of_piu {s t : State} {n : List Block} (h : s.keeps t (.piu :: n)) (piu : t.piu = s.piu) :
    s.keeps t n := by
  refine ⟨h.1, fun b hb => ?_⟩
  by_cases here : b = .piu
  · subst here
    exact piu
  · exact h.2 b (by simp [here, hb])

/-! ## PROG_SELECT (R65, R72, R77) -/

theorem State.finish_dtr_of_calm {s : State} (h : s.calm) : s.finish.dtr = s.dtr :=
  (State.finish_keeps_of_calm h).2 .dtr (by simp)

theorem head?_of_prefix {α : Type} {x : α} {l : List α} (h : [x] <+: l) : l.head? = some x := by
  obtain ⟨rest, rfl⟩ := h
  rfl

theorem State.dtr_of_leads {s t : State} {l : List Block} (h : s.leads t l) (dtr : .dtr ∉ l := by simp) :
    t.dtr = s.dtr := h.1.2 .dtr dtr

/-- The entry and the issue number that a PROG_SELECT leaves. -/
def State.selected (s : State) (i : Fin 128) (e : Entry) : Place :=
  ⟨(s.place i).issue + 1, some { e with selectTimer := some ((s.station e.station).config.selectTimeout + 1) }⟩

/-- A new issue number at an index, behind the comparison of images that stands ahead of a PROG_SELECT. -/
def State.renewed (s : State) (i : Fin 128) : State :=
  (s.setPlace i { s.place i with issue := (s.place i).issue + 1 }).comparePoint

theorem State.renewed_dtr (s : State) (i : Fin 128) :
    (s.renewed i).dtr = (s.setPlace i { s.place i with issue := (s.place i).issue + 1 }).dtr :=
  State.dtr_of_leads (State.comparePoint_leads _)

theorem State.renewed_place (s : State) (i j : Fin 128) :
    (s.renewed i).place j = if i = j then ⟨(s.place i).issue + 1, s.entry? i⟩ else s.place j := by
  rw [State.place_congr (s.renewed_dtr i), State.place_setPlace]
  rfl

theorem State.renewed_leads (s : State) (i : Fin 128) : s.leads (s.renewed i) [.dtr, .lif, .piu] :=
  State.leads_seq (s.setPlace_leads _ _) (State.comparePoint_leads _) (by simp) (by simp)

/-- A new issue number does not show in the image. -/
theorem State.image_setPlace_issue (s : State) (i : Fin 128) (n : Byte) :
    (s.setPlace i { s.place i with issue := n }).image = s.image := by
  refine State.image_of_dresses rfl rfl fun j st => ?_
  rw [State.entry_setPlace]
  split
  · next here => subst here; rfl
  · rfl

theorem State.renewed_image (s : State) (i : Fin 128) : (s.renewed i).image = s.image :=
  (State.comparePoint_image _).trans (s.image_setPlace_issue _ _)

theorem State.renewed_of_settled {s : State} (settled : s.settled = true) (i : Fin 128) :
    s.renewed i = s.setPlace i { s.place i with issue := (s.place i).issue + 1 } :=
  State.comparePoint_of_settled (State.settled_of_image settled (s.image_setPlace_issue _ _) rfl)

section
variable {s : State} {i : Fin 128} {e : Entry}

theorem State.sendSelect_of_some (he : s.entry? i = some e) :
    s.sendSelect i = (((s.renewed i).issue (.progSelect (s.robot e.robot).node ⟨BitVec.ofNat 8 i, (s.place i).issue + 1⟩
      e.program e.expected e.body e.kind)).setPlace i (s.selected i e)).count .offers 1
        (((s.renewed i).issue (.progSelect (s.robot e.robot).node ⟨BitVec.ofNat 8 i, (s.place i).issue + 1⟩
          e.program e.expected e.body e.kind)).entryAttributes e) := by
  have here : (s.renewed i).place i = ⟨(s.place i).issue + 1, s.entry? i⟩ := by rw [State.renewed_place, if_pos rfl]
  have tag : (s.renewed i).tag i = ⟨BitVec.ofNat 8 i, (s.place i).issue + 1⟩ := by rw [State.tag, here]
  have robot : (s.renewed i).robot e.robot = s.robot e.robot :=
    State.robot_congr ((s.renewed_leads i).1.2 .rbc (by simp)) _
  have fold : (s.setPlace i { s.place i with issue := (s.place i).issue + 1 }).comparePoint = s.renewed i := rfl
  simp only [State.sendSelect, he, fold, State.issueToRobot, tag, robot]
  set sent := (s.renewed i).issue (.progSelect (s.robot e.robot).node ⟨BitVec.ofNat 8 i, (s.place i).issue + 1⟩
    e.program e.expected e.body e.kind) with hsent
  have place : sent.place i = ⟨(s.place i).issue + 1, s.entry? i⟩ :=
    (State.place_congr (State.issue_dtr _ _) i).trans here
  have entry : sent.entry? i = some e := (congrArg Place.entry place).trans he
  rw [State.modEntry_of_some entry, State.setEntry_eq_setPlace, place]
  rfl

theorem State.sendSelect_place (he : s.entry? i = some e) (j : Fin 128) :
    (s.sendSelect i).place j = if i = j then s.selected i e else s.place j := by
  rw [State.sendSelect_of_some he, State.place_congr (State.dtr_of_leads (State.count_leads _ _ _ _)), State.place_setPlace]
  split
  · rfl
  · next other => rw [State.place_congr (State.issue_dtr _ _), State.renewed_place, if_neg other]

theorem State.sendSelect_lists (he : s.entry? i = some e) : (s.sendSelect i).dtr.lists = s.dtr.lists := by
  rw [State.sendSelect_of_some he, State.dtr_of_leads (State.count_leads _ _ _ _)]
  refine (congrArg Dtr.lists (State.issue_dtr _ _)).trans ?_
  rw [State.renewed_dtr]
  rfl

theorem State.sendSelect_issued (he : s.entry? i = some e) (node : s.lif.node?.isSome = true) :
    .progSelect (s.robot e.robot).node ⟨BitVec.ofNat 8 i, (s.place i).issue + 1⟩ e.program e.expected e.body e.kind
      ∈ (s.sendSelect i).issued := by
  rw [State.sendSelect_of_some he]
  refine (State.count_leads _ _ _ _).2.1.subset ?_
  rw [State.setPlace_issued, State.issue_issued]
  · exact List.mem_append_right _ (List.mem_singleton.mpr rfl)
  · rw [State.leads_node (s.renewed_leads i)]
    exact node

/-- A PROG_SELECT changes nothing that the image shows. -/
theorem State.sendSelect_image (i : Fin 128) (s : State) : (s.sendSelect i).image = s.image := by
  cases he : s.entry? i with
  | none => simp only [State.sendSelect, he]
  | some e =>
    have sent : ((s.renewed i).issue (.progSelect (s.robot e.robot).node ⟨BitVec.ofNat 8 i, (s.place i).issue + 1⟩
        e.program e.expected e.body e.kind)).image = s.image := (State.issue_image _ _).trans (s.renewed_image i)
    rw [State.sendSelect_of_some he, State.image_of_leads (State.count_leads _ _ _ _), ← sent]
    refine State.image_of_dresses rfl rfl fun j st => ?_
    rw [State.entry_setPlace, State.entry?_congr (State.issue_dtr _ _)]
    split
    · next here =>
      subst here
      rw [State.entry?, State.renewed_place, if_pos rfl, he]
      rfl
    · rfl

theorem State.sendSelect_piu (settled : s.settled = true) (i : Fin 128) : (s.sendSelect i).piu = s.piu := by
  cases he : s.entry? i with
  | none => simp only [State.sendSelect, he]
  | some e =>
    rw [State.sendSelect_of_some he, (State.count_leads _ _ _ _).1.2 .piu (by simp), State.setPlace_piu, State.issue_piu,
      State.renewed_of_settled settled]
    rfl

theorem State.sendSelect_settled (settled : s.settled = true) (i : Fin 128) : (s.sendSelect i).settled = true :=
  State.settled_of_image settled (State.sendSelect_image i s) (State.sendSelect_piu settled i)

end

/-! ## SEL_ECHO and the select timer (4.5, 4.6) -/

section
variable {s : State} {node : Byte} {tag : Tag} {i : Fin 128} {e : Entry}

theorem State.selEcho_of_live (h : s.live node tag i e [.offered]) (p v : Byte) :
    s.selEcho node tag p v
      = if v = 1 ∧ p = e.program then s.setEntry i (some { e with state := .selected, selectTimer := none })
        else s.failOffer i e .rejected := by
  have named := State.named?_of_live h (fits := (· == .offered)) (fun _ => fits_of_mem)
  simp only [State.selEcho, named]

theorem State.selectExpiry_of_due (he : s.entry? i = some e) (due : e.selectTimer = some 0) (offered : e.state = .offered) :
    s.selectExpiry i = (s.count .expiries 1 (s.entryAttributes e)).failOffer i e .expired := by
  simp only [State.selectExpiry, he]
  exact if_pos ⟨due, offered⟩

/-- A failed echo, or a select expiry, does what a failed expectation calls for, behind the count of an expiry. -/
theorem exec_of_failed {p v reason : Byte} (ready : s.ready = true) (live : s.live node tag i e [.offered]) {c : Instr}
    {o : EntryOutcome} (h : (c = .selEcho node tag p v reason ∧ ¬ (v = 1 ∧ p = e.program) ∧ o = .rejected)
      ∨ (c = .selectTimerExpiry i ∧ e.selectTimer = some 0 ∧ o = .expired)) :
    ∃ u : State, s.begin.leads u [.emu, .lif] ∧ u.passDue = false ∧ exec c s = .next (u.failOffer i e o).finish := by
  rcases h with ⟨rfl, failed, rfl⟩ | ⟨rfl, due, rfl⟩
  · refine ⟨s.begin, State.leads_refl _ _, rfl, congrArg Host.Outcome.next ?_⟩
    refine (State.telegram_of_ready ready _).trans (congrArg State.finish ?_)
    exact (State.selEcho_of_live (s := s.begin) live p v).trans (if_neg failed)
  · refine ⟨s.begin.count .expiries 1 (s.begin.entryAttributes e), s.begin.count_leads _ _ _, State.count_passDue _ _ _ _, congrArg Host.Outcome.next ?_⟩
    refine (State.event_of_ready ready _).trans (congrArg State.finish ?_)
    exact State.selectExpiry_of_due (s := s.begin) live.1 due (by simpa using live.2.2.2)

end

/-- Settles O51: an accepted echo is one write; a failed expectation with its re-offer unused sends one PROG_SELECT. -/
theorem echoAndReoffer : Obligations.EchoAndReoffer := by
  intro s node tag i e p v reason ready settled live
  obtain ⟨entry, _, robot, state⟩ := id live
  have offered : e.state = .offered := by simpa using state
  refine ⟨fun verdict program => ?_, fun unused c failed => ?_⟩
  · refine congrArg Host.Outcome.next (State.telegram_eq ready
      ((State.selEcho_of_live (s := s.begin) live p v).trans (if_pos ⟨verdict, program⟩)) rfl rfl ?_)
    exact State.settled_setEntry (s := s.begin) settled entry fun st => by
      rw [Entry.dresses_of_state (by simp), Entry.dresses_of_state (by simp [offered])]
  · have : ∃ o, (c = .selEcho node tag p v reason ∧ ¬ (v = 1 ∧ p = e.program) ∧ o = EntryOutcome.rejected)
        ∨ (c = .selectTimerExpiry i ∧ e.selectTimer = some 0 ∧ o = EntryOutcome.expired) := by
      rcases failed with ⟨here, wrong⟩ | ⟨here, due⟩
      · exact ⟨_, .inl ⟨here, wrong, rfl⟩⟩
      · exact ⟨_, .inr ⟨here, due, rfl⟩⟩
    obtain ⟨o, cause⟩ := this
    obtain ⟨u, led, pass, ran⟩ := exec_of_failed ready live cause
    have again : u.failOffer i e o = u.reoffer i := if_neg (by simp [unused])
    rw [again] at ran
    have dtr : u.dtr = s.dtr := State.dtr_of_leads (s := s.begin) led
    have uEntry : u.entry? i = some e := (State.entry?_congr dtr i).trans entry
    set w := u.modEntry i (fun e => { e with reoffered := true }) with hw
    have wEntry : w.entry? i = some { e with reoffered := true } := by
      rw [hw, State.entry_modEntry, if_pos rfl, uEntry]
      rfl
    have wPlace (j : Fin 128) (other : i ≠ j) : w.place j = s.place j := by
      rw [hw, State.place_modEntry, if_neg other, State.place_congr dtr]
    have wIssue : (w.place i).issue = (s.place i).issue := by
      rw [hw, State.place_modEntry, if_pos rfl, State.place_congr dtr]
    have wSettled : w.settled = true := by
      rw [hw, State.modEntry_of_some uEntry]
      exact State.settled_setEntry (State.settled_of_leads led settled) uEntry fun _ => rfl
    have calm : (u.reoffer i).calm := .inl ((w.sendSelect_passDue i).trans pass)
    have still : (u.reoffer i).settled = true := State.sendSelect_settled wSettled i
    have kept := (State.finish_keeps_of_calm_settled calm still).1
    have tracker : (u.reoffer i).finish.dtr = (w.sendSelect i).dtr := kept.2 .dtr (by simp)
    have wStation : w.station e.station = s.station e.station :=
      State.station_congr (led.1.2 .stc (by simp)) e.station
    have wNode : (w.robot e.robot).node = node :=
      (congrArg Robot.node (State.robot_congr (led.1.2 .rbc (by simp)) e.robot)).trans robot
    refine ⟨_, ran, ?_, fun j other => ?_, ?_, ?_, ?_⟩
    · rw [State.place_congr tracker, State.sendSelect_place wEntry, if_pos rfl, State.selected, wIssue]
      rw [← wStation]
    · rw [State.place_congr tracker, State.sendSelect_place wEntry, if_neg (Ne.symm other), wPlace j (Ne.symm other)]
    · rw [tracker, State.sendSelect_lists wEntry]
      exact (show w.dtr.lists = u.dtr.lists from rfl).trans (congrArg Dtr.lists dtr)
    · refine (State.finish_issued _).subset ?_
      have lit : w.lif.node?.isSome = true :=
        (congrArg Option.isSome (State.leads_node led)).trans (s.ready_iff.mp ready).2
      have sent := State.sendSelect_issued wEntry lit
      rw [wIssue, wNode] at sent
      exact sent
    · have all : s.begin.leads (u.reoffer i) [.lif, .dtr, .piu, .emu] :=
        State.leads_seq led (u.reoffer_leads i) (by simp) (by simp)
      have frame := State.finish_keeps_of_settled all calm still (n := [.lif, .dtr, .piu, .emu])
      exact State.keeps_of_piu (n := [.lif, .dtr, .emu]) (State.keeps_mono frame (by simp))
        ((kept.2 .piu (by simp)).trans ((State.sendSelect_piu wSettled i).trans (led.1.2 .piu (by simp))))

/-! ## CYCLE_START (4.7) -/

theorem State.stationEvent_emu (s : State) (st : Fin 16) (e : StationEvent) (r : Option (Fin 64)) (b : Option Word) :
    (s.stationEvent st e r b).emu = (s.setStationStatus st (stationEventNumber e)
      ((s.stationStatus st (stationEventNumber e)).raise ⟨some st, r, b⟩)).emu := by
  unfold State.stationEvent
  dsimp only
  split
  · exact (State.report_leads _ _ _ _).1.2 .emu (by simp)
  · rfl

theorem State.stationStatus_congr {s t : State} (h : t.emu = s.emu) (st : Fin 16) (n : Fin 8) :
    t.stationStatus st n = s.stationStatus st n := by
  simp [State.stationStatus, h]

theorem State.deviceStatus_congr {s t : State} (h : t.emu = s.emu) (n : Fin 8) :
    t.deviceStatus n = s.deviceStatus n := by
  simp [State.deviceStatus, h]

theorem State.stationEvent_set (s : State) (st : Fin 16) (e : StationEvent) (r : Option (Fin 64)) (b : Option Word) :
    ((s.stationEvent st e r b).stationStatus st (stationEventNumber e)).set = true := by
  rw [State.stationStatus_congr (s.stationEvent_emu st e r b)]
  simp [State.stationStatus, State.setStationStatus, Status.raise_set]

theorem State.cycleStart_of_live {s : State} {node : Byte} {tag : Tag} {i : Fin 128} {e : Entry}
    (h : s.live node tag i e [.selected]) :
    s.cycleStart node tag = if e.kind ≠ .weld ∨ s.bodySeated e then s.setEntry i (some { e with state := .welding })
      else (s.issueToRobot e.robot (.cycleHold · (s.tag i))).stationEvent e.station .earlyStart (some e.robot)
        (some e.body) := by
  have named := State.named?_of_live h (fits := (· == .selected)) (fun _ => fits_of_mem)
  simp only [State.cycleStart, named]

theorem State.bodySeated_iff (s : State) (e : Entry) :
    s.bodySeated e = true ↔ ∃ c, (s.station e.station).slotOf? e.body = some c ∧ c.state = .seated := by
  simp [State.bodySeated, Option.any_eq_true]

/-- Settles O53: one write of the entry's state, or the answer CYCLE_HOLD with its event. -/
theorem cycleStarted : Obligations.CycleStarted := by
  intro s node tag i e ready settled live
  obtain ⟨entry, rfl, robot, state⟩ := id live
  have selected : e.state = .selected := by simpa using state
  have asked := State.cycleStart_of_live (s := s.begin) live
  refine ⟨fun seated => ?_, fun weld unseated => ?_⟩
  · have starts : e.kind ≠ .weld ∨ s.begin.bodySeated e = true :=
      seated.imp_right (State.bodySeated_iff s.begin e).mpr
    have ran : s.begin.cycleStart node (s.tag i) = s.begin.setEntry i (some { e with state := .welding }) :=
      asked.trans (if_pos starts)
    have calm : (s.begin.setEntry i (some { e with state := .welding })).calm := .inl rfl
    have kept := State.finish_dtr_of_calm calm
    refine ⟨_, congrArg Host.Outcome.next ((State.telegram_of_ready ready _).trans (congrArg State.finish ran)),
      ?_, fun j other => ?_, (congrArg Dtr.lists kept).trans rfl, State.finish_reported_of_calm calm, fun weld => ?_,
      State.finish_keeps_of_leads (s.begin.setEntry_leads i _) calm⟩
    · rw [State.place_congr kept, State.place_setEntry, if_pos rfl]
      rfl
    · rw [State.place_congr kept, State.place_setEntry, if_neg (Ne.symm other)]
      rfl
    · have dark (x : Entry) (h : x.kind = .weld) (st : Fin 16) : x.dresses st = false :=
        Entry.dresses_of_kind (by simp [h]) st
      exact (State.finish_keeps_of_calm_settled calm (State.settled_setEntry (s := s.begin) settled entry
        fun st => by rw [dark e weld, dark _ (by exact weld)])).2
  · have early : ¬ (e.kind ≠ .weld ∨ s.begin.bodySeated e = true) := by
      rintro (other | seated)
      · exact other weld
      · obtain ⟨c, slot, here⟩ := (State.bodySeated_iff s.begin e).mp seated
        exact unseated c slot here
    have ran := asked.trans (if_neg early)
    set u := s.begin.issueToRobot e.robot (.cycleHold · (s.begin.tag i)) with hu
    have led : s.begin.leads (u.stationEvent e.station .earlyStart (some e.robot) (some e.body)) [.emu, .lif] :=
      State.leads_seq (s.begin.issueToRobot_leads _ _) (State.stationEvent_leads _ _ _ _ _) (by simp) (by simp)
    have calm : (u.stationEvent e.station .earlyStart (some e.robot) (some e.body)).calm := .inl (by simp [hu]; rfl)
    have still := State.settled_of_leads led settled
    refine ⟨_, congrArg Host.Outcome.next ((State.telegram_of_ready ready _).trans (congrArg State.finish ran)),
      ?_, ?_, State.finish_keeps_of_settled led calm still⟩
    · have first : u.issued = [.cycleHold node (s.tag i)] := by
        rw [hu, State.issueToRobot, State.issue_issued (s := s.begin) (s.ready_iff.mp ready).2]
        exact congrArg (fun n => [Telegram.cycleHold n (s.tag i)]) robot
      have prefixed : u.issued <+: (u.stationEvent e.station .earlyStart (some e.robot) (some e.body)).finish.issued :=
        (State.stationEvent_leads _ _ _ _ _).2.1.trans (State.finish_issued _)
      exact head?_of_prefix (first ▸ prefixed)
    · rw [State.stationStatus_congr ((State.finish_keeps_of_calm_settled calm still).1.2 .emu (by simp))]
      exact State.stationEvent_set u e.station .earlyStart _ _

end Sys2Proof.Machine
end

section
/-! What an occurrence of a count event can do at most, stale telegrams (the statement O60) and refused arrivals (the statement
O49). -/

namespace Sys2Proof.Machine

theorem State.counter_congr {s t : State} (h : t.emu = s.emu) (k : Fin 8) : t.counter k = s.counter k := by
  simp [State.counter, h]

/-! ## Counting (R184, R187) -/

/-- What a count leaves: every status but that of COUNTER_FROZEN, which changes only as the freeze flag is set, every mask and
every counter's configuration; and what it sends is at most the report of COUNTER_FROZEN. -/
structure State.Counted (s t : State) : Prop where
  station : ∀ st n, t.stationStatus st n = s.stationStatus st n
  device : ∀ n, n ≠ 7 → t.deviceStatus n = s.deviceStatus n
  mask : ∀ n, (t.deviceStatus n).mask = (s.deviceStatus n).mask
  frozen : t.deviceStatus 7 = s.deviceStatus 7 ∨ t.emu.freeze = true
  freeze : s.emu.freeze = true → t.emu.freeze = true
  config : ∀ k, (t.counter k).config = (s.counter k).config
  node : t.reportInUse = s.reportInUse
  sent : ∀ x ∈ t.issued, x ∈ s.issued ∨ ∃ c, x = .eventReport s.reportInUse true 7 c

theorem State.Counted.refl (s : State) : s.Counted s :=
  ⟨fun _ _ => rfl, fun _ _ => rfl, fun _ => rfl, .inl rfl, id, fun _ => rfl, rfl, fun _ h => .inl h⟩

theorem State.Counted.trans {s t u : State} (h : s.Counted t) (k : t.Counted u) : s.Counted u where
  station st n := (k.station st n).trans (h.station st n)
  device n hn := (k.device n hn).trans (h.device n hn)
  mask n := (k.mask n).trans (h.mask n)
  frozen := k.frozen.elim (fun same => h.frozen.imp same.trans k.freeze) .inr
  freeze := k.freeze ∘ h.freeze
  config c := (k.config c).trans (h.config c)
  node := k.node.trans h.node
  sent x hx := (k.sent x hx).elim (h.sent x) fun ⟨c, hc⟩ => .inr ⟨c, by rw [hc, h.node]⟩

/-- What an occurrence of a device event sends is at most its report. -/
theorem State.mem_deviceEvent_issued {s : State} {e : DeviceEvent} {c : Capture} {x : Telegram}
    (h : x ∈ (s.deviceEvent e c).issued) :
    x ∈ s.issued ∨ x = .eventReport s.reportInUse true (deviceEventNumber e) c := by
  unfold State.deviceEvent at h
  dsimp only at h
  split at h
  · unfold State.report at h
    split at h
    · exact .inl h
    · unfold State.issue at h
      split at h
      · exact .inl h
      · rcases List.mem_append.mp h with old | new
        · exact .inl old
        · exact .inr (List.mem_singleton.mp new)
  · exact .inl h

theorem State.setCounter_counted (s : State) (k : Fin 8) (v : Long) :
    s.Counted (s.setCounter k { s.counter k with value := v }) where
  station _ _ := rfl
  device _ _ := rfl
  mask _ := rfl
  frozen := .inl rfl
  freeze := id
  config c := by
    rw [State.counter_setCounter]
    split
    · next here => rw [here]
    · rfl
  node := rfl
  sent _ h := .inl h

theorem State.frozen_counted (s : State) (c : Capture) : s.Counted ((s.setFreeze true).deviceEvent .counterFrozen c) where
  station _ _ := State.deviceEvent_stationStatus _ _ _ _ _
  device n hn := (State.deviceEvent_deviceStatus _ _ _ _).trans (if_neg (by exact hn.symm))
  mask n := by
    rw [State.deviceEvent_deviceStatus]
    split
    · exact Status.raise_mask _ _
    · rfl
  frozen := .inr (State.deviceEvent_freeze _ _ _)
  freeze _ := State.deviceEvent_freeze _ _ _
  config k := congrArg Counter.config (State.deviceEvent_counter _ _ _ k)
  node := (State.leads_inUse (State.deviceEvent_leads _ _ _) (by simp)).2
  sent _ h := (State.mem_deviceEvent_issued h).imp_right fun h => ⟨_, h⟩

theorem State.increase_counted (s : State) (k : Fin 8) (d : Nat) : s.Counted (s.increase k d) := by
  cases fires : (s.counter k).config.fires (s.counter k).value ((s.counter k).value + BitVec.ofNat 48 d) with
  | true => rw [State.increase_of_fires fires]; exact (s.setCounter_counted k _).trans (State.frozen_counted _ _)
  | false => rw [State.increase_of_not_fires fires]; exact s.setCounter_counted k _

theorem State.count_counted (s : State) (e : CounterEvent) (d : Nat) (a : Attributes) : s.Counted (s.count e d a) := by
  refine foldl_keep (P := s.Counted) (fun k t h => ?_) _ (State.Counted.refl s)
  refine h.trans ?_
  unfold State.offerCounter
  dsimp only
  split
  · exact State.increase_counted _ _ _
  · exact State.Counted.refl _

/-! ## Stale telegrams (4.10) -/

theorem deviceEventNumber_staleTelegram : deviceEventNumber .staleTelegram = 4 := rfl

/-- Settles O60: every stale telegram is dropped, and the drop raises one status and counts. -/
theorem staleDropped : Obligations.StaleDropped := by
  intro s node tag c ready settled stale
  have ran : exec c s = .next (s.begin.dropStale node tag).finish := by
    rcases stale with ⟨states, among, none⟩ | ⟨i, e, live, standing⟩
    · have unnamed {fits : EntryState → Bool} (hf : ∀ x, fits x = true → x ∈ states) :
          s.begin.named? node tag fits = .none := State.named?_of_not_live (s := s.begin) none hf
      have drop {work : State → State} (h : work s.begin = s.begin.dropStale node tag) :
          Host.Outcome.next (s.telegram work) = (.next (s.begin.dropStale node tag).finish : Out) :=
        congrArg Host.Outcome.next ((State.telegram_of_ready ready _).trans (congrArg State.finish h))
      rcases among with ⟨p, v, reason, rfl, rfl⟩ | ⟨rfl, rfl⟩ | ⟨rfl, rfl⟩ | ⟨rfl, rfl⟩ | ⟨count, status, rfl, rfl⟩
      · exact drop (by simp only [State.selEcho, unnamed (fits := (· == .offered)) (by simp)])
      · exact drop (by simp only [State.cycleStart, unnamed (fits := (· == .selected)) (by simp)])
      · exact drop (by simp only [State.weldReq, unnamed (fits := (· == .welding)) (by simp)])
      · exact drop (by simp only [State.weldFree, unnamed (fits := (· == .welding)) (by simp)])
      · exact drop (by
          simp only [State.weldDone, unnamed (fits := fun x => x == .selected || x == .welding) (by simp)])
    · have named : s.begin.named? node tag (· == .welding) = some (i, e) :=
        State.named?_of_live (s := s.begin) live (fun _ => fits_of_mem)
      rcases standing with ⟨rfl, standing⟩ | ⟨rfl, free⟩
      · refine congrArg Host.Outcome.next ((State.telegram_of_ready ready _).trans (congrArg State.finish ?_))
        simp only [State.weldReq, named]
        exact if_pos standing
      · refine congrArg Host.Outcome.next ((State.telegram_of_ready ready _).trans (congrArg State.finish ?_))
        simp only [State.weldFree, named]
        exact if_pos free
  have led := s.begin.dropStale_leads node tag
  have calm : (s.begin.dropStale node tag).calm := .inl (State.dropStale_passDue _ _ _)
  have still := State.settled_of_leads led settled
  obtain ⟨kept, sent⟩ := State.finish_keeps_of_calm_settled calm still
  have emu : (s.begin.dropStale node tag).finish.emu = (s.begin.dropStale node tag).emu := kept.2 .emu (by simp)
  obtain ⟨capture, a, drop⟩ : ∃ capture a,
      s.begin.dropStale node tag = (s.begin.deviceEvent .staleTelegram capture).count .stale 1 a := ⟨_, _, rfl⟩
  have counted := (s.begin.deviceEvent .staleTelegram capture).count_counted .stale 1 a
  rw [← drop] at counted
  have event (n : Fin 8) := s.begin.deviceEvent_deviceStatus .staleTelegram capture n
  rw [deviceEventNumber_staleTelegram] at event
  have four := (State.deviceStatus_congr emu 4).trans ((counted.device 4 (by decide)).trans ((event 4).trans (if_pos rfl)))
  refine ⟨_, ran, ?_, fun set => ?_, fun st n => ?_, fun n stale frozen => ?_, fun n => ?_, ?_, fun k => ?_, fun x hx => ?_,
    State.finish_keeps_of_settled led calm still⟩
  · rw [four, Status.raise_set]
  · exact four.trans (Status.raise_of_set set _)
  · exact (State.stationStatus_congr emu st n).trans ((counted.station st n).trans
      (State.deviceEvent_stationStatus _ _ _ _ _))
  · exact (State.deviceStatus_congr emu n).trans ((counted.device n frozen).trans ((event n).trans
      (if_neg (Ne.symm stale))))
  · rw [State.deviceStatus_congr emu, counted.mask, event]
    split
    · exact Status.raise_mask _ _
    · rfl
  · refine counted.frozen.imp (fun same => ?_) (fun frozen => (congrArg Emu.freeze emu).trans frozen)
    exact (State.deviceStatus_congr emu 7).trans (same.trans ((event 7).trans (if_neg (by decide))))
  · rw [State.counter_congr emu, counted.config, State.deviceEvent_counter]
    rfl
  · rw [sent] at hx
    have use : (s.begin.deviceEvent .staleTelegram capture).reportInUse = s.mge.reportNode :=
      (State.leads_inUse (State.deviceEvent_leads _ _ _) (by simp)).2
    rcases counted.sent x hx with old | ⟨c, rfl⟩
    · rcases State.mem_deviceEvent_issued old with none | rfl
      · cases none
      · exact ⟨4, capture, .inl rfl, rfl⟩
    · exact ⟨7, c, .inr rfl, by rw [use]⟩

/-! ## Refused arrivals (3.2) -/

section
variable {s : State} {f : Sender} {b : Byte} {body build : Word}

theorem State.bodyArrive_of_stranger (h : s.mge.lineNode = 0 ∨ f.node ≠ s.mge.lineNode) :
    s.bodyArrive f b body build = s.deviceEvent .badTelegram {} := if_pos h

/-- An arrival from the line node that a reason meets is refused with it. -/
theorem State.bodyArrive_of_reason (line : s.mge.lineNode ≠ 0) (node : f.node = s.mge.lineNode) {reason : AckReason}
    (h : (16 ≤ b.toNat ∧ reason = .station)
      ∨ ∃ st : Fin 16, b.toNat = st
        ∧ (((s.station st).state = .disabled ∧ reason = .station)
          ∨ ((s.station st).state ≠ .disabled ∧ body = 0 ∧ reason = .body)
          ∨ ((s.station st).state ≠ .disabled ∧ body ≠ 0 ∧ s.duplicates st body ∧ reason = .duplicate)
          ∨ ((s.station st).state ≠ .disabled ∧ body ≠ 0 ∧ s.duplicates st body = false
            ∧ 32 ≤ s.arq.queue.length ∧ reason = .full))) :
    ∃ st, s.bodyArrive f b body build = s.refuseArrival f.seq st body reason := by
  have known : ¬ (s.mge.lineNode = 0 ∨ f.node ≠ s.mge.lineNode) := not_or.mpr ⟨line, not_not.mpr node⟩
  unfold State.bodyArrive
  rw [if_neg known]
  rcases h with ⟨range, rfl⟩ | ⟨st, hst, h⟩
  · have none : below? 16 b = .none := dif_neg (by omega)
    exact ⟨.none, by simp only [none]⟩
  · refine ⟨some st, ?_⟩
    simp only [below?_eq_some.mpr hst]
    rcases h with ⟨off, rfl⟩ | ⟨on, zero, rfl⟩ | ⟨on, body, twice, rfl⟩ | ⟨on, body, once, full, rfl⟩
    · exact if_pos off
    · rw [if_neg on, if_pos zero]
    · rw [if_neg on, if_neg body, if_pos twice]
    · rw [if_neg on, if_neg body, if_neg (by simp [once])]
      exact if_pos full

theorem State.refuseArrival_set (s : State) (seq : Half) (st : Option (Fin 16)) (body : Word) (r : AckReason) :
    ((s.refuseArrival seq st body r).deviceStatus 0).set = true := by
  unfold State.refuseArrival
  rw [(State.count_counted _ _ _ _).device 0 (by decide)]
  exact State.deviceEvent_set _ .arrivalRefused _

/-- The refusal is answered ahead of what else it sends. -/
theorem State.refuseArrival_issued {s : State} (node : s.lif.node?.isSome = true) (line : s.lineInUse ≠ 0) (seq : Half)
    (st : Option (Fin 16)) (body : Word) (r : AckReason) :
    s.issued ++ [.arrivalAck s.lineInUse seq body (some r)] <+: (s.refuseArrival seq st body r).issued := by
  have sent : (s.issueToLine (.arrivalAck · seq body (some r))).issued
      = s.issued ++ [.arrivalAck s.lineInUse seq body (some r)] := by
    rw [State.issueToLine, if_neg line, State.issue_issued node]
  rw [← sent]
  exact (State.deviceEvent_leads _ _ _).2.1.trans (State.count_leads _ _ _ _).2.1

end

/-- Settles O49: a stranger's arrival sets BAD_TELEGRAM, a refused one is answered and sets ARRIVAL_REFUSED. -/
theorem arrivalRefused : Obligations.ArrivalRefused := by
  intro s f b body build ready settled
  refine ⟨fun stranger => ?_, fun line node reason cause => ?_⟩
  · have led := s.begin.deviceEvent_leads .badTelegram {}
    have calm : (s.begin.deviceEvent .badTelegram {}).calm := .inl (State.deviceEvent_passDue _ _ _)
    have still := State.settled_of_leads led settled
    refine ⟨_, congrArg Host.Outcome.next ((State.telegram_of_ready ready _).trans (congrArg State.finish
      (State.bodyArrive_of_stranger (s := s.begin) stranger))), ?_, State.finish_keeps_of_settled led calm still⟩
    rw [State.deviceStatus_congr ((State.finish_keeps_of_calm_settled calm still).1.2 .emu (by simp))]
    exact State.deviceEvent_set s.begin .badTelegram _
  · obtain ⟨st, ran⟩ := State.bodyArrive_of_reason (s := s.begin) (build := build) line node cause
    have led := s.begin.refuseArrival_leads f.seq st body reason
    have calm : (s.begin.refuseArrival f.seq st body reason).calm := .inl (State.refuseArrival_passDue _ _ _ _ _)
    have still := State.settled_of_leads led settled
    refine ⟨_, congrArg Host.Outcome.next ((State.telegram_of_ready ready _).trans (congrArg State.finish ran)), ?_, ?_,
      State.finish_keeps_of_settled led calm still⟩
    · have first := State.refuseArrival_issued (s := s.begin) (s.ready_iff.mp ready).2 line f.seq st body reason
      exact head?_of_prefix (first.trans (State.finish_issued _))
    · rw [State.deviceStatus_congr ((State.finish_keeps_of_calm_settled calm still).1.2 .emu (by simp))]
      exact State.refuseArrival_set _ _ _ _ _

end Sys2Proof.Machine
end

section
/-! The completion of a slot and the timers of a station (the statement O59). -/

namespace Sys2Proof.Machine

/-! ## Completion (R146, R147) -/

theorem Slot.settled_iff (c : Slot) :
    c.positions.toList.all positionSettled = true ↔ ∀ (p : Fin 8) y, c.positions[p] = some y → y.outcome ≠ .pending := by
  rw [List.all_eq_true]
  simp only [Vector.mem_toList_iff, Vector.mem_iff_getElem, forall_exists_index]
  constructor
  · intro h p y hy
    simpa [positionSettled, hy] using h c.positions[p] p p.isLt rfl
  · rintro h _ p hp rfl
    cases hy : c.positions[p] with
    | none => rfl
    | some y => simpa [positionSettled] using h ⟨p, hp⟩ y hy

/-- A station's CURRENT slot completes where the station runs, the slot is SEATED and no position is pending. -/
theorem Station.completes_iff {x : Station} {c : Slot} (current : x.current = some c) :
    x.completes = true ↔ x.state = .running ∧ c.state = .seated
      ∧ ∀ (p : Fin 8) y, c.positions[p] = some y → y.outcome ≠ .pending := by
  simp only [Station.completes, current, Option.any_some, Bool.and_eq_true, beq_iff_eq, Slot.settled_iff]

theorem State.checkCompletion_of_not {s : State} {st : Fin 16} (h : (s.station st).completes = false) :
    s.checkCompletion st = s := by
  unfold State.checkCompletion
  dsimp only
  split
  · rfl
  · exact if_neg (by simp [h])

/-- The release of a completed slot: STATION_RELEASE, then RELEASED with the cycle timer stopped. -/
def State.releaseSlot (s : State) (st : Fin 16) (c : Slot) : State :=
  ((s.setStation st { s.station st with current := some { c with state := .complete } }).issueToLine
    (.stationRelease · st c.body c.overall c.shortfalls)).setStation st
      { s.station st with current := some { c with state := .released }, cycleTimer := none }

theorem State.checkCompletion_of_completes {s : State} {st : Fin 16} {c : Slot} (current : (s.station st).current = some c)
    (h : (s.station st).completes = true) : s.checkCompletion st = s.releaseSlot st c := by
  unfold State.checkCompletion
  simp only [current]
  exact if_pos h

theorem State.releaseSlot_leads (s : State) (st : Fin 16) (c : Slot) : s.leads (s.releaseSlot st c) [.stc, .lif] :=
  State.leads_seq (State.leads_seq (s.setStation_leads _ _) (State.issueToLine_leads _ _) (n := [.stc, .lif]) (by simp)
    (by simp)) (State.setStation_leads _ _ _) (by simp) (by simp)

theorem State.releaseSlot_station (s : State) (st : Fin 16) (c : Slot) (q : Fin 16) :
    (s.releaseSlot st c).station q = if st = q then
        { s.station st with current := some { c with state := .released }, cycleTimer := none } else s.station q := by
  rw [State.releaseSlot, State.station_setStation]
  split
  · rfl
  · next other =>
    refine (State.station_congr ((State.issueToLine_leads _ _).1.2 .stc (by simp)) q).trans ?_
    rw [State.station_setStation, if_neg other]

theorem State.releaseSlot_passDue (s : State) (st : Fin 16) (c : Slot) : (s.releaseSlot st c).passDue = s.passDue := by
  unfold State.releaseSlot
  rw [State.setStation_passDue, State.issueToLine_passDue, State.setStation_passDue]

theorem State.releaseSlot_issued {s : State} (node : s.lif.node?.isSome = true) (line : s.lineInUse ≠ 0) (st : Fin 16)
    (c : Slot) : (s.releaseSlot st c).issued
      = s.issued ++ [.stationRelease s.lineInUse st c.body c.overall c.shortfalls] := by
  rw [State.releaseSlot, State.setStation_issued, State.issueToLine, if_neg (by exact line),
    State.issue_issued (by exact node)]
  rfl

/-! ## The seat timer and the cycle timer (7.4) -/

/-- A station whose seat timer expires: its CURRENT slot is SEATED and the cycle timer runs (R144). -/
def Station.seated (x : Station) (c : Slot) : Station :=
  { x with
    current := some { c with state := .seated }, seatTimer := none, cycleTimer := some (10 * x.config.cycleLimit + 1) }

theorem Station.seated_state {x : Station} {c : Slot} (current : x.current = some c) : (x.seated c).state = x.state := by
  simp [Station.state, Station.seated, current]

theorem State.seatExpiry_of_due {s : State} {st : Fin 16} {c : Slot} (current : (s.station st).current = some c)
    (due : (s.station st).seatTimer = some 0) :
    s.seatExpiry st = (s.setStation st ((s.station st).seated c)).checkCompletion st := by
  simp only [State.seatExpiry, current, Station.seated]
  exact if_pos due

/-- Settles O59: the seat timer seats the body and the completion check follows; the cycle timer sets its event alone. -/
theorem stationTimers : Obligations.StationTimers := by
  intro s st c ready settled current
  have running := (s.ready_iff.mp ready).1
  refine ⟨fun due => ?_, fun due => ?_⟩
  · set u := s.begin.setStation st ((s.station st).seated c) with hu
    have expired : s.begin.seatExpiry st = u.checkCompletion st := State.seatExpiry_of_due (s := s.begin) current due
    have uStation : u.station st = (s.station st).seated c := by rw [hu, State.station_setStation, if_pos rfl]
    have completes : (u.station st).completes = true ↔ (s.station st).state = .running
        ∧ ∀ (p : Fin 8) y, c.positions[p] = some y → y.outcome ≠ .pending := by
      rw [uStation, Station.completes_iff (c := { c with state := .seated }) rfl, Station.seated_state current]
      simp
    refine ⟨fun waits seatable => ?_, fun runs done => ?_⟩
    · have incomplete : (u.station st).completes = false := by
        refine Bool.eq_false_iff.mpr fun complete => ?_
        obtain ⟨runs, done⟩ := completes.mp complete
        rcases waits with stopped | ⟨p, y, hy, pending⟩
        · exact stopped runs
        · exact done p y hy pending
      refine congrArg Host.Outcome.next (State.event_eq running
        (expired.trans (State.checkCompletion_of_not incomplete)) rfl rfl ?_)
      refine State.settled_of_image (s := s.begin) settled (State.image_setStation ?_ (Station.seated_state current)) rfl
      simp [State.begin_station, current, seatable]
    · set t := u.releaseSlot st { c with state := .seated } with ht
      have ran : s.begin.seatExpiry st = t := expired.trans (State.checkCompletion_of_completes
        (c := { c with state := .seated }) (by rw [uStation]; rfl) (completes.mpr ⟨runs, done⟩))
      have led : s.begin.leads t [.stc, .lif] :=
        State.leads_seq (s.begin.setStation_leads _ _) (State.releaseSlot_leads _ _ _) (by simp) (by simp)
      have calm : t.calm := .inl (u.releaseSlot_passDue st _)
      have stations : t.finish.stc = t.stc := (State.finish_keeps_of_calm calm).2 .stc (by simp)
      refine ⟨_, congrArg Host.Outcome.next ((State.event_of_running running _).trans (congrArg State.finish ran)),
        ?_, fun q other => ?_, State.finish_reported_of_calm calm, fun line => ?_,
        State.finish_keeps_of_leads led calm⟩
      · rw [State.station_congr stations, ht, State.releaseSlot_station, if_pos rfl, uStation]
        rfl
      · rw [State.station_congr stations, ht, State.releaseSlot_station, if_neg (Ne.symm other), hu,
          State.station_setStation, if_neg (Ne.symm other)]
        rfl
      · have sent : t.issued = [.stationRelease s.mge.lineNode st c.body c.overall c.shortfalls] :=
          State.releaseSlot_issued (s := u) (s.ready_iff.mp ready).2 line st { c with state := .seated }
        exact head?_of_prefix (sent ▸ t.finish_issued)
  · set u := s.begin.setStation st { s.station st with cycleTimer := none } with hu
    have ran : s.begin.cycleExpiry st
        = u.stationEvent st .cycleOverrun none ((s.station st).current.map (·.body)) := if_pos due
    have led := u.stationEvent_leads st .cycleOverrun none ((s.station st).current.map (·.body))
    have calm : (u.stationEvent st .cycleOverrun none ((s.station st).current.map (·.body))).calm :=
      .inl (State.stationEvent_passDue _ _ _ _ _)
    have uSettled : u.settled = true :=
      State.settled_of_image (s := s.begin) settled (State.image_setStation rfl rfl) rfl
    have still := State.settled_of_leads led uSettled
    have kept := (State.finish_keeps_of_calm_settled calm still).1
    have stations (q : Fin 16) := (State.station_congr (kept.2 .stc (by simp)) q).trans
      (State.station_congr (led.1.2 .stc (by simp)) q)
    refine ⟨_, congrArg Host.Outcome.next ((State.event_of_running running _).trans (congrArg State.finish ran)),
      ?_, ?_, fun q other => ?_,
      State.finish_keeps_of_settled (State.leads_seq (s.begin.setStation_leads _ _) led (n := [.stc, .emu, .lif])
        (by simp) (by simp)) calm still⟩
    · rw [State.stationStatus_congr (kept.2 .emu (by simp))]
      exact State.stationEvent_set u st .cycleOverrun _ _
    · rw [stations, hu, State.station_setStation, if_pos rfl]
    · rw [stations, hu, State.station_setStation, if_neg (Ne.symm other)]
      rfl

end Sys2Proof.Machine
end

section
/-! The input side of the process image (8.2): what keeps the panels, a STATION_INPUTS that changes one station's levels, and the
edges of CLAMPED (the statement O33). -/

namespace Sys2Proof.Machine

/-! ## What keeps the panels -/

theorem State.panels_of_leads {s t : State} {l : List Block} (h : s.leads t l) (piu : .piu ∉ l := by simp) :
    t.piu.panels = s.piu.panels := congrArg Piu.panels (h.1.2 .piu piu)

theorem State.panel_congr {s t : State} (h : t.piu.panels = s.piu.panels) (st : Fin 16) : t.panel st = s.panel st := by
  simp [State.panel, h]

theorem State.comparePoint_panels (s : State) : s.comparePoint.piu.panels = s.piu.panels := by
  rw [State.comparePoint_piu]

theorem State.sendSelect_panels (s : State) (i : Fin 128) : (s.sendSelect i).piu.panels = s.piu.panels := by
  cases he : s.entry? i with
  | none => simp only [State.sendSelect, he]
  | some e =>
    rw [State.sendSelect_of_some he, State.panels_of_leads (State.count_leads _ _ _ _), State.setPlace_piu, State.issue_piu]
    exact State.comparePoint_panels _

theorem State.attemptOffer_panels (s : State) (r : Fin 64) : (s.attemptOffer r).piu.panels = s.piu.panels := by
  unfold State.attemptOffer
  split
  · rfl
  · split
    · rfl
    · split
      · split
        · exact State.panels_of_leads (State.endCore_leads _ _ _ _ _)
        · exact State.sendSelect_panels _ _
      · rfl

theorem State.attemptOffers_panels (s : State) (rs : List (Fin 64)) : (s.attemptOffers rs).piu.panels = s.piu.panels :=
  foldl_keep (P := fun t => t.piu.panels = s.piu.panels) (fun r t h => (t.attemptOffer_panels r).trans h) rs rfl

theorem State.abortSet_panels (s : State) (set : List (Fin 128)) : (s.abortSet set).piu.panels = s.piu.panels :=
  (State.attemptOffers_panels _ _).trans (State.panels_of_leads (s.endSet_leads set))

theorem State.allocate_panels (s : State) (a : Arrival) (style : Option (Fin 64)) (plans : List Plan)
    (queue : List Arrival) : (s.allocate a style plans queue).piu.panels = s.piu.panels := by
  refine (State.attemptOffers_panels _ _).trans ((State.panels_of_leads (State.dropStamp_leads _ _)).trans ?_)
  refine (State.panels_of_leads (State.setQueue_leads _ _)).trans ((State.panels_of_leads (forAll_leads
    (fun x t => State.createFor_leads a.station a.body x t) _ _)).trans ?_)
  exact State.panels_of_leads (State.writeSlot_leads _ _ _)

theorem passWalk_panels : ∀ (l ahead : List Arrival) (s : State), (passWalk ahead l s).piu.panels = s.piu.panels
  | [], _, _ => rfl
  | a :: rest, ahead, s => by
    unfold passWalk
    split
    · dsimp only
      split
      · exact (passWalk_panels rest _ _).trans (State.allocate_panels _ _ _ _ _)
      · refine (passWalk_panels rest _ _).trans ((State.panels_of_leads (State.skipEvents_leads _ _ _)).trans ?_)
        rfl
    · exact passWalk_panels rest _ _

theorem State.runPass_panels (s : State) : s.runPass.piu.panels = s.piu.panels := by
  unfold State.runPass
  split
  · exact passWalk_panels _ _ s
  · rfl

theorem State.finish_panels (s : State) : s.finish.piu.panels = s.piu.panels :=
  (State.comparePoint_panels _).trans s.runPass_panels

theorem State.departure_panels (s : State) (st : Fin 16) : (s.departure st).piu.panels = s.piu.panels := by
  unfold State.departure
  split
  · rfl
  · split
    · rfl
    · split
      · exact State.panels_of_leads (s.promote_leads st)
      · refine (State.panels_of_leads (State.promote_leads _ _)).trans ((State.abortSet_panels _ _).trans ?_)
        exact (State.panels_of_leads (State.updateStation_leads _ _ _)).trans
          (State.panels_of_leads (State.stationEvent_leads _ _ _ _ _))

theorem State.seatEdge_panels (s : State) (st : Fin 16) : (s.seatEdge st).piu.panels = s.piu.panels :=
  State.panels_of_leads (s.seatEdge_leads st)

/-! ## One station of a STATION_INPUTS (R161) -/

/-- A panel with the levels of an input byte. -/
def Panel.taken (x : Panel) (input : Byte) : Panel :=
  ⟨input.getLsbD 0, input.getLsbD 1, input.getLsbD 2, x.bits⟩

/-- The panel of a station takes the levels of its input byte, whatever the edges call for. -/
theorem State.stationInput_panel (st : Fin 16) (input : Byte) (s : State) (q : Fin 16) :
    (State.stationInput st input s).panel q = if st = q then (s.panel st).taken input else s.panel q := by
  have level : (s.setPanel st ((s.panel st).taken input)).panel q
      = if st = q then (s.panel st).taken input else s.panel q := State.panel_setPanel _ _ _ _
  have cond {c : Bool} {t : State} {work : State → State} (h : (work t).piu.panels = t.piu.panels) :
      (if c then work t else t).piu.panels = t.piu.panels := by
    split
    · exact h
    · rfl
  rw [← level]
  refine State.panel_congr ?_ q
  refine (cond (work := fun t => t.seatEdge st) (State.seatEdge_panels _ st)).trans
    ((cond (work := fun t => t.departure st) (State.departure_panels _ st)).trans ?_)
  exact cond (work := fun t => t.attemptOffers (t.headsNaming st)) (State.attemptOffers_panels _ _)

/-- Levels that are as the history has them call for nothing. -/
theorem State.stationInput_of_same {st : Fin 16} {input : Byte} {s : State}
    (same : (s.panel st).taken input = s.panel st) : State.stationInput st input s = s := by
  obtain ⟨present, clamped, manual⟩ : input.getLsbD 0 = (s.panel st).present ∧ input.getLsbD 1 = (s.panel st).clamped
      ∧ input.getLsbD 2 = (s.panel st).manual :=
    ⟨congrArg Panel.present same, congrArg Panel.clamped same, congrArg Panel.manual same⟩
  have still (m : EdgeMode) (b : Bool) : m.selects b b = false := by cases m <;> cases b <;> rfl
  have panel : s.setPanel st (s.panel st) = s := by simp [State.setPanel, State.panel]
  simp only [State.stationInput, present, clamped, manual, still, Bool.and_not_self, Bool.false_eq_true, if_false]
  exact panel

theorem forAll_eq_self {α : Type} {f : α → State → State} {s : State} :
    ∀ (l : List α), (∀ a ∈ l, f a s = s) → forAll l f s = s
  | [], _ => rfl
  | a :: l, h => by
    have rest := forAll_eq_self (f := f) (s := s) l fun b hb => h b (List.mem_cons_of_mem _ hb)
    rw [forAll_cons, h a List.mem_cons_self, rest]

theorem forAll_append {α : Type} (l m : List α) (f : α → State → State) (s : State) :
    forAll (l ++ m) f s = forAll m f (forAll l f s) := List.foldl_append ..

/-- A STATION_INPUTS that changes the levels of one station alone does what it calls for there. -/
theorem State.stationInputs_of_single {s : State} {v : Vector Byte 16} {st : Fin 16} (line : s.mge.lineNode ≠ 0)
    (others : ∀ q, q ≠ st → (s.panel q).taken v[q] = s.panel q) :
    s.stationInputs s.mge.lineNode v = State.stationInput st v[st] s := by
  obtain ⟨l, m, split⟩ := List.append_of_mem (List.mem_finRange st)
  have distinct : (l ++ st :: m).Nodup := split ▸ List.nodup_finRange 16
  obtain ⟨_, tail, apart⟩ := List.nodup_append.mp distinct
  have known : ¬ (s.mge.lineNode = 0 ∨ s.mge.lineNode ≠ s.mge.lineNode) := by simpa using line
  have all : allStations = l ++ st :: m := split
  rw [State.stationInputs, if_neg known, all, forAll_append, forAll_cons,
    forAll_eq_self l fun q hq => State.stationInput_of_same (others q (apart q hq st List.mem_cons_self))]
  refine forAll_eq_self m fun q hq => ?_
  have other : st ≠ q := fun here => (List.nodup_cons.mp tail).1 (here ▸ hq)
  refine State.stationInput_of_same ?_
  rw [State.stationInput_panel, if_neg other]
  exact others q (Ne.symm other)

/-- A STATION_INPUTS from the line node gives every station's panel its levels. -/
theorem State.stationInputs_panel {s : State} (line : s.mge.lineNode ≠ 0) (v : Vector Byte 16) (q : Fin 16) :
    (s.stationInputs s.mge.lineNode v).panel q = (s.panel q).taken v[q] := by
  obtain ⟨l, m, split⟩ := List.append_of_mem (List.mem_finRange q)
  have distinct : (l ++ q :: m).Nodup := split ▸ List.nodup_finRange 16
  obtain ⟨_, tail, apart⟩ := List.nodup_append.mp distinct
  have known : ¬ (s.mge.lineNode = 0 ∨ s.mge.lineNode ≠ s.mge.lineNode) := by simpa using line
  have all : allStations = l ++ q :: m := split
  have aside (l : List (Fin 16)) (h : ∀ st ∈ l, st ≠ q) (t : State) :
      (forAll l (fun st => State.stationInput st v[st]) t).panel q = t.panel q := by
    induction l generalizing t with
    | nil => rfl
    | cons st l ih =>
      rw [forAll_cons, ih (fun x hx => h x (List.mem_cons_of_mem _ hx)), State.stationInput_panel,
        if_neg (h st List.mem_cons_self)]
  rw [State.stationInputs, if_neg known, all, forAll_append, forAll_cons,
    aside m (fun st hst here => (List.nodup_cons.mp tail).1 (here ▸ hst)), State.stationInput_panel, if_pos rfl,
    aside l (fun st hst => apart st hst q List.mem_cons_self)]

/-! ## Edges (R143, R162) -/

theorem EdgeMode.selects_iff (m : EdgeMode) (old new : Bool) : m.selects old new = true ↔
    (((m = .rising ∨ m = .both) ∧ old = false ∧ new = true) ∨ ((m = .falling ∨ m = .both) ∧ old = true ∧ new = false)) := by
  cases m <;> cases old <;> cases new <;> decide

section
variable {s : State} {st : Fin 16} {input : Byte}

/-- The state in which a station's levels have been taken and nothing has been done for them. -/
def State.levelled (s : State) (st : Fin 16) (input : Byte) : State := s.setPanel st ((s.panel st).taken input)

theorem State.levelled_settled (settled : s.settled = true) (st : Fin 16) (input : Byte) :
    (s.levelled st input).settled = true := by
  have image : (s.levelled st input).image = s.image := State.image_setPanel rfl
  rw [State.settled_iff] at settled ⊢
  rw [image, ← settled]
  rfl

/-- Levels at which MANUAL and PRESENT are as before: the seat edge alone. -/
theorem State.stationInput_of_clamped (present : input.getLsbD 0 = (s.panel st).present)
    (manual : input.getLsbD 2 = (s.panel st).manual) :
    State.stationInput st input s
      = if (s.station st).config.seatEdge.selects (s.panel st).clamped (input.getLsbD 1) then
          (s.levelled st input).seatEdge st else s.levelled st input := by
  have still (m : EdgeMode) (b : Bool) : m.selects b b = false := by cases m <;> cases b <;> rfl
  simp only [State.stationInput, present, manual, still, State.levelled, Panel.taken]
  simp

theorem State.seatEdge_of_disabled (h : (s.station st).state = .disabled) : s.seatEdge st = s := if_pos h

theorem State.seatEdge_of_empty (on : (s.station st).state ≠ .disabled) (h : (s.station st).current = none) :
    s.seatEdge st = s.stationEvent st .clampNoBody none none := by
  simp only [State.seatEdge, h]
  exact if_neg on

theorem State.seatEdge_of_announced {c : Slot} (on : (s.station st).state ≠ .disabled)
    (h : (s.station st).current = some c) (announced : c.state = .announced) :
    s.seatEdge st = s.setStation st { s.station st with
      current := some { c with state := .seating }, seatTimer := some ((s.station st).config.seatDelay + 1) } := by
  simp only [State.seatEdge, h]
  rw [if_neg on, if_pos announced]

theorem State.seatEdge_of_later {c : Slot} (h : (s.station st).current = some c) (later : c.state ≠ .announced) :
    s.seatEdge st = s := by
  by_cases off : (s.station st).state = .disabled
  · exact State.seatEdge_of_disabled off
  · simp only [State.seatEdge, h]
    rw [if_neg off, if_neg later]

end

/-- What a STATION_INPUTS that did nothing but take a station's levels leaves. -/
theorem exec_of_levelled {s : State} {v : Vector Byte 16} {st : Fin 16} (ready : s.ready = true)
    (settled : s.settled = true) (ran : s.begin.stationInputs s.mge.lineNode v = s.begin.levelled st v[st]) :
    ∃ t : State, exec (.stationInputs s.mge.lineNode v) s = .next t ∧ t.issued = [] ∧ s.keeps t [.piu] := by
  have calm : (s.begin.levelled st v[st]).calm := .inl rfl
  have still := State.levelled_settled (s := s.begin) settled st v[st]
  exact ⟨_, congrArg Host.Outcome.next ((State.telegram_of_ready ready _).trans (congrArg State.finish ran)),
    (State.finish_keeps_of_calm_settled calm still).2,
    State.finish_keeps_of_settled (s.begin.setPanel_leads st _) calm still⟩

/-- Settles O33: the one station whose CLAMPED level may have changed has its seat edge, and nothing else is called for. -/
theorem seatEdge : Obligations.SeatEdge := by
  refine ⟨EdgeMode.selects_iff, fun s v st ready settled line levels => ?_⟩
  have others (q : Fin 16) (hq : q ≠ st) : (s.begin.panel q).taken v[q] = s.begin.panel q := by
    obtain ⟨present, manual, clamped⟩ := levels q
    rw [Panel.taken, present, manual, clamped hq]
    rfl
  obtain ⟨present, manual, _⟩ := levels st
  have ran := (State.stationInputs_of_single (s := s.begin) line others).trans
    (State.stationInput_of_clamped present manual)
  have still := State.levelled_settled (s := s.begin) settled st v[st]
  refine ⟨fun edge on => ⟨fun c current announced => ?_, fun c current later => ?_, fun empty => ?_⟩, fun idle => ?_⟩
  · set u := (s.begin.levelled st v[st]).setStation st { s.station st with
      current := some { c with state := .seating }, seatTimer := some ((s.station st).config.seatDelay + 1) } with hu
    have seated : s.begin.stationInputs s.mge.lineNode v = u := (ran.trans (if_pos edge)).trans
      (State.seatEdge_of_announced (s := s.begin.levelled st v[st]) on current announced)
    have calm : u.calm := .inl rfl
    have state : Station.state { s.station st with
        current := some { c with state := .seating }, seatTimer := some ((s.station st).config.seatDelay + 1) }
          = (s.station st).state := by simp [Station.state, current]
    have uSettled : u.settled = true := State.settled_of_image still
      (State.image_setStation (by
        change _ = (s.station st).current.any _
        simp [current, announced]) state) rfl
    have led : s.begin.leads u [.stc, .piu] :=
      State.leads_seq (s.begin.setPanel_leads _ _) (State.setStation_leads _ _ _) (by simp) (by simp)
    have stations (q : Fin 16) : u.finish.station q = u.station q :=
      State.station_congr ((State.finish_keeps_of_calm_settled calm uSettled).1.2 .stc (by simp)) q
    refine ⟨_, congrArg Host.Outcome.next ((State.telegram_of_ready ready _).trans (congrArg State.finish seated)),
      ?_, fun q other => ?_, State.finish_keeps_of_settled led calm uSettled⟩
    · rw [stations, hu, State.station_setStation, if_pos rfl]
    · rw [stations, hu, State.station_setStation, if_neg (Ne.symm other)]
      rfl
  · exact exec_of_levelled ready settled ((ran.trans (if_pos edge)).trans
      (State.seatEdge_of_later (s := s.begin.levelled st v[st]) current later))
  · have alone := (ran.trans (if_pos edge)).trans
      (State.seatEdge_of_empty (s := s.begin.levelled st v[st]) on empty)
    have event := (s.begin.levelled st v[st]).stationEvent_leads st .clampNoBody none none
    have calm : ((s.begin.levelled st v[st]).stationEvent st .clampNoBody none none).calm :=
      .inl (State.stationEvent_passDue _ _ _ _ _)
    have uSettled := State.settled_of_leads event still
    have led := State.leads_seq (s.begin.setPanel_leads st _) event (n := [.piu, .emu, .lif]) (by simp) (by simp)
    refine ⟨_, congrArg Host.Outcome.next ((State.telegram_of_ready ready _).trans (congrArg State.finish alone)),
      ?_, State.finish_keeps_of_settled led calm uSettled⟩
    rw [State.stationStatus_congr ((State.finish_keeps_of_calm_settled calm uSettled).1.2 .emu (by simp))]
    exact State.stationEvent_set _ st .clampNoBody _ _
  · by_cases edge : (s.station st).config.seatEdge.selects (s.panel st).clamped ((v[st]).getLsbD 1) = true
    · have off := idle.resolve_left fun other => absurd (edge.symm.trans other) (by decide)
      exact exec_of_levelled ready settled ((ran.trans (if_pos edge)).trans
        (State.seatEdge_of_disabled (s := s.begin.levelled st v[st]) off))
    · exact exec_of_levelled ready settled (ran.trans (if_neg edge))

end Sys2Proof.Machine
end

section
/-! The link (10.1, 10.2): the ports' transmitters, the forwarding of frames, the form checks and the handing on of a telegram
(the statements O44, O45 and O47). -/

namespace Sys2Proof.Machine

/-! ## Transmitters (R193) -/

theorem Port.transmit_of_forward {x : Port} {a : Frame} {rest : List Frame} (h : x.forward = a :: rest)
    (turn : x.own = [] ∨ x.ownTurn = false) (build : Telegram → Frame) :
    x.transmit build = ⟨x.up, some a, rest, x.own, !x.own.isEmpty⟩ := by
  unfold Port.transmit
  rw [h]
  cases own : x.own with
  | nil => simp
  | cons t ts =>
    have turn := turn.resolve_left (by simp [own])
    simp [turn]

theorem Port.transmit_of_own {x : Port} {a : Telegram} {rest : List Telegram} (h : x.own = a :: rest)
    (turn : x.forward = [] ∨ x.ownTurn = true) (build : Telegram → Frame) :
    x.transmit build = ⟨x.up, some (build a), x.forward, rest, false⟩ := by
  unfold Port.transmit
  rw [h]
  cases forward : x.forward with
  | nil => simp
  | cons t ts =>
    have turn := turn.resolve_left (by simp [forward])
    simp [turn]

theorem Port.transmit_of_none {x : Port} (own : x.own = []) (forward : x.forward = []) (build : Telegram → Frame) :
    x.transmit build = ⟨x.up, none, [], [], false⟩ := by
  unfold Port.transmit
  rw [own, forward]

/-- An event that does nothing but write a port's record. -/
theorem State.event_of_port {s : State} (running : s.lif.inReset = false) (settled : s.settled = true) {id : PortId}
    {work : State → State} {x : Port} (h : work s.begin = { s.begin with lif := s.lif.setPort id x }) :
    s.event work = { s.begin with lif := s.lif.setPort id x } :=
  State.event_eq running h rfl rfl settled

theorem Port.give_eq (x : Port) (t : Telegram) :
    x.give t = { x with own := if x.up ∧ x.own.length < Config.ownStore then x.own ++ [t] else x.own } := by
  unfold Port.give
  split <;> rfl

/-- Settles O47: what a transmitter takes next, and what issuing a telegram writes. -/
theorem portsTransmit : Obligations.PortsTransmit := by
  refine ⟨fun s id x n running settled node port => ?_, fun s t => ⟨fun none => ?_, fun some => ?_⟩⟩
  · subst port
    have sent {y : Port} (h : (s.lif.port id).transmit (Telegram.toFrame s.lif.typeValue n) = y) :
        exec (.portTransmit id) s = .next { s.begin with lif := s.lif.setPort id y } := by
      refine congrArg Host.Outcome.next (State.event_of_port running settled ?_)
      simp only [State.portTransmit, State.begin_lif, node, Option.getD_some, h]
    refine ⟨fun a rest forward turn => sent (Port.transmit_of_forward forward turn _),
      fun a rest own turn => sent (Port.transmit_of_own own turn _),
      fun own forward => sent (Port.transmit_of_none own forward _), ?_, ?_⟩
    · exact congrArg Host.Outcome.next (State.event_of_port running settled rfl)
    · exact congrArg Host.Outcome.next (State.event_of_port running settled rfl)
  · simp only [State.issue, none]
  · obtain ⟨n, node⟩ := Option.isSome_iff_exists.mp some
    refine ⟨State.issue_issued some t, (s.issue_leads t).1, ?_, ?_⟩
    · simp only [State.issue, node]
      exact Port.give_eq _ _
    · simp only [State.issue, node]
      exact Port.give_eq _ _

/-! ## Forwarding (R191) -/

theorem Port.forwards_eq (x : Port) (f : Frame) :
    x.forwards f = { x with forward := if x.up then x.forward ++ [f] else x.forward } := by
  unfold Port.forwards
  split <;> rfl

theorem State.forwardFrame_p1 (s : State) (f : Frame) :
    s.forwardFrame .p1 f = { s with lif := { s.lif with p2 := { s.lif.p2 with
      forward := if s.lif.p2.up then s.lif.p2.forward ++ [f] else s.lif.p2.forward } } } :=
  congrArg (fun x => ({ s with lif := { s.lif with p2 := x } } : State)) (Port.forwards_eq s.lif.p2 f)

theorem State.forwardFrame_p2 (s : State) (f : Frame) :
    s.forwardFrame .p2 f = { s with lif := { s.lif with p1 := { s.lif.p1 with
      forward := if s.lif.p1.up then s.lif.p1.forward ++ [f] else s.lif.p1.forward } } } :=
  congrArg (fun x => ({ s with lif := { s.lif with p1 := x } } : State)) (Port.forwards_eq s.lif.p1 f)

theorem State.forwardFrame_inReset (s : State) (id : PortId) (f : Frame) :
    (s.forwardFrame id f).lif.inReset = s.lif.inReset := (s.forwardFrame_leads id f).2.2.1

/-! ## The ownership watch (R157) -/

theorem State.conflictOver_of_conflict? {s : State} {n : Byte} {f : Frame} {st : Fin 16} {r : Option (Fin 64)}
    (source : f.source ≠ n) (version : byteAt f.bytes 0 = 1) (h : s.conflict? f = some (st, r)) :
    s.conflictOver n f st := by
  refine ⟨source, version, ?_⟩
  unfold State.conflict? at h
  split at h
  · next kind =>
    split at h
    · next long =>
      obtain ⟨q, hq, eq⟩ := Option.map_eq_some_iff.mp h
      obtain ⟨rfl, _⟩ := Prod.mk.inj eq
      exact .inl ⟨kind, long, q, hq, rfl⟩
    · cases h
  · split at h
    · next kind =>
      split at h
      · next long =>
        obtain ⟨q, hq, on⟩ := Option.bind_eq_some_iff.mp h
        split at on
        · cases on
        · next enabled =>
          cases on
          exact .inr ⟨kind, long.1, long.2, below?_eq_some.mp hq, enabled⟩
      · cases h
    · cases h

/-- The watch over a frame that is no conflict does nothing. -/
theorem State.watch_of_no_conflict {s : State} {n : Byte} {f : Frame} (h : ∀ st, ¬ s.conflictOver n f st) :
    s.watch n f = s := by
  unfold State.watch
  split
  · next mark =>
    split
    · rfl
    · next st r conflict => exact (h st (State.conflictOver_of_conflict? mark.1 mark.2 conflict)).elim
  · rfl

/-! ## The form checks (R195) -/

theorem inLengths?_of_unknown {k : Nat} (h : k ∉ [0x01, 0x02, 0x21, 0x22, 0x23, 0x24, 0x25, 0x31]) : inLengths? k = none := by
  unfold inLengths?
  split <;> simp_all

section
variable {n : Byte} {f : Frame}

theorem formCheck_of_own (h : f.source = n) : formCheck n f = .silent := if_pos h

/-- A telegram of a kind that the part does not take in: none of its concern, or wrong. -/
theorem formCheck_of_unknown (own : f.source ≠ n) (zero : f.source ≠ 0) (broadcast : f.source ≠ 255)
    (version : byteAt f.bytes 0 = 1) (kind : inLengths? f.kind = none) :
    formCheck n f = if isOutKind f.kind ∧ f.destination ≠ n then .silent else .bad := by
  have named : ¬ (f.source = 0 ∨ f.source = Config.broadcast) := not_or.mpr ⟨zero, broadcast⟩
  unfold formCheck
  simp only [if_neg own, if_neg named, if_neg (not_not.mpr version), kind]

/-- A telegram of a kind that the part takes in passes where its length fits and it carries its payload. -/
theorem formCheck_of_lengths {lo hi : Nat} (own : f.source ≠ n) (zero : f.source ≠ 0) (broadcast : f.source ≠ 255)
    (version : byteAt f.bytes 0 = 1) (kind : inLengths? f.kind = some (lo, hi)) :
    formCheck n f
      = if lo ≤ f.payloadLength ∧ f.payloadLength ≤ hi ∧ 8 + f.payloadLength ≤ f.bytes.length then .passes else .bad := by
  have named : ¬ (f.source = 0 ∨ f.source = Config.broadcast) := not_or.mpr ⟨zero, broadcast⟩
  unfold formCheck
  simp only [if_neg own, if_neg named, if_neg (not_not.mpr version), kind, Frame.holdsPayload, decide_eq_true_eq]

/-- What fails a form check: a bad source, a bad version, a kind that the part does not take in, or a length that does not
fit. -/
theorem formCheck_of_bad (own : f.source ≠ n)
    (h : f.source = 0 ∨ f.source = 255 ∨ byteAt f.bytes 0 ≠ 1
      ∨ f.kind ∉ [0x01, 0x02, 0x03, 0x04, 0x05, 0x11, 0x12, 0x13, 0x14, 0x21, 0x22, 0x23, 0x24, 0x25, 0x31, 0x32, 0x33]
      ∨ (f.kind ∈ [0x03, 0x04, 0x05, 0x11, 0x12, 0x13, 0x14, 0x32, 0x33] ∧ f.destination = n)
      ∨ (f.kind = 0x01 ∧ f.payloadLength ≠ 9) ∨ (f.kind = 0x02 ∧ f.payloadLength ≠ 16)
      ∨ (f.kind = 0x21 ∧ f.payloadLength ≠ 5) ∨ (f.kind ∈ [0x22, 0x23, 0x24] ∧ f.payloadLength ≠ 2)
      ∨ (f.kind = 0x25 ∧ f.payloadLength ≠ 5)
      ∨ (f.kind = 0x31 ∧ (f.payloadLength = 0 ∨ 36 < f.payloadLength))
      ∨ (f.kind ∈ [0x01, 0x02, 0x21, 0x22, 0x23, 0x24, 0x25, 0x31] ∧ f.bytes.length < 8 + f.payloadLength)) :
    formCheck n f = .bad := by
  by_cases named : f.source = 0 ∨ f.source = 255
  · unfold formCheck
    rw [if_neg own, if_pos (by exact named)]
  obtain ⟨zero, broadcast⟩ := not_or.mp named
  by_cases version : byteAt f.bytes 0 = 1
  · have wrong {lo hi : Nat} (kind : inLengths? f.kind = some (lo, hi))
        (length : ¬ (lo ≤ f.payloadLength ∧ f.payloadLength ≤ hi ∧ 8 + f.payloadLength ≤ f.bytes.length)) :
        formCheck n f = .bad := by rw [formCheck_of_lengths own zero broadcast version kind, if_neg length]
    have unknown (kind : f.kind ∉ [0x01, 0x02, 0x21, 0x22, 0x23, 0x24, 0x25, 0x31])
        (here : ¬ (isOutKind f.kind = true ∧ f.destination ≠ n)) : formCheck n f = .bad := by
      rw [formCheck_of_unknown own zero broadcast version (inLengths?_of_unknown kind), if_neg here]
    rcases h with h | h | h | h | ⟨h, here⟩ | ⟨h, length⟩ | ⟨h, length⟩ | ⟨h, length⟩ | ⟨h, length⟩ | ⟨h, length⟩
      | ⟨h, length⟩ | ⟨h, short⟩
    · exact absurd h zero
    · exact absurd h broadcast
    · exact absurd version h
    · simp only [List.mem_cons, List.not_mem_nil, or_false, not_or] at h
      exact unknown (by simp [h]) (by simp [isOutKind, h])
    · refine unknown (fun known => ?_) (by simp [here])
      simp only [List.mem_cons, List.not_mem_nil, or_false] at h known
      omega
    · exact wrong (lo := 9) (hi := 9) (by rw [h]; rfl) (by omega)
    · exact wrong (lo := 16) (hi := 16) (by rw [h]; rfl) (by omega)
    · exact wrong (lo := 5) (hi := 5) (by rw [h]; rfl) (by omega)
    · simp only [List.mem_cons, List.not_mem_nil, or_false] at h
      exact wrong (lo := 2) (hi := 2) (by rcases h with h | h | h <;> rw [h] <;> rfl) (by omega)
    · exact wrong (lo := 5) (hi := 5) (by rw [h]; rfl) (by omega)
    · exact wrong (lo := 1) (hi := 36) (by rw [h]; rfl) (by omega)
    · have known : ∃ lo hi, inLengths? f.kind = some (lo, hi) := by
        simp only [List.mem_cons, List.not_mem_nil, or_false] at h
        rcases h with h | h | h | h | h | h | h | h <;> exact ⟨_, _, by rw [h]; rfl⟩
      obtain ⟨lo, hi, kind⟩ := known
      exact wrong kind (by omega)
  · unfold formCheck
    rw [if_neg own, if_neg (by exact named), if_pos version]

end

/-! ## Taking in (R194, R195) -/

theorem State.takeIn_of_elsewhere {s : State} {n : Byte} {f : Frame} (other : f.destination ≠ n)
    (single : f.destination ≠ 255) : s.takeIn n f = s := if_neg (not_or.mpr ⟨other, single⟩)

theorem State.takeIn_of_here {s : State} {n : Byte} {f : Frame} (here : f.destination = n ∨ f.destination = 255) :
    s.takeIn n f = match formCheck n f with
      | .silent => s
      | .bad => s.deviceEvent .badTelegram {}
      | .passes => s.hand f := if_pos here

/-- A telegram of the part's type with a correct check sequence is forwarded, watched and taken in. -/
theorem State.receiveFrame_of_type {s : State} {n : Byte} (node : s.lif.node? = some n) {f : Frame} (fcs : f.fcsOk = true)
    (type : f.frameType = s.lif.typeValue) (id : PortId) :
    s.receiveFrame id f = ((s.forwardFrame id f).watch n f).takeIn n f := by
  simp only [State.receiveFrame, node]
  exact if_pos ⟨fcs, type⟩

theorem State.receiveFrame_of_other {s : State} {f : Frame}
    (h : f.fcsOk = false ∨ f.frameType ≠ s.lif.typeValue ∨ s.lif.node? = none) (id : PortId) :
    s.receiveFrame id f = s.forwardFrame id f := by
  unfold State.receiveFrame
  dsimp only
  split
  · rfl
  · next n node =>
    refine if_neg ?_
    rintro ⟨fcs, type⟩
    rcases h with h | h | h
    · exact absurd (fcs.symm.trans h) (by decide)
    · exact h type
    · rw [node] at h; cases h

/-- Settles O44: forwarding comes first; then the frame is no telegram for the part, or a form check tells what is done. -/
theorem frameChecked : Obligations.FrameChecked := by
  have forwarded {s : State} (running : s.lif.inReset = false) (settled : s.settled = true) {id : PortId} {f : Frame}
      (h : s.begin.receiveFrame id f = s.begin.forwardFrame id f) :
      exec (.frameReceive id f) s = .next (s.begin.forwardFrame id f) :=
    congrArg Host.Outcome.next (State.event_eq running h rfl rfl settled)
  refine ⟨fun s f running settled other => ⟨?_, ?_⟩, fun s f => ⟨s.forwardFrame_p1 f, s.forwardFrame_p2 f⟩,
    fun s id f n running settled node fcs type peace => ?_⟩
  · rw [forwarded running settled (State.receiveFrame_of_other (s := s.begin) other _), State.forwardFrame_p1]
    rfl
  · rw [forwarded running settled (State.receiveFrame_of_other (s := s.begin) other _), State.forwardFrame_p2]
    rfl
  · have taken : s.begin.receiveFrame id f = (s.begin.forwardFrame id f).takeIn n f := by
      rw [State.receiveFrame_of_type (s := s.begin) node fcs type,
        State.watch_of_no_conflict (s := s.begin.forwardFrame id f) (by exact peace)]
    have silent (here : f.destination = n ∨ f.destination = 255) (h : formCheck n f = .silent) :
        exec (.frameReceive id f) s = .next (s.begin.forwardFrame id f) := by
      refine forwarded running settled (taken.trans ?_)
      rw [State.takeIn_of_here here, h]
    refine ⟨fun other single => forwarded running settled (taken.trans (State.takeIn_of_elsewhere other single)),
      fun here => ⟨fun own => silent here (formCheck_of_own own), fun own bad => ?_,
        fun own zero broadcast version kind other => silent here ?_⟩⟩
    · have checked : s.begin.receiveFrame id f = (s.begin.forwardFrame id f).deviceEvent .badTelegram {} := by
        rw [taken, State.takeIn_of_here here, formCheck_of_bad own bad]
      have led := (s.begin.forwardFrame id f).deviceEvent_leads .badTelegram {}
      have calm : ((s.begin.forwardFrame id f).deviceEvent .badTelegram {}).calm := .inl (State.deviceEvent_passDue _ _ _)
      have still := State.settled_of_leads led settled
      obtain ⟨kept, _⟩ := State.finish_keeps_of_calm_settled calm still
      refine ⟨_, congrArg Host.Outcome.next ((State.event_of_running running _).trans (congrArg State.finish checked)),
        ?_, State.keeps_trans led.1 (State.keeps_mono kept (by simp))⟩
      rw [State.deviceStatus_congr (kept.2 .emu (by simp))]
      exact State.deviceEvent_set _ .badTelegram _
    · have unknown : inLengths? f.kind = none := inLengths?_of_unknown fun known => by
        simp only [List.mem_cons, List.not_mem_nil, or_false] at kind known
        omega
      rw [formCheck_of_unknown own zero broadcast version unknown]
      exact if_pos ⟨by simpa [isOutKind] using kind, other⟩

/-! ## Handing on (R195, R204 to R207) -/

theorem tabulate_byteAt {v : Vector Byte 16} {p : List Byte} (h : v.toList = p) :
    tabulate 16 (fun st => byteAt p st) = v := by
  subst h
  refine Vector.ext fun i hi => ?_
  simp [tabulate, byteAt]

/-- Settles O45: the frame is of no kind that the watch examines, its form check passes, and it is handed on. -/
theorem frameHandedOn : Obligations.FrameHandedOn := by
  intro s u id f n p running node fcs type here own zero broadcast version whole hu hp
  subst hu hp
  have uRunning : (s.forwardFrame id f).lif.inReset = false := (s.forwardFrame_inReset id f).trans running
  have uNode : (s.forwardFrame id f).lif.node? = some n := (State.leads_node (s.forwardFrame_leads id f)).trans node
  have uReady : (s.forwardFrame id f).ready = true := (State.ready_iff _).mpr ⟨uRunning, by rw [uNode]; rfl⟩
  have handed {lo hi : Nat} (peace : f.kind ≠ 0x11 ∧ f.kind ≠ 0x14 ∧ f.kind ≠ 0x04)
      (kind : inLengths? f.kind = some (lo, hi)) (length : lo ≤ f.payloadLength ∧ f.payloadLength ≤ hi)
      {work : State → State} (h : ∀ t : State, t.hand f = work t) :
      exec (.frameReceive id f) s = .next ((s.forwardFrame id f).telegram work) := by
    have received : s.begin.receiveFrame id f = work (s.forwardFrame id f).begin := by
      rw [State.receiveFrame_of_type (s := s.begin) node fcs type, State.watch_of_no_conflict (fun st conflict => ?_),
        State.takeIn_of_here here, formCheck_of_lengths own zero broadcast version kind,
        if_pos ⟨length.1, length.2, whole⟩]
      · exact h _
      · obtain ⟨_, _, ⟨kind, _⟩ | ⟨kind, _⟩⟩ := conflict
        · exact kind.elim peace.1 peace.2.1
        · exact peace.2.2 kind
    refine congrArg Host.Outcome.next ?_
    rw [State.event_of_running running, received, State.telegram_of_ready uReady]
  refine ⟨fun kind length => ?_, fun kind length v hv => ?_, fun kind length => ?_, fun kind length => ?_,
    fun kind length => ?_, fun kind length => ?_, fun kind length => ?_, fun kind low high => ?_⟩
  · exact handed (lo := 9) (hi := 9) (by omega) (by rw [kind]; rfl) (by omega) (fun t => by simp only [State.hand, kind]; rfl)
  · refine handed (lo := 16) (hi := 16) (by omega) (by rw [kind]; rfl) (by omega) (fun t => ?_)
    simp only [State.hand, kind]
    exact congrArg _ (tabulate_byteAt hv)
  · exact handed (lo := 5) (hi := 5) (by omega) (by rw [kind]; rfl) (by omega) (fun t => by simp only [State.hand, kind]; rfl)
  · exact handed (lo := 2) (hi := 2) (by omega) (by rw [kind]; rfl) (by omega) (fun t => by simp only [State.hand, kind]; rfl)
  · exact handed (lo := 2) (hi := 2) (by omega) (by rw [kind]; rfl) (by omega) (fun t => by simp only [State.hand, kind]; rfl)
  · exact handed (lo := 2) (hi := 2) (by omega) (by rw [kind]; rfl) (by omega) (fun t => by simp only [State.hand, kind]; rfl)
  · exact handed (lo := 5) (hi := 5) (by omega) (by rw [kind]; rfl) (by omega) (fun t => by simp only [State.hand, kind]; rfl)
  · exact handed (lo := 1) (hi := 36) (by omega) (by rw [kind]; rfl) (by omega) (fun t => by simp only [State.hand, kind]; rfl)

end Sys2Proof.Machine
end

section
/-! The taking of requests (10.4) and the reading of a MGMT_REQUEST payload (11.5, 11.6; the statement O40). -/

namespace Sys2Proof.Machine

/-! ## Requests and queries read from a payload (R199, R208) -/

theorem bytesN_eq {α : Type} {n : Nat} {p : List Byte} (h : p.length = n) (r : List Byte → α) : bytesN n r p = some (r p) :=
  if_pos h

theorem items?_of_bad {p : List Byte}
    (h : p = [] ∨ 17 < (byteAt p 0).toNat ∨ p.length ≠ 1 + 2 * (byteAt p 0).toNat) : items? p = none := by
  unfold items?
  split
  · next n rest =>
    have count : byteAt (n :: rest) 0 = n := rfl
    rw [count, List.length_cons] at h
    refine if_neg ?_
    rintro ⟨few, length⟩
    rcases h with h | h | h
    · cases h
    · exact absurd few (Nat.not_le.mpr h)
    · omega
  · rfl

theorem readRequest_of_some {code : Byte} {p : List Byte} {r : Request} (h : request? code p = some r) :
    readRequest (code :: p) = r := by
  simp [readRequest, h]

theorem readRequest_of_none {code : Byte} {p : List Byte} (h : request? code p = none) :
    readRequest (code :: p) = .bad code := by
  simp [readRequest, h]

theorem request?_of_unknown {code : Byte} (h : code = 0 ∨ 29 < code.toNat) (p : List Byte) : request? code p = none := by
  have range : code.toNat = 0 ∨ 29 < code.toNat := h.imp_left fun zero => by rw [zero]; rfl
  unfold request?
  split
  case h_30 => rfl
  all_goals omega

theorem request?_of_length {code : Byte} {p : List Byte} {k n : Nat}
    (known : (k, n) ∈ [(1, 2), (2, 17), (3, 10), (4, 4), (5, 12), (6, 1), (7, 19), (8, 3), (9, 0), (10, 0), (11, 0),
      (12, 1), (13, 1), (14, 1), (15, 1), (16, 2), (17, 2), (18, 3), (19, 3), (20, 2), (21, 2), (24, 23), (25, 1), (26, 0),
      (27, 0), (29, 0)]) (code_eq : code.toNat = k) (length : p.length ≠ n) : request? code p = none := by
  simp only [List.mem_cons, List.not_mem_nil, or_false, Prod.mk.injEq] at known
  rcases known with known | known | known | known | known | known | known | known | known | known | known | known | known
    | known | known | known | known | known | known | known | known | known | known | known | known | known
  all_goals
    obtain ⟨rfl, rfl⟩ := known
    simp only [request?, code_eq, ne_eq] at length ⊢
    simp only [bytes0_none, bytes1_none, bytes2_none, bytes3_none, bytes4_none, bytesN_none, length, ne_eq,
      not_false_eq_true]

theorem request?_of_items {code : Byte} {p : List Byte} (h : code = 22 ∨ code = 23) (bad : items? p = none) :
    request? code p = none := by
  rcases h with rfl | rfl
  · exact congrArg (Option.map Request.eventAck) bad
  · exact congrArg (Option.map Request.eventMask) bad

theorem query?_of_bad {p : List Byte}
    (h : p = [] ∨ 9 < (byteAt p 0).toNat ∨ ∃ k n : Nat,
      (k, n) ∈ [(0, 2), (1, 3), (2, 2), (3, 2), (4, 2), (5, 3), (6, 5), (7, 1), (8, 1), (9, 1)] ∧ (byteAt p 0).toNat = k
        ∧ p.length ≠ n) : query? p = none := by
  unfold query?
  split
  · rfl
  · next form p =>
    have first : byteAt (form :: p) 0 = form := rfl
    rw [first] at h
    rcases h with h | h | ⟨k, n, known, form_eq, length⟩
    · cases h
    · split
      case h_11 => rfl
      all_goals omega
    · simp only [List.mem_cons, List.not_mem_nil, or_false, Prod.mk.injEq] at known
      rcases known with known | known | known | known | known | known | known | known | known | known
      all_goals
        obtain ⟨rfl, rfl⟩ := known
        simp only [form_eq, List.length_cons, ne_eq, Nat.reduceEqDiff] at length ⊢
        simp only [bytes0_none, bytes1_none, bytes2_none, bytes4_none, length, ne_eq, not_false_eq_true]

/-! ## A request that waits, or finds the queue full (R197) -/

theorem State.take_of_full {s : State} (full : 4 ≤ s.mge.queue.length) (f : Sender) (r : Request) :
    s.take f r = (s.comparePoint.respond ⟨f, r⟩ .busy []).deviceEvent .mgmtBusy {} := if_pos full

theorem State.take_of_waiting {s : State} (some : 1 ≤ s.mge.queue.length) (room : s.mge.queue.length < 4) (f : Sender)
    (r : Request) : s.take f r = s.setRequests (s.mge.queue ++ [⟨f, r⟩]) := by
  have notFull : ¬ Config.maxRequests ≤ s.mge.queue.length := Nat.not_le.mpr room
  have notEmpty : s.mge.queue ≠ [] := fun empty => by simp [empty] at some
  simp only [State.take, if_neg notFull, if_neg notEmpty]

/-- A MGMT_REQUEST does what the request does that its payload reads as. -/
theorem exec_mgmtRequest_of_read {f : Sender} {p : List Byte} {r : Request} (h : readRequest p = r) (s : State) :
    exec (.mgmtRequest f p) s = .next (s.request f r) := by
  rw [exec_mgmtRequest, h]

/-- Settles O40: what the queue does with a request, and the reading of each payload. -/
theorem requestTaken : Obligations.RequestTaken := by
  refine ⟨fun s f p ready settled => ⟨fun full => ?_, fun waiting room => ?_⟩, fun s f a b c d =>
    ⟨rfl, rfl, rfl, rfl, rfl, rfl, rfl, rfl, rfl, rfl, rfl, rfl, rfl, rfl, rfl, rfl, rfl, rfl, rfl, rfl, rfl, rfl, rfl, rfl,
      rfl, rfl, rfl, rfl, rfl, rfl, rfl, rfl, rfl, fun p => ?fields, fun items few p hp => ?items, fun p unknown => ?unknown,
      fun p k n known code length => ?length, fun p code bad => ?badItems, fun p bad => ?badQuery, fun quiet => ?refused⟩⟩
  · set u := (s.begin.respond ⟨f, readRequest p⟩ .busy []).deviceEvent .mgmtBusy {} with hu
    have taken : s.begin.take f (readRequest p) = u := by
      rw [State.take_of_full (s := s.begin) full, State.comparePoint_of_settled (s := s.begin) settled]
    have led : s.begin.leads u [.lif, .emu] :=
      State.leads_seq (s.begin.respond_leads _ _ _) (State.deviceEvent_leads _ _ _) (by simp) (by simp)
    have calm : u.calm := .inl ((State.deviceEvent_passDue _ _ _).trans (State.issue_passDue _ _))
    have still := State.settled_of_leads led settled
    refine ⟨_, congrArg Host.Outcome.next ((State.telegram_of_ready ready _).trans (congrArg State.finish taken)), ?_, ?_,
      State.finish_keeps_of_settled led calm still⟩
    · have sent := State.issue_issued (s := s.begin) (s.ready_iff.mp ready).2
        (.mgmtResponse f.node f.seq (requestCode (readRequest p)) .busy [])
      have first := (State.deviceEvent_leads (s.begin.respond ⟨f, readRequest p⟩ .busy []) .mgmtBusy {}).2.1
      exact head?_of_prefix ((sent ▸ first).trans u.finish_issued)
    · rw [State.deviceStatus_congr ((State.finish_keeps_of_calm_settled calm still).1.2 .emu (by simp))]
      exact State.deviceEvent_set _ .mgmtBusy _
  · exact congrArg Host.Outcome.next (State.telegram_eq ready (State.take_of_waiting (s := s.begin) waiting room f _)
      rfl rfl settled)
  case fields =>
    exact ⟨fun length => exec_mgmtRequest_of_read (readRequest_of_some (code := 2) (bytesN_eq length _)) s,
      fun length => exec_mgmtRequest_of_read (readRequest_of_some (code := 3) (bytesN_eq length _)) s,
      fun length => exec_mgmtRequest_of_read (readRequest_of_some (code := 5) (bytesN_eq length _)) s,
      fun length => exec_mgmtRequest_of_read (readRequest_of_some (code := 7) (bytesN_eq length _)) s,
      fun length => exec_mgmtRequest_of_read (readRequest_of_some (code := 24) (bytesN_eq length _)) s⟩
  case items =>
    have read := items?_counted items few
    have fit : itemsFit items = true := decide_eq_true few
    have ack : readRequest (22 :: p) = if itemsFit items then .eventAck items else .bad 22 := by
      rw [fit, hp]
      exact readRequest_of_some (code := 22) (congrArg (Option.map Request.eventAck) read)
    have mask : readRequest (23 :: p) = if itemsFit items then .eventMask items else .bad 23 := by
      rw [fit, hp]
      exact readRequest_of_some (code := 23) (congrArg (Option.map Request.eventMask) read)
    exact ⟨exec_mgmtRequest_of_read ack s, exec_mgmtRequest_of_read mask s⟩
  case unknown => exact exec_mgmtRequest_of_read (readRequest_of_none (request?_of_unknown unknown p)) s
  case length => exact exec_mgmtRequest_of_read (readRequest_of_none (request?_of_length known code length)) s
  case badItems => exact exec_mgmtRequest_of_read (readRequest_of_none (request?_of_items code (items?_of_bad bad))) s
  case badQuery =>
    exact exec_mgmtRequest_of_read (readRequest_of_none (code := 28)
      (congrArg (Option.map Request.query) (query?_of_bad bad))) s
  case refused => exact congrArg Host.Outcome.next (State.request_of_bare (r := .bad a) quiet rfl rfl)

end Sys2Proof.Machine
end

section
/-! What the forms of QUERY answer (the statement O41). -/

namespace Sys2Proof.Machine

/-! ## Numbers and flags as bytes (11.1) -/

theorem u16_extract {n : Nat} (h : n < 65536) :
    ∃ w : Half, w.toNat = n ∧ u16 n = [w.extractLsb' 8 8, w.extractLsb' 0 8] := by
  refine ⟨BitVec.ofNat 16 n, by simpa using h, ?_⟩
  simp only [u16, List.cons.injEq, and_true]
  refine ⟨BitVec.eq_of_toNat_eq ?_, BitVec.eq_of_toNat_eq ?_⟩
  · simp only [BitVec.toNat_ofNat, BitVec.extractLsb'_toNat, Nat.shiftRight_eq_div_pow]
    omega
  · simp only [BitVec.toNat_ofNat, BitVec.extractLsb'_toNat, Nat.shiftRight_eq_div_pow]
    omega

theorem u16_half (w : Half) : u16 w.toNat = [w.extractLsb' 8 8, w.extractLsb' 0 8] := by
  obtain ⟨v, hv, eq⟩ := u16_extract w.isLt
  rw [eq, BitVec.eq_of_toNat_eq hv]

theorem wordBytes_eq (w : Word) :
    wordBytes w = [w.extractLsb' 24 8, w.extractLsb' 16 8, w.extractLsb' 8 8, w.extractLsb' 0 8] := by
  simp only [wordBytes, u32, u16, List.cons_append, List.nil_append, List.cons.injEq, and_true]
  refine ⟨BitVec.eq_of_toNat_eq ?_, BitVec.eq_of_toNat_eq ?_, BitVec.eq_of_toNat_eq ?_, BitVec.eq_of_toNat_eq ?_⟩
  all_goals simp only [BitVec.toNat_ofNat, BitVec.extractLsb'_toNat, Nat.shiftRight_eq_div_pow]
  all_goals omega

/-- The number whose bits are those of a list, the lowest first. -/
def bitsNumber : List Bool → Nat
  | [] => 0
  | b :: l => bitNumber b 1 + 2 * bitsNumber l

theorem bitsNumber_testBit (l : List Bool) (k : Nat) : (bitsNumber l).testBit k = l.getD k false := by
  induction l generalizing k with
  | nil => simp [bitsNumber]
  | cons b l ih =>
    cases k with
    | zero => cases b <;> simp [bitsNumber, bitNumber, Nat.testBit_zero]
    | succ k =>
      have low : bitNumber b 1 ≤ 1 := by cases b <;> decide
      have half : (bitNumber b 1 + 2 * bitsNumber l) / 2 = bitsNumber l := by omega
      rw [bitsNumber]
      rw [Nat.testBit_succ, half, ih]
      rfl

theorem bitsNumber_lt (l : List Bool) : bitsNumber l < 2 ^ l.length := by
  induction l with
  | nil => simp [bitsNumber]
  | cons b l ih =>
    have low : bitNumber b 1 ≤ 1 := by cases b <;> decide
    rw [List.length_cons, Nat.pow_succ, bitsNumber]
    omega

/-- Eight flags as a byte, read back bit by bit. -/
theorem bitsNumber_byte {l : List Bool} (h : l.length = 8) :
    (List.range 8).map (fun n => (BitVec.ofNat 8 (bitsNumber l)).getLsbD n) = l := by
  refine List.ext_getElem (by simp [h]) fun n hn hl => ?_
  have small : n < 8 := by simpa using hn
  have bit : (BitVec.ofNat 8 (bitsNumber l)).getLsbD n = (bitsNumber l).testBit n := by
    rw [BitVec.getLsbD_ofNat, decide_eq_true small, Bool.true_and]
  rw [List.getElem_map, List.getElem_range, bit, bitsNumber_testBit, List.getD_eq_getElem _ _ hl]

/-- The reasons stand in the low byte, reason n in bit n, and BODY_LOST in the lowest bit of the high one. -/
theorem reasonBytes_bits (x : ReasonSet) (lost : Bool) :
    ∃ y : Byte, reasonBytes x lost = [if lost then 1 else 0, y] ∧ (List.range 8).map (fun n => y.getLsbD n)
      = [x.rejected, x.expired, x.robotFault, x.supplyHold, x.wearLimit, x.short, x.bypassed, x.noStyle] := by
  set l := [x.rejected, x.expired, x.robotFault, x.supplyHold, x.wearLimit, x.short, x.bypassed, x.noStyle] with hl
  have weight (b : Bool) (w : Nat) : bitNumber b w = w * bitNumber b 1 := by cases b <;> simp [bitNumber]
  have sum : bitNumber x.rejected 1 + bitNumber x.expired 2 + bitNumber x.robotFault 4 + bitNumber x.supplyHold 8
      + bitNumber x.wearLimit 16 + bitNumber x.short 32 + bitNumber x.bypassed 64 + bitNumber x.noStyle 128
      + bitNumber lost 256 = bitsNumber l + 256 * bitNumber lost 1 := by
    simp only [hl, bitsNumber]
    rw [weight x.expired 2, weight x.robotFault 4, weight x.supplyHold 8, weight x.wearLimit 16, weight x.short 32,
      weight x.bypassed 64, weight x.noStyle 128, weight lost 256]
    omega
  have bound := bitsNumber_lt l
  rw [show l.length = 8 from rfl] at bound
  refine ⟨BitVec.ofNat 8 (bitsNumber l), ?_, bitsNumber_byte rfl⟩
  have high : (bitsNumber l + 256 * bitNumber lost 1) / 256 = bitNumber lost 1 := by omega
  simp only [reasonBytes, sum, u16, high, List.cons.injEq, and_true]
  refine ⟨by cases lost <;> rfl, BitVec.eq_of_toNat_eq ?_⟩
  simp only [BitVec.toNat_ofNat]
  omega

/-! ## Codes (R205, R209) -/

theorem shiftKindCode_eq (x : ShiftKind) : shiftKindCode x = codeIn [.rl, .rc, .ll, .lc] x := by cases x <;> rfl
theorem policyCode_eq (x : Policy) : policyCode x = codeIn [.hold, .pass] x := by cases x <;> rfl
theorem edgeModeCode_eq (x : EdgeMode) : edgeModeCode x = codeIn [.none, .rising, .falling, .both] x := by
  cases x <;> rfl
theorem stationStateCode_eq (x : StationState) : stationStateCode x = codeIn [.disabled, .running, .held] x := by
  cases x <;> rfl
theorem bankCode_eq (x : BankId) : bankCode x = codeIn [.a, .b] x := by cases x <;> rfl
theorem kindCode_eq (x : EntryKind) : kindCode x = codeIn [.weld, .dress, .maint] x := by cases x <;> rfl
theorem entryStateCode_eq (x : EntryState) : entryStateCode x = codeIn [.queued, .offered, .selected, .welding] x := by
  cases x <;> rfl
theorem supplyStateCode_eq (x : SupplyState) : supplyStateCode x = codeIn [.none, .waiting, .holding] x := by
  cases x <;> rfl
theorem robotStateCode_eq (x : RobotState) : robotStateCode x = codeIn [.disabled, .idle, .busy, .faulted] x := by
  cases x <;> rfl
theorem positionOutcomeCode_eq (x : PositionOutcome) : positionOutcomeCode x
    = codeIn [.pending, .done, .short, .excess, .robotFault, .rejected, .expired, .wearLimit, .supplyHold, .aborted,
      .bypassed, .accepted] x := by cases x <;> rfl
theorem slotStateCode_eq {x : SlotState} (h : x ≠ .complete) :
    slotStateCode x = codeIn [.announced, .seating, .seated, .released] x + 1 := by
  cases x
  case complete => exact absurd rfl h
  all_goals rfl

/-! ## A QUERY handed to a quiet part (R200) -/

theorem State.request_query {s : State} (quiet : s.quiet = true) (f : Sender) (q : Query) :
    s.request f (.query q) = s.queryAnswered f q := by
  have same : (s.posed f (.query q)).answerQuery q = (s.setRequests [⟨f, .query q⟩]).answerQuery q := by cases q <;> rfl
  have answer := State.request_of_unchanged (f := f) (r := .query q) (result := ((s.posed f (.query q)).answerQuery q).1)
    (payload := ((s.posed f (.query q)).answerQuery q).2) quiet rfl rfl
  rw [same] at answer
  exact answer

/-! ## Selectors out of range (R200) -/

theorem bank?_of_le {b : Byte} (h : 2 ≤ b.toNat) : bank? b = none := by
  unfold bank?
  rw [if_neg (by bv_omega), if_neg (by bv_omega)]

theorem bank?_of_id {b : Byte} {id : BankId} (h : (b = 0 ∧ id = .a) ∨ (b = 1 ∧ id = .b)) : bank? b = some id := by
  rcases h with ⟨rfl, rfl⟩ | ⟨rfl, rfl⟩ <;> rfl

section
variable (s : State) {a b c d : Byte}

theorem State.answerQuery_slot_of_range (h : 16 ≤ a.toNat ∨ 2 ≤ b.toNat) : s.answerQuery (.slot a b) = (.range, []) := by
  have named : s.slotNamed? a b = none := by
    unfold State.slotNamed?
    rcases h with h | h
    · rw [below?_of_le h]; rfl
    · refine Option.bind_eq_none_iff.mpr fun st _ => ?_
      rw [if_neg (by bv_omega), if_neg (by bv_omega)]
  simp only [State.answerQuery, named, orRange]

theorem State.answerQuery_styleEntry_of_range (h : 2 ≤ a.toNat ∨ 128 ≤ b.toNat) :
    s.answerQuery (.styleEntry a b) = (.range, []) := by
  simp only [State.answerQuery]
  split
  · next id i hid hi =>
    rcases h with h | h
    · rw [bank?_of_le h] at hid; cases hid
    · rw [below?_of_le h] at hi; cases hi
  · rfl

theorem State.answerQuery_programRecord_of_range (h : 2 ≤ a.toNat ∨ 16 ≤ b.toNat ∨ 8 ≤ c.toNat ∨ 64 ≤ d.toNat) :
    s.answerQuery (.programRecord a b c d) = (.range, []) := by
  simp only [State.answerQuery]
  split
  · next id st p sy hid hst hp hsy =>
    rcases h with h | h | h | h
    · rw [bank?_of_le h] at hid; cases hid
    · rw [below?_of_le h] at hst; cases hst
    · rw [below?_of_le h] at hp; cases hp
    · rw [below?_of_le h] at hsy; cases hsy
  · rfl

theorem State.answerQuery_programRecord {id : BankId} {st : Fin 16} {p : Fin 8} {sy : Fin 64}
    (hid : (a = 0 ∧ id = .a) ∨ (a = 1 ∧ id = .b)) (hst : b.toNat = st) (hp : c.toNat = p) (hsy : d.toNat = sy) :
    s.answerQuery (.programRecord a b c d)
      = (((s.bank id).record? (programKey st p sy)).map fun x => (Result.ok, recordBytes x)).getD (.notFound, []) := by
  simp only [State.answerQuery, bank?_of_id hid, below?_of_eq hst, below?_of_eq hp, below?_of_eq hsy]
  split
  · next absent => rw [absent]; rfl
  · next x held => rw [held]; rfl

/-- Which selectors are refused, and what a free index, an absent record and the device form answer. -/
theorem State.answerQuery_refusals (a b c d : Byte) :
    (∀ i : Fin 128, a.toNat = i → s.entry? i = none → s.answerQuery (.entry a) = (.ok, [0, (s.place i).issue]))
    ∧ (128 ≤ a.toNat → s.answerQuery (.entry a) = (.range, []))
    ∧ (16 ≤ a.toNat → s.answerQuery (.station a) = (.range, []) ∧ s.answerQuery (.slot a b) = (.range, []))
    ∧ (64 ≤ a.toNat → s.answerQuery (.robot a) = (.range, []))
    ∧ ((a = 0 ∨ 8 < a.toNat) → s.answerQuery (.group a) = (.range, []))
    ∧ (2 ≤ b.toNat → s.answerQuery (.slot a b) = (.range, []))
    ∧ ((2 ≤ a.toNat ∨ 128 ≤ b.toNat) → s.answerQuery (.styleEntry a b) = (.range, []))
    ∧ ((2 ≤ a.toNat ∨ 16 ≤ b.toNat ∨ 8 ≤ c.toNat ∨ 64 ≤ d.toNat) →
        s.answerQuery (.programRecord a b c d) = (.range, []))
    ∧ (∀ (id : BankId) (st : Fin 16) (p : Fin 8) (sy : Fin 64), (a = 0 ∧ id = .a) ∨ (a = 1 ∧ id = .b) → b.toNat = st →
        c.toNat = p → d.toNat = sy → (s.bank id).record? (programKey st p sy) = none →
        s.answerQuery (.programRecord a b c d) = (.notFound, []))
    ∧ (s.lif.node?.isSome → s.mge.queue.length ≤ 4 → s.answerQuery .device
        = (.ok, [s.lif.nodeStraps, s.lif.typeValue.extractLsb' 8 8, s.lif.typeValue.extractLsb' 0 8, s.mge.lineNode,
            s.mge.reportNode, BitVec.ofNat 8 s.mge.queue.length, if s.mge.job = none then 0 else 1,
            if s.lif.p1.up then 1 else 0, if s.lif.p2.up then 1 else 0])) := by
  refine ⟨fun i hi free => ?_, fun h => ?_, fun h => ⟨?_, s.answerQuery_slot_of_range (.inl h)⟩, fun h => ?_, fun h => ?_,
    fun h => s.answerQuery_slot_of_range (.inr h), s.answerQuery_styleEntry_of_range,
    s.answerQuery_programRecord_of_range, fun id st p sy hid hst hp hsy absent => ?_, fun node _ => ?_⟩
  · simp only [State.answerQuery, below?_of_eq hi, orRange, State.queryEntry, free]
    rfl
  · simp only [State.answerQuery, below?_of_le h, orRange]
  · simp only [State.answerQuery, below?_of_le h, orRange]
  · simp only [State.answerQuery, below?_of_le h, orRange]
  · simp only [State.answerQuery, groupNamed?_of_range h, orRange]
  · rw [s.answerQuery_programRecord hid hst hp hsy, absent]
    rfl
  · have job : flagByte s.mge.job.isSome = [if s.mge.job = none then 0 else 1] := by cases s.mge.job <;> rfl
    simp only [State.answerQuery, State.queryDevice, Lif.node?_of_isSome node, Option.getD_some, u16_half, job]
    rfl

end

/-! ## The layouts of the records (R209) -/

theorem slotBytes_of_some {c : Slot} (h : c.state ≠ .complete) :
    slotHead (some c) = (codeIn [.announced, .seating, .seated, .released] c.state + 1) :: wordBytes c.body
    ∧ querySlotBytes (some c)
      = [codeIn [.announced, .seating, .seated, .released] c.state + 1] ++ wordBytes c.body ++ wordBytes c.build
        ++ (styleByte c.style ++ [codeIn [.a, .b] c.stamp])
        ++ reasonBytes c.reasons false ++ [if c.abortMark then 1 else 0] ++ c.positions.toList.flatMap positionBytes := by
  constructor
  · rw [slotHead, slotStateCode_eq h]
    rfl
  · simp only [querySlotBytes, slotStateCode_eq h, bankCode_eq, flagByte, List.append_assoc]

theorem positionBytes_of_some (y : Position) : positionBytes (some y)
    = [y.program] ++ u16 y.expected
      ++ [codeIn [.pending, .done, .short, .excess, .robotFault, .rejected, .expired, .wearLimit, .supplyHold,
          .aborted, .bypassed, .accepted] y.outcome]
      ++ optional u16 (u16 0) y.reported ++ u16 y.shortfall := by
  simp only [positionBytes, positionOutcomeCode_eq]

section
variable (s : State)

theorem State.queryEntry_of_some {i : Fin 128} {e : Entry} (h : s.entry? i = some e) : s.queryEntry i
    = [1, BitVec.ofNat 8 i, (s.place i).issue, codeIn [.weld, .dress, .maint] e.kind, BitVec.ofNat 8 e.robot,
        BitVec.ofNat 8 e.station] ++ wordBytes e.body ++ [BitVec.ofNat 8 e.position, e.program] ++ u16 e.expected
      ++ [codeIn [.queued, .offered, .selected, .welding] e.state, if e.reoffered then 1 else 0,
          if e.selectTimer.isSome then 1 else 0, codeIn [.none, .waiting, .holding] e.supply] := by
  simp [State.queryEntry, h, kindCode_eq, entryStateCode_eq, supplyStateCode_eq, flagByte, u8, tagBytes, State.tag]

theorem State.queryRobot_eq (r : Fin 64) : s.queryRobot r
    = [if (s.robot r).configured then 1 else 0, (s.robot r).node, BitVec.ofNat 8 (s.robot r).station,
        BitVec.ofNat 8 (s.robot r).position, BitVec.ofNat 8 (s.robot r).group, (s.robot r).dress]
      ++ u16 (s.robot r).interval ++ u16 (s.robot r).limit
      ++ [codeIn [.disabled, .idle, .busy, .faulted] (s.robot r).state] ++ u16 (s.robot r).wear
      ++ maintBytes (s.robot r).maint
      ++ BitVec.ofNat 8 (s.list r).length :: (s.list r).map (fun (i : Fin 128) => BitVec.ofNat 8 i.val) := by
  simp [State.queryRobot, robotStateCode_eq, flagByte, u8, listBytes, List.map_eq_flatMap]

theorem State.queryStation_eq (st : Fin 16) : s.queryStation st
    = [codeIn [.rl, .rc, .ll, .lc] (s.station st).config.shiftKind, BitVec.ofNat 8 (s.station st).config.shiftCount]
      ++ wordBytes (s.station st).config.mask ++ u16 (s.station st).config.seatDelay
      ++ u16 (s.station st).config.cycleLimit ++ u16 (s.station st).config.selectTimeout
      ++ [codeIn [.hold, .pass] (s.station st).config.noStyle, codeIn [.hold, .pass] (s.station st).config.short,
          codeIn [.none, .rising, .falling, .both] (s.station st).config.seatEdge,
          codeIn [.none, .rising, .falling, .both] (s.station st).config.departureEdge,
          codeIn [.disabled, .running, .held] (s.station st).state]
      ++ reasonBytes (((s.station st).current.map (·.reasons)).getD {}) (s.station st).bodyLost
      ++ [if (s.station st).seatTimer.isSome then 1 else 0, if (s.station st).cycleTimer.isSome then 1 else 0,
          if (s.panel st).manual then 1 else 0]
      ++ slotHead (s.station st).current ++ slotHead (s.station st).next
      ++ [if (s.panel st).present then 1 else 0, if (s.panel st).clamped then 1 else 0,
          if (s.panel st).manual then 1 else 0]
      ++ (List.finRange 4).flatMap (fun n =>
          [if s.computedBit st n then 1 else 0, if (s.panel st).bits[n].forced then 1 else 0,
            if (s.panel st).bits[n].value then 1 else 0, if (s.panel st).bits[n].protect then 1 else 0,
            if s.effectiveBit st n then 1 else 0])
      ++ [s.piu.reported[st]] := by
  have bits : s.bitBytes st = fun n => [if s.computedBit st n then 1 else 0,
      if (s.panel st).bits[n].forced then 1 else 0, if (s.panel st).bits[n].value then 1 else 0,
      if (s.panel st).bits[n].protect then 1 else 0, if s.effectiveBit st n then 1 else 0] := rfl
  simp [State.queryStation, configBytes, bits, shiftKindCode_eq, policyCode_eq, edgeModeCode_eq, stationStateCode_eq,
    flagByte, u8]

/-! ## Groups (R116, R117, R132) -/

theorem groupPlace?_eq_some {x : Fin 9} {g : Fin 8} : groupPlace? x = some g ↔ (x : Nat) = g + 1 := by
  unfold groupPlace?
  split
  · simp only [Option.some.injEq, Fin.ext_iff]; omega
  · simp only [reduceCtorEq, false_iff]; omega

theorem State.members_eq (g : Fin 8) :
    s.members g = (List.finRange 64).filter (fun r => (s.robot r).configured && (s.robot r).group.val == g.val + 1) := by
  refine List.filter_congr fun r _ => congrArg _ ?_
  rw [Bool.eq_iff_iff, beq_iff_eq, beq_iff_eq, groupPlace?_eq_some]

/-- Entries in use, put in the order of their robots, are the same entries. -/
theorem State.mem_byRobot {l : List (Fin 128)} (used : ∀ i ∈ l, s.entry? i ≠ none) {i : Fin 128} :
    i ∈ s.byRobot l ↔ i ∈ l := by
  simp only [State.byRobot, List.mem_flatMap, List.mem_filter, Option.any_eq_true, decide_eq_true_eq]
  constructor
  · rintro ⟨_, _, h, _⟩
    exact h
  · intro h
    obtain ⟨e, he⟩ := Option.ne_none_iff_exists'.mp (used i h)
    exact ⟨e.robot, List.mem_finRange _, h, e, he, rfl⟩

theorem State.byRobot_pairwise (l : List (Fin 128)) :
    (s.byRobot l).Pairwise (fun i j => s.robotNumber i ≤ s.robotNumber j) := by
  have number {i : Fin 128} {r : Fin 64} (h : (s.entry? i).any (·.robot = r) = true) : s.robotNumber i = r := by
    obtain ⟨e, he, hr⟩ := Option.any_eq_true _ _ |>.mp h
    simp only [State.robotNumber, he, Option.map_some, Option.getD_some]
    rw [of_decide_eq_true hr]
  rw [State.byRobot, List.pairwise_flatMap]
  refine ⟨fun r _ => ?_, ?_⟩
  · refine List.Pairwise.imp_of_mem (R := fun _ _ => True) (fun {i j} hi hj _ => ?_) (List.pairwise_of_forall fun _ _ => trivial)
    rw [number (List.mem_filter.mp hi).2, number (List.mem_filter.mp hj).2]
  · refine (List.pairwise_lt_finRange 64).imp fun below i hi j hj => ?_
    rw [number (List.mem_filter.mp hi).2, number (List.mem_filter.mp hj).2]
    exact le_of_lt below

theorem State.queryGroup_eq (g : Fin 8) : s.queryGroup g
    = [BitVec.ofNat 8 (s.group g).capacity] ++ u16 (s.group g).holdLimit
      ++ (BitVec.ofNat 8 ((s.group g).capacity - (s.holders g).length) :: filterByte (s.group g).pointer)
      ++ BitVec.ofNat 8 (s.members g).length :: (s.members g).map (fun (r : Fin 64) => BitVec.ofNat 8 r.val)
      ++ BitVec.ofNat 8 (s.byRobot (s.holders g)).length :: (s.byRobot (s.holders g)).flatMap (fun i =>
          [BitVec.ofNat 8 (s.robotNumber i), BitVec.ofNat 8 i.val])
      ++ BitVec.ofNat 8 (s.byRobot (s.waiters g)).length :: (s.byRobot (s.waiters g)).flatMap (fun i =>
          [BitVec.ofNat 8 (s.robotNumber i), BitVec.ofNat 8 i.val]) := by
  have standing : s.standingBytes = fun i => [BitVec.ofNat 8 (s.robotNumber i), BitVec.ofNat 8 i.val] := rfl
  simp [State.queryGroup, State.freeCredits, listBytes, u8, List.map_eq_flatMap, standing]

/-- The holders and the waiters of a group are in use, so that their order by robots loses none. -/
theorem State.answerQuery_group {a : Byte} {g : Fin 8} (ha : a.toNat = g + 1) :
    (∀ i, i ∈ s.byRobot (s.holders g) ↔ i ∈ s.holders g) ∧ (∀ i, i ∈ s.byRobot (s.waiters g) ↔ i ∈ s.waiters g)
    ∧ (s.byRobot (s.holders g)).Pairwise (fun i j => s.robotNumber i ≤ s.robotNumber j)
    ∧ (s.byRobot (s.waiters g)).Pairwise (fun i j => s.robotNumber i ≤ s.robotNumber j)
    ∧ s.answerQuery (.group a) = (.ok, s.queryGroup g) := by
  refine ⟨fun _ => s.mem_byRobot fun i hi => ?_, fun _ => s.mem_byRobot fun i hi => ?_, s.byRobot_pairwise _,
    s.byRobot_pairwise _, ?_⟩
  · obtain ⟨e, he, _⟩ := State.mem_holders.mp hi
    simp [he]
  · obtain ⟨e, he, _⟩ := State.mem_waiters.mp hi
    simp [he]
  · simp only [State.answerQuery, groupNamed?_of_eq ha, orRange]

/-! ## Banks and the queue (R43, R62) -/

theorem stylePlaceBytes_eq (x : StylePlace) : stylePlaceBytes x = [if x.valid then 1 else 0] ++ wordBytes x.value
    ++ wordBytes x.care ++ [BitVec.ofNat 8 x.style, x.stations.extractLsb' 8 8, x.stations.extractLsb' 0 8] := by
  simp [stylePlaceBytes, flagByte, u8, u16_half]

theorem recordBytes_eq (x : ProgramRecord) : recordBytes x = [x.program] ++ u16 x.expected
    ++ optional (fun o => [codeIn [.rl, .rc, .ll, .lc] o.kind, BitVec.ofNat 8 o.count, o.mask]) [0, 0, 0] x.overlay
    ++ BitVec.ofNat 8 x.adders.length :: x.adders.flatMap (fun y => [BitVec.ofNat 8 y.bit, BitVec.ofInt 8 y.delta]) := by
  simp [recordBytes, listBytes, u8, shiftKindCode_eq]

theorem State.bankBytes_eq (id : BankId) : s.bankBytes id
    = [if s.tbs.active = id then 0 else if s.tbs.draining then 2 else 1,
        BitVec.ofNat 8 ((s.bank id).styles.toList.countP (·.valid))] ++ u16 (s.bank id).programs.length
      ++ [BitVec.ofNat 8 (s.bank id).stamps] := by
  have role : roleCode (s.tbs.role id) = if s.tbs.active = id then 0 else if s.tbs.draining then 2 else 1 := by
    rw [Tbs.role]
    split
    · rfl
    · split <;> rfl
  rw [State.bankBytes, role]
  rfl

theorem arrivalBytes_eq : arrivalBytes = fun x => [BitVec.ofNat 8 x.station] ++ wordBytes x.body ++ wordBytes x.build
    ++ [codeIn [.a, .b] x.stamp, BitVec.ofNat 8 x.skips, if x.starved then 1 else 0] := by
  funext x
  simp [arrivalBytes, bankCode_eq, flagByte, u8]

end

/-- Settles O41, the forms by the reading of one QUERY, the answers by the layouts of the records. -/
theorem queriesAnswered : Obligations.QueriesAnswered := by
  unfold Obligations.QueriesAnswered
  refine ⟨fun s f a b c d quiet => ?_, fun s a b c d => s.answerQuery_refusals a b c d, ?_, fun s a b c d => ?_⟩
  · have answers (q : Query) : (.next (s.request f (.query q)) : Host.Outcome State Fault Refusal)
        = .next (s.queryAnswered f q) := congrArg _ (State.request_query quiet f q)
    exact ⟨answers _, answers _, answers _, answers _, answers _, answers _, answers _, answers _, answers _, answers _⟩
  · refine ⟨fun n => u16_extract, wordBytes_eq, reasonBytes_bits, ⟨rfl, rfl, rfl, rfl⟩, fun c hc => ?_, fun y => ?_,
      fun o n p count known => ?_⟩
    · have bytes := slotBytes_of_some hc
      cases hs : c.style with
      | none => rw [hs] at bytes; exact bytes
      | some sy => rw [hs] at bytes; exact bytes
    · have bytes := positionBytes_of_some y
      cases hr : y.reported with
      | none => rw [hr] at bytes; exact bytes
      | some n => rw [hr] at bytes; exact bytes
    · have code : maintOutcomeCode o = n := by
        simp only [List.mem_cons, Prod.mk.injEq, List.not_mem_nil, or_false] at known
        rcases known with ⟨rfl, rfl⟩ | ⟨rfl, rfl⟩ | ⟨rfl, rfl⟩ | ⟨rfl, rfl⟩ | ⟨rfl, rfl⟩ | ⟨rfl, rfl⟩ | ⟨rfl, rfl⟩
          | ⟨rfl, rfl⟩ | ⟨rfl, rfl⟩ | ⟨rfl, rfl⟩ <;> rfl
      rw [maintBytes, code]
      cases count <;> rfl
  · refine ⟨?_, fun i hi e he => ?_, ?_, ?_, fun id hid => ⟨?_, ?_⟩, ?_, ?_⟩
    · rintro st hst x rfl p rfl
      refine ⟨?_, ?_, ?_⟩
      · simp only [State.answerQuery, below?_of_eq hst, orRange, s.queryStation_eq]
        cases (s.station st).current <;> rfl
      · simp only [State.answerQuery, State.slotNamed?, below?_of_eq hst]
        rfl
      · simp only [State.answerQuery, State.slotNamed?, below?_of_eq hst]
        rfl
    · simp only [State.answerQuery, below?_of_eq hi, orRange, s.queryEntry_of_some he]
    · rintro r hr x rfl
      simp only [State.answerQuery, below?_of_eq hr, orRange, s.queryRobot_eq]
    · rintro g hg x rfl members holders waiters rfl rfl rfl
      obtain ⟨mh, mw, ph, pw, answer⟩ := s.answerQuery_group hg
      refine ⟨mh, mw, ph, pw, answer.trans ?_⟩
      rw [← s.members_eq, s.queryGroup_eq]
      cases (s.group g).pointer <;> rfl
    · rintro i hi x rfl
      simp only [State.answerQuery, bank?_of_id hid, below?_of_eq hi, stylePlaceBytes_eq]
    · intro st p sy hst hp hsy x held
      rw [s.answerQuery_programRecord hid hst hp hsy, held, Option.map_some, Option.getD_some, recordBytes_eq]
      cases x.overlay <;> rfl
    · simp [State.answerQuery, s.bankBytes_eq]
    · simp only [State.answerQuery, listBytes, arrivalBytes_eq]
      rfl

end Sys2Proof.Machine
end

section
/-! Enabling a station (the statement O25). -/

namespace Sys2Proof.Machine

/-- What STATION_ENABLE leaves of a DISABLED station: its configuration, and the records of a station just enabled. -/
def Station.opened (x : Station) : Station := ⟨x.config, true, false, none, none, none, none⟩

theorem State.stationEnable_of_fields {b : Byte} {st : Fin 16} (h : b.toNat = st) (u : State) :
    u.stationEnable b = if (u.station st).enabled then (u, .state)
      else ((u.setStation st (u.station st).opened).callPass, .ok) := by
  simp only [State.stationEnable, below?_of_eq h]
  rfl

/-- Settles O25, by the one record that an accepted STATION_ENABLE writes and the comparison of images ahead of its
answer. -/
theorem stationEnabled : Obligations.StationEnabled := by
  intro s f b quiet
  obtain ⟨⟨_, node⟩, empty, settled⟩ := s.quiet_iff.mp quiet
  refine ⟨fun st hst => ⟨fun disabled queue => ?_, fun enabled => ?_⟩, fun range => ?_⟩
  · have ran := State.stationEnable_of_fields hst (s.posed f (.stationEnable b))
    have off : ¬ ((s.posed f (.stationEnable b)).station st).enabled = true := by
      rw [Bool.not_eq_true]
      exact (Station.state_eq_disabled _).mp disabled
    rw [if_neg off] at ran
    set u := ((s.posed f (.stationEnable b)).setStation st
      ((s.posed f (.stationEnable b)).station st).opened).callPass with hu
    have led : (s.posed f (.stationEnable b)).leads u [.stc] := by
      have k := (s.posed f (.stationEnable b)).stationEnable_leads b
      rwa [ran] at k
    have done := State.request_completed (r := .stationEnable b) quiet rfl (congrArg bare ran) led
      (State.calm_of_queue led queue)
    have station (q : Fin 16) : (s.request f (.stationEnable b)).station q
        = if st = q then (s.station st).opened else s.station q :=
      (State.station_congr (done.keeps.2 .stc (by simp)) q).trans (State.station_setStation _ _ _ _)
    have issued := done.issued
    rw [State.comparePoint_issued (by rw [State.leads_node led]; exact node), ← done.image] at issued
    have reported : u.piu.reported = s.image := (decide_eq_true_eq.mp settled)
    have line : u.lineInUse = s.mge.lineNode := rfl
    have sent : u.issued = [] := rfl
    rw [reported, line, sent, List.nil_append] at issued
    refine ⟨_, rfl, (station st).trans (if_pos rfl), ?_, fun q other => (station q).trans (if_neg other.symm),
      done.reported, ?_, issued, done.keeps_of_leads empty led⟩
    · rw [station st, if_pos rfl]
      rfl
    · rw [done.piu]
      rfl
  · have ran := State.stationEnable_of_fields hst (s.posed f (.stationEnable b))
    exact congrArg Host.Outcome.next (State.request_of_bare (r := .stationEnable b) quiet rfl
      (congrArg bare (ran.trans (if_pos ((Station.enabled_iff _).mpr enabled)))))
  · have ran (u : State) : u.stationEnable b = (u, .range) := by
      simp only [State.stationEnable, below?_of_le range]
    exact congrArg Host.Outcome.next (State.request_of_bare (r := .stationEnable b) quiet rfl (congrArg bare (ran _)))

end Sys2Proof.Machine
end

section
/-! A tick at which nothing is due (the statement O39). -/

namespace Sys2Proof.Machine

/-! ## The levels that are sampled (9.3) -/

/-- A level is read from the stations, the tracker, the robots and the queue of arrivals alone. -/
theorem State.level_congr {s t : State} (stc : t.stc = s.stc) (dtr : t.dtr = s.dtr) (rbc : t.rbc = s.rbc)
    (arq : t.arq = s.arq) (c : CounterConfig) : t.level c = s.level c := by
  have attributes : t.entryAttributes = s.entryAttributes := by
    funext e
    simp only [State.entryAttributes, State.entryStyle, State.station_congr stc]
  have items : t.levelItems c.event = s.levelItems c.event := by
    cases c.event <;> simp only [State.levelItems, attributes, dtr, arq, State.robot_congr rbc]
  rw [State.level, State.level, items]

theorem State.level_of_leads {s t : State} {l : List Block} (h : s.leads t l) (c : CounterConfig)
    (stc : .stc ∉ l := by simp) (dtr : .dtr ∉ l := by simp) (rbc : .rbc ∉ l := by simp) (arq : .arq ∉ l := by simp) :
    t.level c = s.level c :=
  State.level_congr (h.1.2 .stc stc) (h.1.2 .dtr dtr) (h.1.2 .rbc rbc) (h.1.2 .arq arq) c

/-- The running of the timers shows in no level. -/
theorem State.runTimers_level (s : State) (c : CounterConfig) : s.runTimers.level c = s.level c := by
  have style (st : Fin 16) (w : Word) : (s.runTimers.station st).bodyStyle w = (s.station st).bodyStyle w := by
    rw [State.runTimers_station]
    rfl
  have attributes (e : Entry) : s.runTimers.entryAttributes e.tick = s.entryAttributes e := by
    change Attributes.mk _ _ (if e.kind = .maint then none else _) = _
    rw [style]
    rfl
  have entries : s.runTimers.dtr.tracker.toList.filterMap (·.entry)
      = (s.dtr.tracker.toList.filterMap (·.entry)).map Entry.tick := by
    simp only [State.runTimers, mapAll, Vector.toList_mk, List.filterMap_map, List.map_filterMap]
    rfl
  have items : s.runTimers.levelItems c.event = s.levelItems c.event := by
    cases c.event
    case trackerInUse =>
      simp only [State.levelItems, entries, List.map_map]
      exact List.map_congr_left fun e _ => attributes e
    case supplyWaiters =>
      simp only [State.levelItems, entries, List.filter_map, List.map_map]
      exact List.map_congr_left fun e _ => attributes e
    all_goals rfl
  rw [State.level, State.level, items]

/-! ## The sample of one counter (R185) -/

theorem State.increase_passDue (s : State) (k : Fin 8) (d : Nat) : (s.increase k d).passDue = s.passDue := by
  cases fires : (s.counter k).config.fires (s.counter k).value ((s.counter k).value + BitVec.ofNat 48 d) with
  | true =>
    rw [State.increase_of_fires fires, State.deviceEvent_passDue]
    rfl
  | false =>
    rw [State.increase_of_not_fires fires]
    rfl

theorem State.sample_passDue (s : State) : s.sample.passDue = s.passDue := by
  refine foldl_keep (P := fun t => t.passDue = s.passDue) (fun k t h => Eq.trans ?_ h) _ rfl
  unfold State.sampleCounter
  dsimp only
  split
  · split <;> split <;> simp [State.increase_passDue]
  · rfl

/-- A counter after the sample of a level, where the freeze does not hold it. -/
def Counter.after (x : Counter) (level : Nat) : Counter :=
  { x with
    value := x.value + BitVec.ofNat 48 (x.sampled level)
    last := if x.config.mode = .edge then x.config.condition level else x.last }

theorem State.increase_counter_other (s : State) {j k : Fin 8} (d : Nat) (h : j ≠ k) :
    (s.increase j d).counter k = s.counter k := by
  cases fires : (s.counter j).config.fires (s.counter j).value ((s.counter j).value + BitVec.ofNat 48 d) with
  | true =>
    rw [State.increase_of_fires fires, State.deviceEvent_counter]
    exact (State.counter_setCounter _ _ _ _).trans (if_neg h)
  | false =>
    rw [State.increase_of_not_fires fires]
    exact (State.counter_setCounter _ _ _ _).trans (if_neg h)

theorem State.sampleCounter_other (s : State) {j k : Fin 8} (h : j ≠ k) : (s.sampleCounter j).counter k = s.counter k := by
  unfold State.sampleCounter
  dsimp only
  split
  · have added : (if s.counterHeld j then s
        else s.increase j ((s.counter j).sampled (s.level (s.counter j).config))).counter k = s.counter k := by
      split
      · rfl
      · exact s.increase_counter_other _ h
    split
    · rw [State.counter_setCounter, if_neg h, added]
    · exact added
  · rfl

theorem State.sampleCounter_self {s : State} {k : Fin 8} (level : (s.counter k).config.event.isLevel = true)
    (free : (s.counter k).config.freezeEnable = false) :
    (s.sampleCounter k).counter k = (s.counter k).after (s.level (s.counter k).config) := by
  have held : s.counterHeld k = false := by rw [State.counterHeld, free, Bool.and_false]
  unfold State.sampleCounter
  simp only [level, held, Bool.false_eq_true, if_false, true_and]
  cases mode : (s.counter k).config.mode with
  | count => simp [Counter.after, Counter.sampled, mode]
  | level => simp [State.increase_counter_self, Counter.after, mode]
  | threshold => simp [State.increase_counter_self, Counter.after, mode]
  | edge => simp [State.increase_counter_self, Counter.after, mode]

/-- The sample of a list of counters takes each of them once, at the levels that stood before it. -/
theorem State.sampled_counter {k : Fin 8} : ∀ (l : List (Fin 8)) (s : State), l.Nodup →
    (s.counter k).config.event.isLevel = true → (s.counter k).config.freezeEnable = false →
    (l.foldl State.sampleCounter s).counter k
      = if k ∈ l then (s.counter k).after (s.level (s.counter k).config) else s.counter k
  | [], _, _, _, _ => rfl
  | j :: l, s, nodup, level, free => by
    obtain ⟨fresh, nodup⟩ := List.nodup_cons.mp nodup
    rw [List.foldl_cons]
    by_cases here : j = k
    · subst here
      have self := State.sampleCounter_self level free
      rw [State.sampled_counter l _ nodup (by rw [self]; exact level) (by rw [self]; exact free), if_neg fresh, self,
        if_pos List.mem_cons_self]
    · have other := s.sampleCounter_other here
      rw [State.sampled_counter l _ nodup (by rw [other]; exact level) (by rw [other]; exact free), other,
        State.level_of_leads (s.sampleCounter_leads j)]
      simp only [List.mem_cons, Ne.symm here, false_or]

theorem State.sample_counter {s : State} {k : Fin 8} (level : (s.counter k).config.event.isLevel = true)
    (free : (s.counter k).config.freezeEnable = false) :
    s.sample.counter k = (s.counter k).after (s.level (s.counter k).config) :=
  (State.sampled_counter _ s (List.nodup_finRange 8) level free).trans (if_pos (List.mem_finRange k))

/-! ## Nothing due (R185) -/

theorem State.nothingDue_iff (s : State) : s.nothingDue = true ↔
    (∀ st, (s.station st).seatTimer ≠ some 0 ∧ (s.station st).cycleTimer ≠ some 0)
    ∧ (∀ i e, s.entry? i = some e → e.selectTimer ≠ some 0 ∧ e.holdTimer ≠ some 0)
    ∧ ∀ j, s.mge.job = some j → j.ticks ≠ 0 := by
  have stations : s.stc.stations.toList.all (fun x => x.seatTimer != some 0 && x.cycleTimer != some 0) = true
      ↔ ∀ st : Fin 16, (s.station st).seatTimer ≠ some 0 ∧ (s.station st).cycleTimer ≠ some 0 := by
    rw [List.all_eq_true]
    simp only [Vector.mem_toList_iff, Vector.mem_iff_getElem, bne_iff_ne, Bool.and_eq_true, State.station, Fin.forall_iff]
    exact ⟨fun h i hi => h _ ⟨i, hi, rfl⟩, fun h _ ⟨i, hi, e⟩ => e ▸ h i hi⟩
  have entries : s.dtr.tracker.toList.all
      (fun p => p.entry.all (fun e => e.selectTimer != some 0 && e.holdTimer != some 0)) = true
      ↔ ∀ (i : Fin 128) e, s.entry? i = some e → e.selectTimer ≠ some 0 ∧ e.holdTimer ≠ some 0 := by
    rw [List.all_eq_true]
    simp only [Vector.mem_toList_iff, Vector.mem_iff_getElem, bne_iff_ne, Bool.and_eq_true, State.entry?, State.place,
      Fin.forall_iff, Option.all_eq_true]
    exact ⟨fun h i hi => h _ ⟨i, hi, rfl⟩, fun h _ ⟨i, hi, e⟩ => e ▸ h i hi⟩
  have job : s.mge.job.all (fun j => j.ticks != 0) = true ↔ ∀ j, s.mge.job = some j → j.ticks ≠ 0 := by
    simp [Option.all_eq_true]
  rw [State.nothingDue, Bool.and_eq_true, Bool.and_eq_true, stations, entries, job, and_assoc]

/-- Where nothing is due no expiry does anything. -/
theorem State.takeDue_of_nothingDue {s : State} (due : s.nothingDue = true) (still : s.finish = s) : s.takeDue = s := by
  obtain ⟨stations, entries, job⟩ := s.nothingDue_iff.mp due
  have seat (st : Fin 16) : s.seatExpiry st = s := if_neg (stations st).1
  have cycle (st : Fin 16) : s.cycleExpiry st = s := if_neg (stations st).2
  have select (i : Fin 128) : s.selectExpiry i = s := by
    unfold State.selectExpiry
    split
    · rfl
    · next e he => exact if_neg fun h => (entries i e he).1 h.1
  have hold (i : Fin 128) : s.holdExpiry i = s := by
    unfold State.holdExpiry
    split
    · rfl
    · next e he => exact if_neg fun h => (entries i e he).2 h.1
  have ended (clear : Bool) : s.tableEnd clear = s := if_neg fun h => job _ h rfl
  have first : forAll allStations (fun st s => ((s.seatExpiry st).finish.cycleExpiry st).finish) s = s :=
    forAll_eq_self _ fun st _ => by simp only [seat, still, cycle]
  have second : forAll allIndices (fun i s => ((s.selectExpiry i).finish.holdExpiry i).finish) s = s :=
    forAll_eq_self _ fun i _ => by simp only [select, still, hold]
  simp only [State.takeDue, first, second, ended, still]

/-- The running of the timers does not show in the image. -/
theorem State.runTimers_image (s : State) : s.runTimers.image = s.image := by
  refine State.image_of_shown (fun q => ?_) (fun q => ?_) (fun q => State.dressing_congr fun i => ?_) (fun _ => rfl)
  · rw [State.runTimers_station]
    rfl
  · rw [State.runTimers_station]
    rfl
  · rw [State.runTimers_entry, Option.any_map]
    rfl

/-- Settles O39: nothing expires, every timer runs down by one, and the counters sample the levels as they stood. -/
theorem tick : Obligations.Tick := by
  intro s ready settled due
  have begun : s.begin.finish = s.begin := State.finish_of_settled rfl settled rfl
  have taken : s.begin.tick = s.begin.runTimers.sample :=
    congrArg (fun x : State => x.runTimers.sample) (State.takeDue_of_nothingDue due begun)
  set u := s.begin.runTimers.sample with hu
  have sampled := s.begin.runTimers.sample_leads
  have led : s.begin.leads u [.stc, .dtr, .mge, .emu, .lif] :=
    State.leads_seq (s.begin.runTimers_leads) sampled (by simp) (by simp)
  have still : u.settled = true := State.settled_of_leads sampled
    (State.settled_of_image (s := s.begin) (t := s.begin.runTimers) settled s.begin.runTimers_image rfl)
  have calm : u.calm := .inl (s.begin.runTimers.sample_passDue.trans rfl)
  have ended := (State.finish_keeps_of_calm_settled calm still).1
  have ran : s.event State.tick = u.finish := (State.event_of_ready ready _).trans (congrArg State.finish taken)
  refine ⟨u.finish, congrArg Host.Outcome.next ran, fun st => ?_, fun i => ?_, ?_, ?_,
    State.finish_keeps_of_settled led calm still, ?_⟩
  · rw [State.station_congr (ended.2 .stc (by simp)), State.station_congr (sampled.1.2 .stc (by simp)),
      State.runTimers_station]
    rfl
  · rw [State.place_congr (ended.2 .dtr (by simp)), State.place_congr (sampled.1.2 .dtr (by simp))]
    exact getElem_mapAll _ _ _ _
  · exact (ended.2 .mge (by simp)).trans (sampled.1.2 .mge (by simp))
  · have dtr : u.finish.dtr = s.begin.runTimers.dtr := (ended.2 .dtr (by simp)).trans (sampled.1.2 .dtr (by simp))
    have lists : s.begin.runTimers.dtr.lists = s.dtr.lists := rfl
    rw [dtr, lists]
  · rintro k x rfl level free
    have emu : u.finish.emu = u.emu := ended.2 .emu (by simp)
    have counted : u.finish.counter k = (s.counter k).after (s.level (s.counter k).config) := by
      rw [State.counter_congr emu]
      refine (State.sample_counter (s := s.begin.runTimers) level free).trans ?_
      rw [State.runTimers_level]
      rfl
    rw [counted]
    refine ⟨fun mode => ?_, fun mode => ?_, fun mode => ⟨?_, ?_⟩⟩
    all_goals simp [Counter.after, Counter.sampled, mode, apply_ite (BitVec.ofNat 48)]

end Sys2Proof.Machine
end

section
/-! The reset of the device (the statement O42). -/

namespace Sys2Proof.Machine

/-! ## The cancels of DEVICE_RESET (R201, step 1) -/

theorem State.cancelEntry_issued {s : State} {i : Fin 128} {e : Entry} (node : s.lif.node?.isSome = true)
    (he : s.entry? i = some e) (beyond : e.state ≠ .queued) :
    .dispatchCancel (s.robot e.robot).node (s.tag i) ∈ (State.cancelEntry i s).issued := by
  have sent : State.cancelEntry i s = s.issueToRobot e.robot (.dispatchCancel · (s.tag i)) := by
    simp [State.cancelEntry, he, Entry.beyondQueued, beyond]
  rw [sent, State.issueToRobot, State.issue_issued node]
  exact List.mem_append_right _ List.mem_cons_self

/-- Every entry beyond QUEUED is cancelled at its robot. -/
theorem State.cancelEntries_issued {s : State} {i : Fin 128} {e : Entry} (node : s.lif.node?.isSome = true)
    (he : s.entry? i = some e) (beyond : e.state ≠ .queued) :
    .dispatchCancel (s.robot e.robot).node (s.tag i) ∈ (forAll allIndices State.cancelEntry s).issued := by
  obtain ⟨before, after, split⟩ := List.append_of_mem (List.mem_finRange i)
  have reached := forAll_leads State.cancelEntry_leads before s
  have entry : (forAll before State.cancelEntry s).entry? i = s.entry? i := State.entry?_congr (reached.1.2 .dtr (by simp)) i
  have tag : (forAll before State.cancelEntry s).tag i = s.tag i := by
    rw [State.tag, State.tag, State.place_congr (reached.1.2 .dtr (by simp))]
  have here := State.cancelEntry_issued (s := forAll before State.cancelEntry s) (by rw [State.leads_node reached]; exact node)
    (entry.trans he) beyond
  rw [State.robot_congr (reached.1.2 .rbc (by simp)), tag] at here
  rw [show allIndices = before ++ i :: after from split, forAll_append, forAll_cons]
  exact (forAll_leads State.cancelEntry_leads after _).2.1.subset here

/-! ## What is left (R201) -/

/-- The records that a DEVICE_RESET leaves are those of the state in which it began. -/
theorem State.resetRecords_keeps {s t : State} (h : s.keeps t [.lif]) :
    s.freeTracker.resetRecords.keeps t.freeTracker.resetRecords [.lif, .piu, .emu] := by
  refine ⟨h.1, fun b hb => ?_⟩
  have same := h.2 b fun lif => hb (by simp_all)
  cases b with
  | lif | piu | emu => simp at hb
  | arq => rfl
  | mge => exact same
  | tbs | dtr | rbc | spa | stc =>
    rw [Block.same] at same
    simp only [Block.same, State.resetRecords, State.freeTracker, same]

/-- A DEVICE_RESET: the cancels, the records as their rules leave them, the point of R171, and the step at EMU. -/
theorem State.deviceReset_eq (s : State) : ∃ c, s.leads c [.lif]
    ∧ s.deviceReset = c.freeTracker.resetRecords.comparePoint.resetEvents
    ∧ ∀ i e, s.lif.node?.isSome = true → s.entry? i = some e → e.state ≠ .queued →
      .dispatchCancel (s.robot e.robot).node (s.tag i) ∈ c.issued := by
  refine ⟨forAll allIndices State.cancelEntry s, s.cancelEntries_leads, ?_, fun _ _ node he beyond =>
    State.cancelEntries_issued node he beyond⟩
  rw [State.deviceReset, State.resetTracker_eq]

theorem State.deviceReset_keeps (s : State) : s.freeTracker.resetRecords.keeps s.deviceReset [.lif, .piu, .emu] := by
  obtain ⟨c, led, ran, _⟩ := s.deviceReset_eq
  rw [ran]
  refine State.keeps_trans (State.resetRecords_keeps led.1) (State.keeps_trans
    (State.keeps_mono (State.comparePoint_leads _).1 (by simp)) ⟨rfl, fun b hb => ?_⟩)
  cases b with
  | emu => simp at hb
  | _ => rfl

theorem State.deviceReset_emu (s : State) : s.deviceReset.emu = s.resetEvents.emu := by
  obtain ⟨c, led, ran, _⟩ := s.deviceReset_eq
  have emu : c.freeTracker.resetRecords.comparePoint.emu = s.emu :=
    Eq.trans (c.freeTracker.resetRecords.comparePoint_leads.1.2 .emu (by simp)) (led.1.2 .emu (by simp))
  rw [ran]
  simp only [State.resetEvents, emu]

theorem State.deviceReset_panels (s : State) : s.deviceReset.piu.panels = Vector.replicate 16 {} := by
  obtain ⟨c, _, ran, _⟩ := s.deviceReset_eq
  rw [ran]
  exact congrArg Piu.panels (State.comparePoint_piu _)

theorem State.deviceReset_issued {s : State} {i : Fin 128} {e : Entry} (node : s.lif.node?.isSome = true)
    (he : s.entry? i = some e) (beyond : e.state ≠ .queued) :
    .dispatchCancel (s.robot e.robot).node (s.tag i) ∈ s.deviceReset.issued := by
  obtain ⟨c, _, ran, cancelled⟩ := s.deviceReset_eq
  rw [ran]
  exact c.freeTracker.resetRecords.comparePoint_leads.2.1.subset (cancelled i e node he beyond)

/-- Settles O42: each record that is left is read off the reset of its block. -/
theorem deviceReset : Obligations.DeviceReset := by
  intro s f quiet
  obtain ⟨⟨_, node⟩, empty, _⟩ := s.quiet_iff.mp quiet
  set p := s.posed f .deviceReset with hp
  have done : State.Completed p.deviceReset _ f 29 .ok p.resetPayload := State.request_completed (f := f) (r := .deviceReset) quiet rfl rfl (State.deviceReset_leads _)
    (.inr (p.deviceReset_keeps.2 .arq (by simp) |> congrArg Arq.queue))
  have kept : p.freeTracker.resetRecords.keeps (s.request f .deviceReset) [.lif, .piu, .emu, .mge] :=
    State.keeps_trans (State.keeps_mono p.deviceReset_keeps (by simp)) (State.keeps_mono done.keeps (by simp))
  have emu : (s.request f .deviceReset).emu = s.resetEvents.emu :=
    (done.keeps.2 .emu (by simp)).trans p.deviceReset_emu
  have tbs : (s.request f .deviceReset).tbs = p.freeTracker.resetRecords.tbs := kept.2 .tbs (by simp)
  have active : p.freeTracker.resetRecords.tbs.active = s.tbs.active := rfl
  refine ⟨_, rfl, fun i => ?_, fun r => ?_, fun g => ?_, fun r => ?_, fun st => ?_, congrArg Arq.queue (kept.2 .arq (by simp)),
    fun id => ?_, (congrArg Tbs.active tbs).trans active, congrArg Tbs.draining tbs, fun st => ?_, fun st n => ?_, fun n => ?_, fun k => ?_,
    (congrArg Emu.freeze emu).trans rfl, ?_, kept.1, done.reported, fun i e he beyond => ?_, done.getLast?⟩
  · rw [State.place_congr (kept.2 .dtr (by simp))]
    exact getElem_mapAll _ _ _ _
  · rw [State.list_congr (kept.2 .dtr (by simp))]
    exact p.freeTracker_reset_list r
  · rw [State.group_congr (kept.2 .spa (by simp))]
    exact getElem_mapAll _ _ _ _
  · rw [State.robot_congr (kept.2 .rbc (by simp))]
    exact getElem_mapAll _ _ _ _
  · rw [State.station_congr (kept.2 .stc (by simp))]
    exact p.freeTracker.resetRecords_station st
  · rw [State.bank_congr tbs]
    cases id <;> rfl
  · have panels : (s.request f .deviceReset).piu.panels = Vector.replicate 16 {} := by
      simp only [done.piu, p.deviceReset_panels]
    rw [State.panel, panels]
    exact Vector.getElem_replicate _
  · rw [State.stationStatus, emu]
    simp [State.resetEvents, State.stationStatus]
  · rw [State.deviceStatus, emu]
    exact getElem_mapAll _ _ _ _
  · rw [State.counter_congr (t := s.request f .deviceReset) (s := s.resetEvents) emu]
    exact getElem_mapAll _ _ _ _
  · rw [done.mge, p.deviceReset_keeps.2 .mge (by simp)]
    exact congrArg State.mge (State.setRequests_setRequests_of_queue (s := s.begin) empty [⟨f, .deviceReset⟩])
  · exact done.mem_issued (State.deviceReset_issued (s := p) node he beyond)

end Sys2Proof.Machine
end

section
/-! The offer of a head (4.4) and the forced maintenance program (the statement O24). -/

namespace Sys2Proof.Machine

/-! ## The offer of a QUEUED head (R72) -/

/-- An entry as its offer leaves it, with the select timeout of its station. -/
def Entry.offeredAt (e : Entry) (timeout : Nat) : Entry :=
  { e with state := .offered, selectTimer := some (timeout + 1) }

/-- What stands ahead of the PROG_SELECT of an offer: the entry OFFERED and its robot BUSY. -/
def State.readied (s : State) (i : Fin 128) (e : Entry) (r : Fin 64) : State :=
  (s.setEntry i (some { e with state := .offered })).setRobotState r .busy

section
variable {s : State} {i : Fin 128} {e : Entry} {r : Fin 64}

theorem State.offer_of_some (he : s.entry? i = some e) (r : Fin 64) : s.offer i r = (s.readied i e r).sendSelect i := by
  rw [State.offer, State.modEntry_of_some he]
  rfl

theorem State.readied_entry (s : State) (i : Fin 128) (e : Entry) (r : Fin 64) :
    (s.readied i e r).entry? i = some { e with state := .offered } := by
  rw [State.readied, State.setRobotState_entry, State.entry_setEntry, if_pos rfl]

theorem State.readied_leads (s : State) (i : Fin 128) (e : Entry) (r : Fin 64) : s.leads (s.readied i e r) [.dtr, .rbc] :=
  State.leads_seq (s.setEntry_leads _ _) (State.setRobotState_leads _ _ _) (by simp) (by simp)

theorem State.offer_passDue (s : State) (i : Fin 128) (r : Fin 64) : (s.offer i r).passDue = s.passDue :=
  State.sendSelect_passDue _ _

theorem State.offer_place (he : s.entry? i = some e) (r : Fin 64) (j : Fin 128) :
    (s.offer i r).place j = if i = j
      then ⟨(s.place i).issue + 1, some (e.offeredAt (s.station e.station).config.selectTimeout)⟩ else s.place j := by
  rw [State.offer_of_some he, State.sendSelect_place (s.readied_entry i e r)]
  split
  · rw [State.selected, State.readied, State.setRobotState_place, State.place_setEntry, if_pos rfl]
    rfl
  · next other => rw [State.readied, State.setRobotState_place, State.place_setEntry, if_neg other]

theorem State.offer_lists (he : s.entry? i = some e) (r : Fin 64) : (s.offer i r).dtr.lists = s.dtr.lists := by
  rw [State.offer_of_some he, State.sendSelect_lists (s.readied_entry i e r)]
  rfl

theorem State.offer_robot (he : s.entry? i = some e) (r q : Fin 64) :
    (s.offer i r).robot q = if r = q then { s.robot r with state := .busy } else s.robot q := by
  rw [State.offer_of_some he, State.robot_congr ((State.sendSelect_leads _ _).1.2 .rbc (by simp)), State.readied,
    State.robot_setRobotState]
  rfl

theorem State.offer_issued (he : s.entry? i = some e) (r : Fin 64) (node : s.lif.node?.isSome = true) :
    .progSelect (s.robot e.robot).node ⟨BitVec.ofNat 8 i, (s.place i).issue + 1⟩ e.program e.expected e.body e.kind
      ∈ (s.offer i r).issued := by
  have sent := State.sendSelect_issued (s.readied_entry i e r)
    (by rw [State.leads_node (s.readied_leads i e r)]; exact node)
  have issue : ((s.readied i e r).place i).issue = (s.place i).issue := by
    rw [State.readied, State.setRobotState_place, State.place_setEntry, if_pos rfl]
  have robot : ((s.readied i e r).robot e.robot).node = (s.robot e.robot).node := by
    rw [State.readied, State.robot_setRobotState]
    split
    · next here => subst here; rfl
    · rfl
  rw [State.offer_of_some he]
  rw [issue] at sent
  rw [← robot]
  exact sent

/-- The offer of an entry that is not WELDING does not show in the image. -/
theorem State.readied_image (he : s.entry? i = some e) (idle : e.state ≠ .welding) (r : Fin 64) :
    (s.readied i e r).image = s.image := by
  refine State.image_of_dresses rfl rfl fun j st => ?_
  rw [State.readied, State.setRobotState_entry, State.entry_setEntry]
  split
  · next here =>
    subst here
    rw [he, Option.any_some, Option.any_some, Entry.dresses_of_state (by simp), Entry.dresses_of_state idle]
  · rfl

theorem State.offer_image (he : s.entry? i = some e) (idle : e.state ≠ .welding) (r : Fin 64) :
    (s.offer i r).image = s.image := by
  rw [State.offer_of_some he, State.sendSelect_image, State.readied_image he idle]

theorem State.readied_settled (settled : s.settled = true) (he : s.entry? i = some e) (idle : e.state ≠ .welding)
    (r : Fin 64) : (s.readied i e r).settled = true :=
  State.settled_of_image settled (State.readied_image he idle r) rfl

theorem State.offer_piu (settled : s.settled = true) (he : s.entry? i = some e) (idle : e.state ≠ .welding) (r : Fin 64) :
    (s.offer i r).piu = s.piu := by
  rw [State.offer_of_some he, State.sendSelect_piu (State.readied_settled settled he idle r)]
  rfl

theorem State.offer_settled (settled : s.settled = true) (he : s.entry? i = some e) (idle : e.state ≠ .welding)
    (r : Fin 64) : (s.offer i r).settled = true :=
  State.settled_of_image settled (State.offer_image he idle r) (State.offer_piu settled he idle r)

/-! ## Offer attempts (R71) -/

theorem State.offerable_iff (s : State) (r : Fin 64) (e : Entry) : s.offerable r e = true ↔ e.state = .queued
    ∧ (s.robot r).state = .idle ∧ (s.panel e.station).manual = false
    ∧ (e.kind = .weld → (s.station e.station).enabled = true) := by
  simp only [State.offerable, Bool.and_eq_true, beq_iff_eq, Bool.not_eq_true', Bool.or_eq_true, bne_iff_ne, ne_eq, and_assoc,
    or_iff_not_imp_left, not_not]

/-- An offer attempt, where the head is `i`. -/
theorem State.attemptOffer_of_head {l : List (Fin 128)} (list : s.list r = i :: l) (he : s.entry? i = some e) :
    s.attemptOffer r = if s.offerable r e then
        if e.kind = .weld ∧ (s.robot r).worn then s.endCore i .wearLimit none [] else s.offer i r
      else s := by
  simp only [State.attemptOffer, list, List.head?_cons, he]

theorem State.attemptOffer_of_nil (list : s.list r = []) : s.attemptOffer r = s := by
  simp only [State.attemptOffer, list, List.head?_nil]

end

/-! ## Creation (R64) -/

theorem State.lowestFree?_of_least {s : State} {i : Fin 128} (free : s.entry? i = none)
    (least : ∀ j : Fin 128, j < i → s.entry? j ≠ none) : s.lowestFree? = some i := by
  refine List.find?_eq_some_iff_getElem.mpr ⟨by rw [free]; rfl, i, by simp [allIndices], by simp [allIndices], fun j hj => ?_⟩
  have used := least ⟨j, hj.trans i.isLt⟩ hj
  simpa [allIndices, Option.isSome_iff_ne_none] using used

theorem State.lowestFree?_of_full {s : State} (full : ∀ j : Fin 128, s.entry? j ≠ none) : s.lowestFree? = none := by
  refine List.find?_eq_none.mpr fun j _ => ?_
  simpa using full j

/-! ## FORCE_PROGRAM (R109) -/

/-- The MAINT entry that FORCE_PROGRAM gives a robot (R109). -/
def Robot.maintEntry (x : Robot) (r : Fin 64) (p : Byte) : Entry :=
  { kind := .maint, robot := r, station := x.station, body := 0, position := x.position, program := p, expected := 0 }

section
variable {b p : Byte} {r : Fin 64}

theorem State.forceProgram_of_range (h : 64 ≤ b.toNat ∨ p = 0) (u : State) : u.forceProgram b p = (u, .range, []) := by
  unfold State.forceProgram
  split
  · rfl
  · next q robot =>
    rcases h with h | h
    · rw [below?_of_le h] at robot; cases robot
    · rw [if_pos h]

theorem State.forceProgram_of_collision (hr : b.toNat = r) (program : p ≠ 0) {u : State}
    (h : (u.robot r).state ≠ .idle ∨ u.list r ≠ []) : u.forceProgram b p = (u, .collision, []) := by
  simp only [State.forceProgram, below?_of_eq hr, program, if_false]
  rw [if_pos h]

theorem State.forceProgram_of_open (hr : b.toNat = r) (program : p ≠ 0) {u : State} (idle : (u.robot r).state = .idle)
    (list : u.list r = []) :
    u.forceProgram b p = u.lowestFree?.elim (u, .full, [])
      (fun i => ((u.append ((u.robot r).maintEntry r p)).attemptOffer r, .ok, u8 i)) := by
  simp only [State.forceProgram, below?_of_eq hr, program, if_false]
  rw [if_neg (by simp [idle, list])]
  cases u.lowestFree? <;> rfl

end

/-- The entry and its list stand; the offer follows where the station is not MANUAL. -/
theorem State.forced_of_free {u : State} {i : Fin 128} {r : Fin 64} {p : Byte} (free : u.lowestFree? = some i)
    (idle : (u.robot r).state = .idle) (list : u.list r = []) :
    (u.append ((u.robot r).maintEntry r p)).attemptOffer r
      = if (u.panel (u.robot r).station).manual
        then (u.setEntry i (some ((u.robot r).maintEntry r p))).setList r [i]
        else ((u.setEntry i (some ((u.robot r).maintEntry r p))).setList r [i]).offer i r := by
  set e := (u.robot r).maintEntry r p with he
  have appended : u.append e = (u.setEntry i (some e)).setList r [i] := by
    rw [State.append_of_some free, show e.robot = r from rfl, list]
    rfl
  rw [appended]
  have head : ((u.setEntry i (some e)).setList r [i]).list r = i :: [] := by rw [State.list_setList, if_pos rfl]
  have entry : ((u.setEntry i (some e)).setList r [i]).entry? i = some e := by simp
  rw [State.attemptOffer_of_head head entry]
  cases manual : (u.panel (u.robot r).station).manual with
  | true =>
    rw [if_pos rfl, if_neg]
    rw [State.offerable_iff]
    exact fun all => Bool.noConfusion (manual.symm.trans all.2.2.1)
  | false =>
    rw [if_pos, if_neg (by simp [he, Robot.maintEntry])]
    · rfl
    · exact (State.offerable_iff _ _ _).mpr ⟨rfl, idle, manual, fun weld => nomatch weld⟩

/-- Settles O24: one MAINT entry, offered unless its station is MANUAL; neither shows in the image. -/
theorem programForced : Obligations.ProgramForced := by
  intro s f b p quiet
  obtain ⟨⟨_, node⟩, empty, settled⟩ := s.quiet_iff.mp quiet
  refine ⟨fun r i hr program idle list free least => ?_, fun range => ?_, fun r hr program busy => ?_,
    fun r hr program idle list full => ?_⟩
  · set q := s.posed f (.forceProgram b p) with hq
    set e := (s.robot r).maintEntry r p with he
    set v := (q.setEntry i (some e)).setList r [i] with hv
    set u := if (s.panel (s.robot r).station).manual then v else v.offer i r with hu
    have ran : q.run (.forceProgram b p) = (u, .ok, u8 i) := by
      have lowest : q.lowestFree? = some i := State.lowestFree?_of_least free least
      refine (State.forceProgram_of_open hr program (by exact idle) (by exact list)).trans ?_
      rw [lowest]
      exact congrArg (fun x : State => (x, Result.ok, u8 i)) (State.forced_of_free lowest (by exact idle) (by exact list))
    have entry : v.entry? i = some e := by simp [hv]
    have idleEntry : e.state ≠ .welding := by simp [he, Robot.maintEntry]
    have put : q.leads v [.dtr] :=
      State.leads_seq (q.setEntry_leads _ _) (State.setList_leads _ _ _) (by simp) (by simp)
    have dark (st : Fin 16) : e.dresses st = false := Entry.dresses_of_kind (by simp [he, Robot.maintEntry]) st
    have vImage : v.image = q.image := by
      refine (State.image_congr (s := q.setEntry i (some e)) rfl rfl rfl).trans (State.image_setEntry fun st => ?_)
      rw [Option.any_some, dark, show q.entry? i = none from free]
      rfl
    have vSettled : v.settled = true := State.settled_of_image (s := q) settled vImage rfl
    have led : q.leads u [.lif, .dtr, .rbc, .piu, .emu] := by
      rw [hu]
      split
      · exact State.leads_mono put (by simp)
      · exact State.leads_seq put (v.offer_leads i r) (by simp) (by simp)
    have pass : u.passDue = false := by
      rw [hu]
      split
      · rfl
      · exact (v.offer_passDue i r).trans rfl
    have uSettled : u.settled = true := by
      rw [hu]
      split
      · exact vSettled
      · exact State.offer_settled vSettled entry idleEntry r
    have uPiu : u.piu = s.piu := by
      rw [hu]
      split
      · rfl
      · exact (State.offer_piu vSettled entry idleEntry r).trans rfl
    have done : State.Completed u _ f 17 .ok (u8 i) := State.request_completed quiet rfl ran led (.inl pass)
    have tPlace (j : Fin 128) : (s.request f (.forceProgram b p)).place j = u.place j :=
      State.place_congr (done.keeps.2 .dtr (by simp)) j
    have tRobot (j : Fin 64) : (s.request f (.forceProgram b p)).robot j = u.robot j :=
      State.robot_congr (done.keeps.2 .rbc (by simp)) j
    have uLists : u.dtr.lists = v.dtr.lists := by
      rw [hu]
      split
      · rfl
      · exact State.offer_lists entry r
    have tList (j : Fin 64) : (s.request f (.forceProgram b p)).list j = if r = j then [i] else s.list j := by
      rw [State.list_congr (done.keeps.2 .dtr (by simp)), State.list, uLists]
      exact (State.list_setList _ _ _ _).trans (by rfl)
    have vPlace (j : Fin 128) : v.place j = if i = j then ⟨(s.place i).issue, some e⟩ else s.place j := by
      rw [hv, State.place_setList, State.place_setEntry]
      rfl
    refine ⟨_, rfl, (tList r).trans (if_pos rfl), done.getLast?, fun j other => ?_, fun j other => ?_, fun j other => ?_,
      fun manual => ?_, fun manual => ?_, ?_⟩
    · rw [tPlace, hu]
      split
      · rw [vPlace, if_neg other.symm]
      · rw [State.offer_place entry, if_neg other.symm, vPlace, if_neg other.symm]
    · rw [tList, if_neg other.symm]
    · rw [tRobot, hu]
      split
      · rfl
      · rw [State.offer_robot entry, if_neg other.symm]
        rfl
    · rw [tPlace, tRobot, hu, if_pos manual, vPlace, if_pos rfl]
      exact ⟨rfl, rfl⟩
    · have offered : u = v.offer i r := by rw [hu, if_neg (by simp [manual])]
      have sent := State.offer_issued entry r (by rw [State.leads_node put]; exact node)
      rw [vPlace, if_pos rfl, ← offered] at sent
      rw [tPlace, tRobot, offered, State.offer_place entry, if_pos rfl, State.offer_robot entry, if_pos rfl, vPlace,
        if_pos rfl]
      exact ⟨rfl, rfl, done.mem_issued sent⟩
    · have all := done.keeps_of_settled empty led uSettled (n := [.lif, .dtr, .rbc, .piu, .emu])
      exact State.keeps_of_piu (n := [.lif, .dtr, .rbc, .emu]) (State.keeps_mono all (by simp))
        ((done.piu_of_settled uSettled).trans uPiu)
  · exact congrArg Host.Outcome.next (State.request_of_unchanged (f := f) (r := .forceProgram b p) quiet rfl
      (State.forceProgram_of_range range _))
  · exact congrArg Host.Outcome.next (State.request_of_unchanged (f := f) (r := .forceProgram b p) quiet rfl
      (State.forceProgram_of_collision hr program (by exact busy)))
  · have lowest : (s.posed f (.forceProgram b p)).lowestFree? = none := State.lowestFree?_of_full full
    refine congrArg Host.Outcome.next (State.request_of_unchanged (f := f) (r := .forceProgram b p) (result := .full)
      (payload := []) quiet rfl ?_)
    refine (State.forceProgram_of_open hr program (by exact idle) (by exact list)).trans ?_
    rw [lowest]
    rfl

end Sys2Proof.Machine
end

section
/-! The end of an entry (4.8): what its outcome writes into its slot, and what is left of its place, its list and its
robot. -/

namespace Sys2Proof.Machine

/-! ## A station's record changed (R136) -/

theorem State.updateStation_station (s : State) (st q : Fin 16) (x : Station) :
    (s.updateStation st x).station q = if st = q then x else s.station q := by
  unfold State.updateStation
  dsimp only
  split
  · exact (State.station_congr ((State.stationEvent_leads _ _ _ _ _).1.2 .stc (by simp)) q).trans
      (State.station_setStation _ _ _ _)
  · exact State.station_setStation _ _ _ _

/-- The HELD event of a station sets no device status. -/
theorem State.updateStation_deviceStatus (s : State) (st : Fin 16) (x : Station) (n : Fin 8) :
    (s.updateStation st x).deviceStatus n = s.deviceStatus n := by
  unfold State.updateStation
  dsimp only
  split
  · exact State.deviceStatus_congr (State.stationEvent_emu _ _ _ _ _) n
  · rfl

theorem ReasonSet.isEmpty_enter (x : ReasonSet) (r : Reason) : (x.enter r).isEmpty = false := by
  rw [ReasonSet.isEmpty, beq_eq_false_iff_ne]
  cases x
  cases r <;> simp [ReasonSet.enter]

/-- A station with a reason in its CURRENT slot is HELD, where it is not DISABLED. -/
theorem Station.held_of_reason {x : Station} {c : Slot} (enabled : x.enabled = true) (current : x.current = some c)
    (reason : c.reasons.isEmpty = false) : x.state = .held := by
  rw [Station.state_eq_held]
  exact ⟨enabled, by simp [current, reason]⟩

/-! ## A slot that is complete (R146) -/

/-- One station record is another, but that its CURRENT slot may have been released. -/
def Station.Released (x y : Station) : Prop :=
  y = x ∨ ∃ c, x.current = some c ∧ y = { x with current := some { c with state := .released }, cycleTimer := none }

theorem State.checkCompletion_released (s : State) (st q : Fin 16) :
    (s.station q).Released ((s.checkCompletion st).station q) := by
  cases complete : (s.station st).completes with
  | false => exact .inl (by rw [State.checkCompletion_of_not complete])
  | true =>
    cases current : (s.station st).current with
    | none => simp [Station.completes, current] at complete
    | some c =>
      rw [State.checkCompletion_of_completes current complete, State.releaseSlot_station]
      split
      · next here => subst here; exact .inr ⟨c, current, rfl⟩
      · exact .inl rfl

theorem Station.Released.config {x y : Station} (h : x.Released y) : y.config = x.config := by
  rcases h with rfl | ⟨c, _, rfl⟩ <;> rfl

theorem Station.Released.next {x y : Station} (h : x.Released y) : y.next = x.next := by
  rcases h with rfl | ⟨c, _, rfl⟩ <;> rfl

theorem Station.Released.state {x y : Station} (h : x.Released y) : y.state = x.state := by
  rcases h with rfl | ⟨c, current, rfl⟩
  · rfl
  · simp [Station.state, current]

/-- A release leaves of the slot what its body brought and what was written into it. -/
theorem Station.Released.current {x y : Station} (h : x.Released y) {c : Slot} (current : x.current = some c) :
    ∃ c', y.current = some c' ∧ c'.body = c.body ∧ c'.positions = c.positions ∧ c'.reasons = c.reasons := by
  rcases h with rfl | ⟨d, held, rfl⟩
  · exact ⟨c, current, rfl, rfl, rfl⟩
  · rw [held] at current
    cases current
    exact ⟨_, rfl, rfl, rfl, rfl⟩

/-! ## An outcome written into its slot (R84, R141) -/

/-- A slot with the outcome of a WELD entry written into the entry's position. -/
def Slot.outcome (c : Slot) (policy : Policy) (e : Entry) (o : EntryOutcome) (reported : Option Nat) : Slot :=
  c.write policy e.position (positionOutcome o) reported (shortfallOf o e.expected reported)

theorem Slot.outcome_of_some {c : Slot} {e : Entry} {y : Position} (h : c.positions[e.position] = some y) (policy : Policy)
    (o : EntryOutcome) (reported : Option Nat) :
    c.outcome policy e o reported = { c with
      positions := c.positions.set e.position (some { y with
        outcome := positionOutcome o, reported := reported, shortfall := shortfallOf o e.expected reported })
      reasons := c.reasons.enter? (blockingReason? policy (positionOutcome o)) } := by
  simp only [Slot.outcome, Slot.write, h]

theorem Slot.outcome_body (c : Slot) (policy : Policy) (e : Entry) (o : EntryOutcome) (reported : Option Nat) :
    (c.outcome policy e o reported).body = c.body := by
  unfold Slot.outcome Slot.write
  split <;> rfl

section
variable {s : State} {e : Entry} {c : Slot}

theorem State.writeOutcome_of_current (current : (s.station e.station).current = some c) (body : c.body = e.body)
    (o : EntryOutcome) (d : Option Nat) :
    s.writeOutcome e o d = (s.updateStation e.station { s.station e.station with
      current := some (c.outcome (s.station e.station).config.short e o d) }).checkCompletion e.station := by
  simp only [State.writeOutcome, current, Option.any_some, body, decide_true, if_true, Option.map_some]
  rfl

theorem State.writeOutcome_of_next (other : (s.station e.station).current.any (fun x => decide (x.body = e.body)) = false)
    (next : (s.station e.station).next = some c) (body : c.body = e.body) (o : EntryOutcome) (d : Option Nat) :
    s.writeOutcome e o d = s.updateStation e.station { s.station e.station with
      next := some (c.outcome (s.station e.station).config.short e o d) } := by
  simp only [State.writeOutcome, other, next, Option.any_some, body, decide_true, if_true, Option.map_some,
    Bool.false_eq_true, if_false]
  rfl

/-- What an outcome leaves of the station whose CURRENT slot holds the entry's body. -/
theorem State.writeOutcome_released (current : (s.station e.station).current = some c) (body : c.body = e.body)
    (o : EntryOutcome) (d : Option Nat) :
    Station.Released { s.station e.station with current := some (c.outcome (s.station e.station).config.short e o d) }
      ((s.writeOutcome e o d).station e.station) := by
  rw [State.writeOutcome_of_current current body]
  have h := State.checkCompletion_released (s.updateStation e.station { s.station e.station with
    current := some (c.outcome (s.station e.station).config.short e o d) }) e.station e.station
  rwa [State.updateStation_station, if_pos rfl] at h

theorem State.writeOutcome_other (s : State) (e : Entry) (o : EntryOutcome) (d : Option Nat) {q : Fin 16}
    (h : e.station ≠ q) : (s.writeOutcome e o d).station q = s.station q := by
  have released (t : State) (st : Fin 16) (other : st ≠ q) : (t.checkCompletion st).station q = t.station q := by
    cases complete : (t.station st).completes with
    | false => rw [State.checkCompletion_of_not complete]
    | true =>
      cases current : (t.station st).current with
      | none => simp [Station.completes, current] at complete
      | some c => rw [State.checkCompletion_of_completes current complete, State.releaseSlot_station, if_neg other]
  unfold State.writeOutcome
  dsimp only
  split
  · rw [released _ _ h, State.updateStation_station, if_neg h]
  · split
    · rw [State.updateStation_station, if_neg h]
    · rfl

theorem State.writeOutcome_deviceStatus (s : State) (e : Entry) (o : EntryOutcome) (d : Option Nat) (n : Fin 8) :
    (s.writeOutcome e o d).deviceStatus n = s.deviceStatus n := by
  unfold State.writeOutcome
  dsimp only
  split
  · rw [State.deviceStatus_congr ((State.checkCompletion_leads _ _).1.2 .emu (by simp)), State.updateStation_deviceStatus]
  · split
    · exact State.updateStation_deviceStatus _ _ _ _
    · rfl

end

/-! ## The handing-on of an outcome (R69) -/

/-- The outcome of a WELD entry is written behind its events and counts. -/
theorem State.handWeld_eq (s : State) (e : Entry) (o : EntryOutcome) (d : Option Nat) :
    ∃ u, s.leads u [.emu, .lif] ∧ s.handWeld e o d = u.writeOutcome e o d := by
  unfold State.handWeld
  refine ⟨_, ?_, rfl⟩
  split
  · exact s.count_leads _ _ _
  · exact State.leads_trans (s.stationEvent_leads _ _ _ _) (State.count_leads _ _ _ _)
  · exact s.count_leads _ _ _
  · exact s.leads_refl _

/-- The handing-on of a DRESS or MAINT outcome changes no station. -/
theorem State.handOutcome_stc (s : State) {e : Entry} (kind : e.kind ≠ .weld) (o : EntryOutcome) (d : Option Nat) :
    (s.handOutcome e o d).stc = s.stc := by
  have counted (t : State) (x : CounterEvent) (a : Attributes) : (t.count x 1 a).stc = t.stc :=
    (t.count_leads x 1 a).1.2 .stc (by simp)
  have failed : (s.stationEvent e.station .dressFailed (some e.robot) (some e.body)).stc = s.stc :=
    (s.stationEvent_leads _ _ _ _).1.2 .stc (by simp)
  unfold State.handOutcome
  split
  · next weld => exact absurd weld kind
  · unfold State.handDress
    cases o <;> simp only [counted, failed, State.setRobot_stc]
  · unfold State.handMaint
    cases o <;> simp only [counted, State.setRobot_stc]

/-- The robot of an entry whose outcome is handed on: a MAINT outcome becomes its maintenance record. -/
theorem State.handOutcome_robot_other (s : State) (e : Entry) (o : EntryOutcome) (d : Option Nat) {q : Fin 64}
    (h : e.robot ≠ q) : (s.handOutcome e o d).robot q = s.robot q := by
  unfold State.handOutcome
  split
  · exact State.robot_congr ((s.handWeld_leads e o d).1.2 .rbc (by simp)) q
  · unfold State.handDress
    cases o <;> simp only [State.count_robot, State.stationEvent_robot, State.robot_setRobot, if_neg h]
  · unfold State.handMaint
    cases o <;> simp only [State.count_robot, State.robot_setRobot, if_neg h]

theorem State.handOutcome_robot_state (s : State) (e : Entry) (o : EntryOutcome) (d : Option Nat) :
    ((s.handOutcome e o d).robot e.robot).state = (s.robot e.robot).state := by
  unfold State.handOutcome
  split
  · rw [State.robot_congr ((s.handWeld_leads e o d).1.2 .rbc (by simp))]
  · unfold State.handDress
    cases o <;> simp only [State.count_robot, State.stationEvent_robot, State.robot_setRobot, if_true]
  · unfold State.handMaint
    cases o <;> simp only [State.count_robot, State.robot_setRobot, if_true]

theorem State.handOutcome_robot_maint (s : State) (e : Entry) (o : EntryOutcome) (d : Option Nat) :
    ((s.handOutcome e o d).robot e.robot).maint
      = if e.kind = .maint then some ⟨o, e.program, d⟩ else (s.robot e.robot).maint := by
  unfold State.handOutcome
  split
  · next kind => rw [State.robot_congr ((s.handWeld_leads e o d).1.2 .rbc (by simp)), if_neg (by simp [kind])]
  · next kind =>
    rw [if_neg (by simp [kind])]
    unfold State.handDress
    cases o <;> simp only [State.count_robot, State.stationEvent_robot, State.robot_setRobot, if_true]
  · next kind =>
    rw [if_pos kind]
    unfold State.handMaint
    cases o <;> simp only [State.count_robot, State.robot_setRobot, if_true]

/-! ## The end (R64, R69, R70) -/

section
variable {s : State} {i : Fin 128} {e : Entry}

theorem State.free_place (s : State) (i j : Fin 128) (r : Fin 64) :
    (s.free i r).place j = if i = j then ⟨(s.place i).issue, none⟩ else s.place j := by
  unfold State.free
  rw [State.callPass_place, State.place_setList, State.place_setEntry]

/-- The first step of the end of an entry without a credit: its standing and its timers are cleared. -/
def State.quieted (s : State) (i : Fin 128) (e : Entry) : State :=
  s.setEntry i (some { e with supply := .none, holdTimer := none, selectTimer := none })

theorem State.quieted_leads (s : State) (i : Fin 128) (e : Entry) : s.leads (s.quieted i e) [.dtr] := s.setEntry_leads _ _

/-- The end of an entry that holds no credit. -/
theorem State.endCore_of_no_credit (he : s.entry? i = some e) (supply : e.supply ≠ .holding) (o : EntryOutcome)
    (d : Option Nat) (ban : List (Fin 128)) :
    s.endCore i o d ban = (((s.quieted i e).handOutcome e o d).free i e.robot).setRobotState e.robot
      (robotAfter e o (s.robot e.robot).state) := by
  have released : (s.releaseSupply i ban).modEntry i (fun e => { e with selectTimer := none }) = s.quieted i e := by
    rw [State.releaseSupply_of_no_credit he (fun h => absurd h supply)]
    rw [State.modEntry_of_some (e := { e with supply := .none, holdTimer := none }) (by rw [State.entry_setEntry, if_pos rfl])]
    rw [State.setEntry_eq_setPlace, State.setEntry_eq_setPlace, State.quieted, State.setEntry_eq_setPlace,
      State.place_setPlace, if_pos rfl]
    simp [State.setPlace]
  have state : ((((s.quieted i e).handOutcome e o d).free i e.robot).robot e.robot).state = (s.robot e.robot).state := by
    rw [State.robot_congr ((State.free_leads _ _ _).1.2 .rbc (by simp)), State.handOutcome_robot_state]
    rfl
  simp only [State.endCore, he, released, state]

theorem State.endCore_place (he : s.entry? i = some e) (supply : e.supply ≠ .holding) (o : EntryOutcome)
    (d : Option Nat) (ban : List (Fin 128)) (j : Fin 128) :
    (s.endCore i o d ban).place j = if i = j then ⟨(s.place i).issue, none⟩ else s.place j := by
  have handed (k : Fin 128) : ((s.quieted i e).handOutcome e o d).place k = (s.quieted i e).place k :=
    State.place_congr ((State.handOutcome_leads _ _ _ _).1.2 .dtr (by simp)) k
  rw [State.endCore_of_no_credit he supply, State.setRobotState_place, State.free_place, handed, handed, State.quieted,
    State.place_setEntry, State.place_setEntry, if_pos rfl]
  split
  · rfl
  · rfl

theorem State.endCore_robot_other (he : s.entry? i = some e) (supply : e.supply ≠ .holding) (o : EntryOutcome)
    (d : Option Nat) (ban : List (Fin 128)) {q : Fin 64} (h : e.robot ≠ q) :
    (s.endCore i o d ban).robot q = s.robot q := by
  rw [State.endCore_of_no_credit he supply, State.robot_setRobotState, if_neg h,
    State.robot_congr ((State.free_leads _ _ _).1.2 .rbc (by simp)), State.handOutcome_robot_other _ _ _ _ h]
  rfl

theorem State.endCore_robot_state (he : s.entry? i = some e) (supply : e.supply ≠ .holding) (o : EntryOutcome)
    (d : Option Nat) (ban : List (Fin 128)) :
    ((s.endCore i o d ban).robot e.robot).state = robotAfter e o (s.robot e.robot).state := by
  rw [State.endCore_of_no_credit he supply, State.robot_setRobotState, if_pos rfl]

theorem State.endCore_robot_maint (he : s.entry? i = some e) (supply : e.supply ≠ .holding) (o : EntryOutcome)
    (d : Option Nat) (ban : List (Fin 128)) : ((s.endCore i o d ban).robot e.robot).maint
      = if e.kind = .maint then some ⟨o, e.program, d⟩ else (s.robot e.robot).maint := by
  have freed : (((s.quieted i e).handOutcome e o d).free i e.robot).robot e.robot
      = ((s.quieted i e).handOutcome e o d).robot e.robot :=
    State.robot_congr ((State.free_leads _ _ _).1.2 .rbc (by simp)) _
  rw [State.endCore_of_no_credit he supply, State.robot_setRobotState, if_pos rfl, freed]
  exact State.handOutcome_robot_maint _ _ _ _

/-- The robot of an ended WELD entry. -/
theorem State.endCore_robot_weld (he : s.entry? i = some e) (supply : e.supply ≠ .holding) (weld : e.kind = .weld)
    (o : EntryOutcome) (d : Option Nat) (ban : List (Fin 128)) : (s.endCore i o d ban).robot e.robot
      = { s.robot e.robot with state := robotAfter e o (s.robot e.robot).state } := by
  have handed : ((s.quieted i e).handOutcome e o d).robot e.robot = s.robot e.robot := by
    unfold State.handOutcome
    rw [weld]
    exact State.robot_congr (((s.quieted i e).handWeld_leads e o d).1.2 .rbc (by simp)) _
  have freed : (((s.quieted i e).handOutcome e o d).free i e.robot).robot e.robot = s.robot e.robot :=
    (State.robot_congr ((State.free_leads _ _ _).1.2 .rbc (by simp)) _).trans handed
  rw [State.endCore_of_no_credit he supply, State.robot_setRobotState, if_pos rfl, freed]

/-- The stations after the end of an entry are those after its outcome was handed on. -/
theorem State.endCore_stc (he : s.entry? i = some e) (supply : e.supply ≠ .holding) (o : EntryOutcome)
    (d : Option Nat) (ban : List (Fin 128)) :
    (s.endCore i o d ban).stc = ((s.quieted i e).handOutcome e o d).stc := by
  rw [State.endCore_of_no_credit he supply, State.setRobotState_stc]
  exact (State.free_leads _ _ _).1.2 .stc (by simp)

/-- The end of a WELD entry writes its outcome, behind its events and counts. -/
theorem State.endCore_stc_weld (he : s.entry? i = some e) (supply : e.supply ≠ .holding) (weld : e.kind = .weld)
    (o : EntryOutcome) (d : Option Nat) (ban : List (Fin 128)) :
    ∃ u, s.leads u [.dtr, .emu, .lif] ∧ (s.endCore i o d ban).stc = (u.writeOutcome e o d).stc := by
  obtain ⟨u, led, written⟩ := (s.quieted i e).handWeld_eq e o d
  refine ⟨u, State.leads_seq (s.quieted_leads i e) led (by simp) (by simp), ?_⟩
  rw [State.endCore_stc he supply, State.handOutcome, weld]
  exact congrArg State.stc written

/-- What the end of a WELD entry leaves of its station, where the CURRENT slot holds its body. -/
theorem State.endCore_released (he : s.entry? i = some e) (supply : e.supply ≠ .holding) (weld : e.kind = .weld)
    {c : Slot} (current : (s.station e.station).current = some c) (body : c.body = e.body) (o : EntryOutcome)
    (d : Option Nat) (ban : List (Fin 128)) :
    Station.Released { s.station e.station with current := some (c.outcome (s.station e.station).config.short e o d) }
      ((s.endCore i o d ban).station e.station) := by
  obtain ⟨u, led, written⟩ := State.endCore_stc_weld he supply weld o d ban
  have before := State.station_congr (led.1.2 .stc (by simp)) e.station
  rw [State.station_congr written]
  have h := State.writeOutcome_released (s := u) (before ▸ current) body o d
  rwa [before] at h

/-- The end of the only entry of a robot: nothing is offered behind it. -/
theorem State.endEntry_of_alone (he : s.entry? i = some e) (list : s.list e.robot = [i]) (o : EntryOutcome)
    (d : Option Nat) : s.endEntry i o d = s.endCore i o d [] := by
  simp only [State.endEntry, he]
  exact State.attemptOffer_of_nil (by rw [State.endCore_list he, if_pos rfl, list]; simp)

end

end Sys2Proof.Machine
end

section
/-! The entries that end at a robot's telegram or a timer (the statements O52, O57 and O58). -/

namespace Sys2Proof.Machine

/-! ## A WELD entry that fails (R69, R70, R84) -/

/-- The outcomes of a WELD entry that failed before its report. -/
def failures : List EntryOutcome := [.rejected, .expired, .supplyHold, .wearLimit]

theorem robotAfter_of_failure {e : Entry} (weld : e.kind = .weld) {o : EntryOutcome} (failed : o ∈ failures)
    {x : RobotState} (enabled : x ≠ .disabled) : robotAfter e o x = .faulted := by
  simp only [failures, List.mem_cons, List.not_mem_nil, or_false] at failed
  rcases failed with rfl | rfl | rfl | rfl <;> simp [robotAfter, weld, enabled]

theorem shortfallOf_of_failure {o : EntryOutcome} (failed : o ∈ failures) (n : Nat) : shortfallOf o n none = n := by
  simp only [failures, List.mem_cons, List.not_mem_nil, or_false] at failed
  rcases failed with rfl | rfl | rfl | rfl <;> rfl

theorem blockingReason?_of_failure {o : EntryOutcome} (failed : o ∈ failures) (policy : Policy) :
    ∃ r, blockingReason? policy (positionOutcome o) = some r := by
  simp only [failures, List.mem_cons, List.not_mem_nil, or_false] at failed
  rcases failed with rfl | rfl | rfl | rfl <;> exact ⟨_, rfl⟩

section
variable {s : State} {i : Fin 128} {e : Entry} {c : Slot} {y : Position} {o : EntryOutcome}

/-- What a WELD entry that failed leaves of its station: its outcome in its position, and the station HELD. -/
theorem State.endCore_failed (he : s.entry? i = some e) (supply : e.supply = .none) (weld : e.kind = .weld)
    (current : (s.station e.station).current = some c) (body : c.body = e.body) (position : c.positions[e.position] = some y)
    (failed : o ∈ failures) (ban : List (Fin 128)) :
    ∃ c', ((s.endCore i o none ban).station e.station).current = some c'
      ∧ c'.positions = c.positions.set e.position (some { y with
          outcome := positionOutcome o, reported := none, shortfall := e.expected })
      ∧ ((s.station e.station).state ≠ .disabled → ((s.endCore i o none ban).station e.station).state = .held) := by
  obtain ⟨r, reason⟩ := blockingReason?_of_failure failed (s.station e.station).config.short
  have written := Slot.outcome_of_some position (s.station e.station).config.short o none
  rw [shortfallOf_of_failure failed, reason] at written
  have released := State.endCore_released he (by simp [supply]) weld current body o none ban
  obtain ⟨c', hc, _, positions, _⟩ := released.current rfl
  refine ⟨c', hc, positions.trans (congrArg Slot.positions written), fun enabled => ?_⟩
  rw [released.state]
  have on : (s.station e.station).enabled = true := (Station.enabled_iff _).mpr enabled
  refine Station.held_of_reason on rfl ?_
  rw [written]
  exact ReasonSet.isEmpty_enter _ _

theorem State.endCore_robot_failed (he : s.entry? i = some e) (supply : e.supply = .none) (weld : e.kind = .weld)
    (failed : o ∈ failures) (enabled : (s.robot e.robot).state ≠ .disabled) (ban : List (Fin 128)) :
    (s.endCore i o none ban).robot e.robot = { s.robot e.robot with state := .faulted } := by
  rw [State.endCore_robot_weld he (by simp [supply]) weld, robotAfter_of_failure weld failed enabled]

end

/-- The end of an entry, and that of its event: what has no part in the comparison of images stays. -/
theorem State.endCore_calm {s : State} {i : Fin 128} {o : EntryOutcome} {d : Option Nat} (queue : s.arq.queue = []) :
    (s.endCore i o d []).calm :=
  State.calm_of_queue (s.endCore_leads i o d []) queue

/-- The end of a WELD entry without a credit writes no supply group. -/
theorem State.endCore_leads_of_no_credit {s : State} {i : Fin 128} {e : Entry} (he : s.entry? i = some e)
    (supply : e.supply ≠ .holding) (o : EntryOutcome) (d : Option Nat) (ban : List (Fin 128)) :
    s.leads (s.endCore i o d ban) [.lif, .dtr, .rbc, .stc, .emu] := by
  rw [State.endCore_of_no_credit he supply]
  have handed : s.leads ((s.quieted i e).handOutcome e o d) [.lif, .dtr, .rbc, .stc, .emu] :=
    State.leads_seq (s.quieted_leads i e) (State.handOutcome_leads _ _ _ _) (by simp) (by simp)
  exact State.leads_seq (State.leads_seq handed (State.free_leads _ _ _) (n := [.lif, .dtr, .rbc, .stc, .emu]) (by simp)
    (by simp)) (State.setRobotState_leads _ _ _) (by simp) (by simp)

/-- Settles O52: the second failure ends the entry, and nothing is offered or allocated behind it. -/
theorem offerEnds : Obligations.OfferEnds := by
  intro s node tag i e slot y p v reason ready settled live used weld supply list busy queue current body position c o cause
  obtain ⟨out, failed, outcome, failure⟩ : ∃ out : EntryOutcome, out ∈ failures ∧ positionOutcome out = o
      ∧ ((c = .selEcho node tag p v reason ∧ ¬ (v = 1 ∧ p = e.program) ∧ out = .rejected)
        ∨ (c = .selectTimerExpiry i ∧ e.selectTimer = some 0 ∧ out = .expired)) := by
    rcases cause with ⟨here, wrong, rfl⟩ | ⟨here, due, rfl⟩
    · exact ⟨.rejected, by simp [failures], rfl, .inl ⟨here, wrong, rfl⟩⟩
    · exact ⟨.expired, by simp [failures], rfl, .inr ⟨here, due, rfl⟩⟩
  subst outcome
  obtain ⟨u, led, _, ran⟩ := exec_of_failed ready live failure
  have stc : u.stc = s.stc := led.1.2 .stc (by simp)
  have dtr : u.dtr = s.dtr := led.1.2 .dtr (by simp)
  have rbc : u.rbc = s.rbc := led.1.2 .rbc (by simp)
  have entry : u.entry? i = some e := (State.entry?_congr dtr i).trans live.1
  have ended : u.failOffer i e out = u.endCore i out none [] :=
    (if_pos used).trans (State.endEntry_of_alone entry ((State.list_congr dtr _).trans list) _ _)
  rw [ended] at ran
  set w := u.endCore i out none [] with hw
  have calm : w.calm := State.endCore_calm ((congrArg Arq.queue (led.1.2 .arq (by simp))).trans queue)
  have kept := (State.finish_keeps_of_calm calm).2
  have place (j : Fin 128) : w.finish.place j = if i = j then ⟨(s.place i).issue, none⟩ else s.place j := by
    rw [State.place_congr (kept .dtr (by simp)), hw, State.endCore_place entry (by simp [supply]), State.place_congr dtr,
      State.place_congr dtr]
  obtain ⟨slot', held, positions, state⟩ := State.endCore_failed (s := u) entry supply weld
    ((congrArg Station.current (State.station_congr stc _)).trans current) body position failed []
  have station : w.finish.station e.station = w.station e.station := State.station_congr (kept .stc (by simp)) _
  have all : s.begin.leads w [.lif, .dtr, .rbc, .stc, .emu] :=
    State.leads_seq led (State.endCore_leads_of_no_credit entry (by simp [supply]) out none []) (by simp) (by simp)
  refine ⟨_, slot', ran, (place i).trans (if_pos rfl), ?_, ?_, (congrArg Station.current station).trans held, positions,
    fun enabled => ?_, fun j other => (place j).trans (if_neg (Ne.symm other)), State.finish_keeps_of_leads all calm⟩
  · rw [State.list_congr (kept .dtr (by simp)), hw, State.endCore_list entry, if_pos rfl, State.list_congr dtr, list]
    simp
  · rw [State.robot_congr (kept .rbc (by simp)), hw, State.endCore_robot_failed entry supply weld failed,
      State.robot_congr rbc]
    rw [State.robot_congr rbc, busy]
    simp
  · rw [station]
    exact state (by rw [State.station_congr stc]; exact enabled)

/-! ## WELD_DONE (R83) -/

/-- An entry that stands with no supply group. -/
def Entry.unsupplied (e : Entry) : Entry := { e with supply := .none, holdTimer := none }

/-- What a WELD_DONE does ahead of the end of its entry: it counts, clears the entry's standing and raises the gun wear. -/
theorem State.weldDone_of_live {s : State} {node : Byte} {tag : Tag} {i : Fin 128} {e : Entry} {count : Half} {status : Byte}
    (live : s.live node tag i e [.selected, .welding]) (supply : e.supply ≠ .holding) :
    ∃ u, s.leads u [.emu, .lif, .dtr, .rbc] ∧ u.dtr = (s.setEntry i (some e.unsupplied)).dtr
      ∧ (∀ q, e.robot ≠ q → u.robot q = s.robot q) ∧ (u.robot e.robot).state = (s.robot e.robot).state
      ∧ (u.robot e.robot).maint = (s.robot e.robot).maint
      ∧ s.weldDone node tag count status = u.endEntry i
          (reportOutcome e.kind e.expected (clampReport count.toNat) (status != 0)) (some (clampReport count.toNat)) := by
  have named := State.named?_of_live live (fits := fun x => x == .selected || x == .welding) (by simp)
  simp only [State.weldDone, named]
  have first : ∃ v, s.leads v [.emu, .lif]
      ∧ (if Config.maxCount < count.toNat then s.count .clampedReports 1 (s.entryAttributes e) else s) = v := by
    split
    · exact ⟨_, s.count_leads _ _ _, rfl⟩
    · exact ⟨_, s.leads_refl _, rfl⟩
  obtain ⟨v, led, counted⟩ := first
  have entry : v.entry? i = some e := (State.entry?_congr (led.1.2 .dtr (by simp)) i).trans live.1
  rw [counted, State.releaseSupply_of_no_credit entry (fun h => absurd h supply)]
  set w := v.setEntry i (some e.unsupplied) with hw
  have folded : v.setEntry i (some { e with supply := .none, holdTimer := none }) = w := rfl
  rw [folded]
  set x := { w.robot e.robot with wear := addWear (w.robot e.robot).wear (clampReport count.toNat) } with hx
  have raised : s.leads (w.setRobot e.robot x) [.emu, .lif, .dtr, .rbc] :=
    State.leads_seq (State.leads_seq led (v.setEntry_leads i _) (n := [.emu, .lif, .dtr]) (by simp) (by simp))
      (State.setRobot_leads _ _ _) (by simp) (by simp)
  have robot (q : Fin 64) : w.robot q = s.robot q := State.robot_congr (led.1.2 .rbc (by simp)) q
  have after (q : Fin 64) (a : Attributes) : ((w.setRobot e.robot x).count .weldsReported (clampReport count.toNat) a).robot q
      = if e.robot = q then x else s.robot q := by
    rw [State.count_robot, State.robot_setRobot, robot]
  refine ⟨_, State.leads_seq raised (State.count_leads _ _ _ _) (by simp) (by simp), ?_,
    fun q other => (after q _).trans (if_neg other), ?_, ?_, rfl⟩
  · have dtr : v.dtr = s.dtr := led.1.2 .dtr (by simp)
    refine ((State.count_leads _ _ _ _).1.2 .dtr (by simp)).trans ?_
    rw [State.setRobot_dtr, hw, State.setEntry_eq_setPlace, State.setEntry_eq_setPlace, State.place_congr dtr]
    simp only [State.setPlace, dtr]
  · rw [after, if_pos rfl, hx, robot]
  · rw [after, if_pos rfl, hx, robot]

theorem shortfallOf_reportOutcome (expected d : Nat) (fault : Bool) :
    shortfallOf (reportOutcome .weld expected d fault) expected (some d) = expected - d := by
  unfold reportOutcome
  cases fault
  · by_cases same : d = expected
    · simp [shortfallOf, same]
    · by_cases below : d < expected
      · simp [shortfallOf, same, below]
      · simp only [shortfallOf, same, below, if_false, Bool.false_eq_true]
        omega
  · rfl

/-- The position outcome of a WELD report, with its cases as 1.8 has them. -/
theorem positionOutcome_reportOutcome (expected d : Nat) (status : Byte) :
    positionOutcome (reportOutcome .weld expected d (status != 0))
      = if status ≠ 0 then .robotFault else if d = expected then .done else if d < expected then .short else .excess := by
  by_cases fault : status = 0
  · subst fault
    unfold reportOutcome
    by_cases same : d = expected
    · simp [positionOutcome, same]
    · by_cases below : d < expected <;> simp [positionOutcome, same, below]
  · have raised : (status != 0) = true := bne_iff_ne.mpr fault
    rw [if_pos fault, raised]
    rfl

theorem robotAfter_reportOutcome (e : Entry) (d : Nat) (status : Byte) :
    robotAfter e (reportOutcome e.kind e.expected d (status != 0)) .busy
      = if e.kind = .weld ∧ status ≠ 0 then .faulted else .idle := by
  by_cases fault : status = 0
  · subst fault
    unfold reportOutcome
    cases e.kind
    · by_cases same : d = e.expected
      · simp [robotAfter, same]
      · by_cases below : d < e.expected <;> simp [robotAfter, same, below]
    · simp [robotAfter]
    · by_cases none : d = 0 <;> simp [robotAfter, none]
  · have raised : (status != 0) = true := bne_iff_ne.mpr fault
    rw [raised]
    cases kind : e.kind with
    | weld =>
      rw [if_pos ⟨rfl, fault⟩]
      simp [robotAfter, reportOutcome, kind]
    | dress => simp [robotAfter, reportOutcome]
    | maint => simp [robotAfter, reportOutcome, kind]

/-- Settles O57: the report ends its entry, and each kind hands its outcome to its own record. -/
theorem weldReported : Obligations.WeldReported := by
  intro s node tag i e count status d ready live supply list busy queue clamp
  obtain ⟨u, led, dtr, others, state, maint, ran⟩ :=
    State.weldDone_of_live (s := s.begin) (count := count) (status := status) live (by simp [supply])
  have clamped : clampReport count.toNat = d := clamp.symm
  rw [clamped] at ran
  set o := reportOutcome e.kind e.expected d (status != 0) with ho
  have entry : u.entry? i = some e.unsupplied := by
    rw [State.entry?_congr dtr, State.entry_setEntry, if_pos rfl]
  have unheld : e.unsupplied.supply ≠ .holding := by simp [Entry.unsupplied]
  have lists (q : Fin 64) : u.list q = s.list q := State.list_congr dtr q
  have places (j : Fin 128) (other : i ≠ j) : u.place j = s.place j := by
    rw [State.place_congr dtr, State.place_setEntry, if_neg other]
    rfl
  have issue : (u.place i).issue = (s.place i).issue := by
    rw [State.place_congr dtr, State.place_setEntry, if_pos rfl]
    rfl
  rw [State.endEntry_of_alone entry ((lists _).trans list)] at ran
  set w := u.endCore i o (some d) [] with hw
  have calm : w.calm := State.endCore_calm ((congrArg Arq.queue (led.1.2 .arq (by simp))).trans queue)
  have kept := (State.finish_keeps_of_calm calm).2
  have all : s.begin.leads w [.lif, .dtr, .rbc, .stc, .emu] :=
    State.leads_seq led (State.endCore_leads_of_no_credit entry unheld o (some d) []) (by simp) (by simp)
  have place (j : Fin 128) : w.finish.place j = if i = j then ⟨(s.place i).issue, none⟩ else s.place j := by
    rw [State.place_congr (kept .dtr (by simp)), hw, State.endCore_place entry unheld, issue]
    split
    · rfl
    · next other => exact places j other
  have left (q : Fin 64) : w.finish.list q = if e.robot = q then (s.list q).filter (· != i) else s.list q := by
    rw [State.list_congr (kept .dtr (by simp)), hw, State.endCore_list entry, lists]
    rfl
  have robot (q : Fin 64) : w.finish.robot q = w.robot q := State.robot_congr (kept .rbc (by simp)) q
  have record : (w.robot e.robot).maint
      = if e.kind = .maint then some ⟨o, e.program, some d⟩ else (s.robot e.robot).maint := by
    have m := State.endCore_robot_maint entry unheld o (some d) []
    have before : (u.robot e.robot).maint = (s.robot e.robot).maint := maint
    rw [hw, ← before]
    exact m
  refine ⟨w.finish, congrArg Host.Outcome.next ((State.telegram_of_ready ready _).trans (congrArg State.finish ran)),
    (place i).trans (if_pos rfl), fun j other => (place j).trans (if_neg (Ne.symm other)), ?_, ?_, fun q other => ⟨?_, ?_⟩,
    fun kind => ?_, fun kind => ?_, fun kind => ?_, fun weld slot y current body position => ?_,
    State.finish_keeps_of_leads all calm⟩
  · rw [left, if_pos rfl, list]
    simp
  · have after := State.endCore_robot_state entry unheld o (some d) []
    rw [robot, hw]
    refine after.trans ((congrArg (robotAfter e.unsupplied o) (state.trans busy)).trans ?_)
    exact robotAfter_reportOutcome e d status
  · rw [robot, hw, State.endCore_robot_other entry unheld _ _ _ (by exact Ne.symm other), others q (Ne.symm other)]
    rfl
  · rw [left, if_neg (Ne.symm other)]
  · rw [robot, record, if_neg kind]
  · have handed := (State.handOutcome_stc (u.quieted i e.unsupplied) (e := e.unsupplied) kind o (some d))
    have stc : w.stc = u.stc := (State.endCore_stc entry unheld o (some d) []).trans handed
    have first : u.stc = s.stc := led.1.2 .stc (by simp)
    exact (show w.finish.stc = w.stc from kept .stc (by simp)).trans (stc.trans first)
  · rw [robot, record, if_pos kind, ho, kind]
    by_cases fault : status = 0
    · subst fault
      rfl
    · simp [reportOutcome]
  · have before : u.station e.station = s.station e.station := State.station_congr (led.1.2 .stc (by simp)) _
    have released := State.endCore_released (s := u) entry unheld weld
      ((congrArg Station.current before).trans current) body o (some d) []
    obtain ⟨c', hc, same, positions, _⟩ := released.current rfl
    have written := Slot.outcome_of_some (e := e.unsupplied) position (u.station e.station).config.short o (some d)
    refine ⟨c', (congrArg Station.current (State.station_congr (kept .stc (by simp)) _)).trans hc,
      same.trans (Slot.outcome_body _ _ _ _ _), positions.trans ((congrArg Slot.positions written).trans ?_)⟩
    have outcome := positionOutcome_reportOutcome e.expected d status
    have short := shortfallOf_reportOutcome e.expected d (status != 0)
    rw [ho, weld]
    change slot.positions.set e.position (some { y with
      outcome := positionOutcome (reportOutcome .weld e.expected d (status != 0)), reported := some d
      shortfall := shortfallOf (reportOutcome .weld e.expected d (status != 0)) e.expected (some d) }) = _
    rw [outcome, short]

end Sys2Proof.Machine
end

section
/-! The expiry of a hold timer (the statement O58). -/

namespace Sys2Proof.Machine

section
variable {s : State} {i : Fin 128} {e : Entry}

/-- An entry that holds a credit of a group without waiters gives it back, and nobody takes it. -/
theorem State.releaseSupply_of_idle_group (he : s.entry? i = some e) (holding : e.supply = .holding)
    (idle : ∀ g : Fin 8, ((s.robot e.robot).group : Nat) = g + 1 → s.waiters g = []) :
    s.releaseSupply i [] = s.setEntry i (some e.unsupplied) := by
  cases group : s.groupOf? e with
  | none => exact State.releaseSupply_of_no_credit he (fun _ => group) []
  | some g =>
    have waiters := State.waiters_setEntry_of_none (x := e.unsupplied) he (by simp [holding]) (by simp [Entry.unsupplied]) g
    rw [State.releaseSupply_of_group he holding group]
    exact State.handOn_of_no_waiters (waiters.trans (idle g (groupPlace?_eq_some.mp group))) []

theorem State.holdExpiry_of_due (he : s.entry? i = some e) (due : e.holdTimer = some 0) (holding : e.supply = .holding) :
    s.holdExpiry i = (((s.issueToRobot e.robot (.weldGrant · (s.tag i) true)).releaseSupply i []).deviceEvent .supplyReclaimed
      ⟨some e.station, some e.robot, e.bodyAttr⟩).endEntry i .supplyHold none := by
  simp only [State.holdExpiry, he]
  exact if_pos ⟨due, holding⟩

/-- A WELD entry that ends SUPPLY_HOLD sets no device event. -/
theorem State.endCore_deviceStatus (he : s.entry? i = some e) (supply : e.supply ≠ .holding) (weld : e.kind = .weld)
    (ban : List (Fin 128)) (n : Fin 8) : (s.endCore i .supplyHold none ban).deviceStatus n = s.deviceStatus n := by
  have handed : (s.quieted i e).handOutcome e .supplyHold none = (s.quieted i e).writeOutcome e .supplyHold none := by
    rw [State.handOutcome, weld]
    rfl
  rw [State.endCore_of_no_credit he supply, State.setRobotState_deviceStatus,
    State.deviceStatus_congr ((State.free_leads _ _ _).1.2 .emu (by simp)), handed, State.writeOutcome_deviceStatus]
  rfl

end

/-- Settles O58: the revoke leaves first, the event is set, and the entry ends with its robot FAULTED. -/
theorem holdExpired : Obligations.HoldExpired := by
  intro s i e slot y ready settled he due holding weld list busy queue idle current body position
  set a := s.begin.issueToRobot e.robot (.weldGrant · (s.tag i) true) with ha
  have issued : s.begin.leads a [.lif] := s.begin.issueToRobot_leads _ _
  have entryA : a.entry? i = some e := (State.entry?_congr (issued.1.2 .dtr (by simp)) i).trans he
  have robotA (q : Fin 64) : a.robot q = s.robot q := State.robot_congr (issued.1.2 .rbc (by simp)) q
  set u := (a.setEntry i (some e.unsupplied)).deviceEvent .supplyReclaimed ⟨some e.station, some e.robot, e.bodyAttr⟩
    with hu
  have waiters (g : Fin 8) : a.waiters g = s.waiters g := by
    unfold State.waiters State.standsIn State.groupOf?
    simp only [State.entry?_congr (t := a) (s := s) (issued.1.2 .dtr (by simp)), robotA]
  have ran : s.begin.holdExpiry i = u.endEntry i .supplyHold none := by
    refine (State.holdExpiry_of_due (s := s.begin) he due holding).trans ?_
    have freed : a.releaseSupply i [] = a.setEntry i (some e.unsupplied) :=
      State.releaseSupply_of_idle_group entryA holding fun g hg => (waiters g).trans (idle g (robotA _ ▸ hg))
    exact congrArg (fun x : State => (x.deviceEvent .supplyReclaimed ⟨some e.station, some e.robot, e.bodyAttr⟩).endEntry i
      .supplyHold none) freed
  have led : s.begin.leads u [.lif, .dtr, .emu] :=
    State.leads_seq (State.leads_seq issued (a.setEntry_leads i _) (n := [.lif, .dtr]) (by simp) (by simp))
      (State.deviceEvent_leads _ _ _) (by simp) (by simp)
  have dtr : u.dtr = (a.setEntry i (some e.unsupplied)).dtr := (State.deviceEvent_leads _ _ _).1.2 .dtr (by simp)
  have entry : u.entry? i = some e.unsupplied := by
    rw [State.entry?_congr dtr, State.entry_setEntry, if_pos rfl]
  have place (j : Fin 128) : u.place j = if i = j then ⟨(s.place i).issue, some e.unsupplied⟩ else s.place j := by
    have before (k : Fin 128) : a.place k = s.place k := State.place_congr (issued.1.2 .dtr (by simp)) k
    rw [State.place_congr dtr, State.place_setEntry, before, before]
  have lists (q : Fin 64) : u.list q = s.list q := by
    have before : a.list q = s.list q := State.list_congr (issued.1.2 .dtr (by simp)) q
    rw [State.list_congr dtr, State.list_setEntry, before]
  have robot (q : Fin 64) : u.robot q = s.robot q := State.robot_congr (led.1.2 .rbc (by simp)) q
  have station : u.station e.station = s.station e.station := State.station_congr (led.1.2 .stc (by simp)) _
  have failed : EntryOutcome.supplyHold ∈ failures := by simp [failures]
  rw [State.endEntry_of_alone entry ((lists _).trans list)] at ran
  set w := u.endCore i .supplyHold none [] with hw
  have ended := State.endCore_leads_of_no_credit entry (by simp [Entry.unsupplied]) .supplyHold none []
  have calm : w.calm := State.endCore_calm ((congrArg Arq.queue (led.1.2 .arq (by simp))).trans queue)
  have kept := (State.finish_keeps_of_calm calm).2
  have all : s.begin.leads w [.lif, .dtr, .rbc, .stc, .emu] := State.leads_seq led ended (by simp) (by simp)
  have left (j : Fin 128) : w.finish.place j = if i = j then ⟨(s.place i).issue, none⟩ else s.place j := by
    rw [State.place_congr (kept .dtr (by simp)), hw, State.endCore_place entry (by simp [Entry.unsupplied]), place, place,
      if_pos rfl]
    split <;> rfl
  obtain ⟨slot', held, positions, _⟩ := State.endCore_failed (s := u) entry rfl weld
    ((congrArg Station.current station).trans current) body position failed []
  refine ⟨w.finish, slot', congrArg Host.Outcome.next ((State.event_of_ready ready _).trans (congrArg State.finish ran)), ?_,
    ?_, (left i).trans (if_pos rfl), fun j other => (left j).trans (if_neg (Ne.symm other)), ?_, ?_,
    (congrArg Station.current (State.station_congr (kept .stc (by simp)) _)).trans held, positions,
    State.finish_keeps_of_leads all calm⟩
  · have first : a.issued = [.weldGrant (s.robot e.robot).node (s.tag i) true] := by
      rw [ha, State.issueToRobot, State.issue_issued (s := s.begin) (s.ready_iff.mp ready).2]
      rfl
    have prefixed : a.issued <+: w.finish.issued :=
      ((State.deviceEvent_leads (a.setEntry i (some e.unsupplied)) _ _).2.1.trans ended.2.1).trans (State.finish_issued _)
    exact head?_of_prefix (first ▸ prefixed)
  · rw [State.deviceStatus_congr (kept .emu (by simp)), hw,
      State.endCore_deviceStatus entry (by simp [Entry.unsupplied]) weld]
    exact State.deviceEvent_set _ .supplyReclaimed _
  · rw [State.list_congr (kept .dtr (by simp)), hw, State.endCore_list entry, lists]
    exact (if_pos rfl).trans (by rw [list]; simp)
  · have enabled : (u.robot e.unsupplied.robot).state ≠ .disabled := by
      rw [robot]
      exact fun off => RobotState.noConfusion (busy.symm.trans off)
    have after := State.endCore_robot_failed entry rfl weld failed enabled []
    rw [State.robot_congr (kept .rbc (by simp)), hw]
    exact after.trans (congrArg (fun x : Robot => { x with state := .faulted }) (robot _))

end Sys2Proof.Machine
end

section
/-! Disabling a robot (the statement O23). -/

namespace Sys2Proof.Machine

/-! ## The entries of a robot that is disabled (R88) -/

/-- An index that the disabling of a robot meets: an entry of the robot without a standing, or an index freed already. -/
def State.Bypassable (s : State) (r : Fin 64) (j : Fin 128) : Prop :=
  (∃ e, s.entry? j = some e ∧ e.robot = r ∧ e.supply = .none) ∨ (s.entry? j = none ∧ j ∉ s.list r)

section
variable {s : State} {r : Fin 64} {i : Fin 128}

theorem robotAfter_bypassed (e : Entry) (x : RobotState) : robotAfter e .bypassed x = x := by
  unfold robotAfter
  split
  · next off => exact off.symm
  · rfl

theorem State.bypassEntry_of_none (h : s.entry? i = none) : State.bypassEntry i s = s := by
  simp only [State.bypassEntry, h]

theorem State.bypassEntry_of_weld {e : Entry} (h : s.entry? i = some e) (weld : e.kind = .weld) :
    State.bypassEntry i s = s.endCore i .bypassed none [] := by
  simp only [State.bypassEntry, h, weld, if_true]

theorem State.bypassEntry_of_other {e : Entry} (h : s.entry? i = some e) (kind : e.kind ≠ .weld) :
    State.bypassEntry i s = s.free i e.robot := by
  simp only [State.bypassEntry, h, kind, if_false]

theorem State.bypassEntry_leads_of (h : s.Bypassable r i) : s.leads (State.bypassEntry i s) [.lif, .dtr, .rbc, .stc, .emu] := by
  rcases h with ⟨e, he, _, supply⟩ | ⟨free, _⟩
  · by_cases weld : e.kind = .weld
    · rw [State.bypassEntry_of_weld he weld]
      exact State.endCore_leads_of_no_credit he (by simp [supply]) _ _ _
    · rw [State.bypassEntry_of_other he weld]
      exact State.leads_mono (s.free_leads i _) (by simp)
  · rw [State.bypassEntry_of_none free]
    exact s.leads_refl _

theorem State.bypassEntry_robot (h : s.Bypassable r i) (q : Fin 64) : (State.bypassEntry i s).robot q = s.robot q := by
  rcases h with ⟨e, he, _, supply⟩ | ⟨free, _⟩
  · by_cases weld : e.kind = .weld
    · rw [State.bypassEntry_of_weld he weld]
      by_cases here : e.robot = q
      · subst here
        rw [State.endCore_robot_weld he (by simp [supply]) weld, robotAfter_bypassed]
      · exact State.endCore_robot_other he (by simp [supply]) _ _ _ here
    · rw [State.bypassEntry_of_other he weld]
      exact State.robot_congr ((s.free_leads _ _).1.2 .rbc (by simp)) q
  · rw [State.bypassEntry_of_none free]

theorem State.bypassEntry_place (h : s.Bypassable r i) (j : Fin 128) :
    (State.bypassEntry i s).place j = if i = j then ⟨(s.place i).issue, none⟩ else s.place j := by
  rcases h with ⟨e, he, _, supply⟩ | ⟨free, _⟩
  · by_cases weld : e.kind = .weld
    · rw [State.bypassEntry_of_weld he weld]
      exact State.endCore_place he (by simp [supply]) _ _ _ j
    · rw [State.bypassEntry_of_other he weld]
      exact s.free_place i j _
  · rw [State.bypassEntry_of_none free]
    split
    · next here =>
      subst here
      exact congrArg (Place.mk _) free
    · rfl

theorem State.bypassEntry_list_of (h : s.Bypassable r i) (q : Fin 64) :
    (State.bypassEntry i s).list q = if r = q then (s.list q).filter (· != i) else s.list q := by
  rcases h with ⟨e, he, rfl, _⟩ | ⟨free, out⟩
  · exact State.bypassEntry_list he q
  · rw [State.bypassEntry_of_none free]
    split
    · next here =>
      subst here
      have absent (j : Fin 128) (hj : j ∈ s.list r) : (j != i) = true := by
        rw [bne_iff_ne]
        exact fun same => out (same ▸ hj)
      exact (List.filter_eq_self.mpr absent).symm
    · rfl

theorem State.Bypassable.step (h : s.Bypassable r i) {j : Fin 128} (k : s.Bypassable r j) :
    (State.bypassEntry i s).Bypassable r j := by
  have place := State.bypassEntry_place h j
  have list := State.bypassEntry_list_of h r
  rw [if_pos rfl] at list
  by_cases here : i = j
  · subst here
    rw [if_pos rfl] at place
    refine .inr ⟨congrArg Place.entry place, ?_⟩
    rw [list]
    simp
  · rw [if_neg here] at place
    have entry : (State.bypassEntry i s).entry? j = s.entry? j := congrArg Place.entry place
    rcases k with ⟨e, he, robot, supply⟩ | ⟨free, out⟩
    · exact .inl ⟨e, entry.trans he, robot, supply⟩
    · refine .inr ⟨entry.trans free, ?_⟩
      rw [list]
      exact fun mem => out (List.mem_of_mem_filter mem)

/-- What the disabling of a robot leaves of the tracker, the lists and the robots. -/
theorem State.bypassed_of (r : Fin 64) : ∀ (l : List (Fin 128)) (s : State), (∀ j ∈ l, s.Bypassable r j) →
    s.leads (forAll l State.bypassEntry s) [.lif, .dtr, .rbc, .stc, .emu]
    ∧ (∀ q, (forAll l State.bypassEntry s).robot q = s.robot q)
    ∧ (∀ j, (forAll l State.bypassEntry s).place j = if j ∈ l then ⟨(s.place j).issue, none⟩ else s.place j)
    ∧ ∀ q, (forAll l State.bypassEntry s).list q = if r = q then (s.list q).filter (· ∉ l) else s.list q
  | [], s, _ => ⟨s.leads_refl _, fun _ => rfl, fun _ => rfl, fun q => by simp [forAll]⟩
  | i :: l, s, h => by
    have here := h i List.mem_cons_self
    obtain ⟨led, robot, place, list⟩ := State.bypassed_of r l (State.bypassEntry i s)
      fun j hj => here.step (h j (List.mem_cons_of_mem _ hj))
    rw [forAll_cons]
    refine ⟨State.leads_trans (State.bypassEntry_leads_of here) led,
      fun q => (robot q).trans (State.bypassEntry_robot here q), fun j => ?_, fun q => ?_⟩
    · rw [place, State.bypassEntry_place here]
      by_cases same : i = j
      · subst same
        simp
      · simp [same, Ne.symm same]
    · rw [list, State.bypassEntry_list_of here]
      split
      · rw [List.filter_filter]
        refine List.filter_congr fun j _ => ?_
        by_cases same : j = i <;> simp [same]
      · rfl

end

/-! ## A slot that the end of another entry spares (R84) -/

/-- A slot keeps its body and one position; its reasons only grow by BYPASSED, and under PASS not at all. -/
structure Slot.Spared (policy : Policy) (p : Fin 8) (c d : Slot) : Prop where
  body : d.body = c.body
  position : d.positions[p] = c.positions[p]
  pass : policy = .pass → d.reasons = c.reasons
  grows : c.reasons.bypassed = true → d.reasons.bypassed = true

/-- A station keeps its configuration, the bodies of its slots, and one position of the slot that holds a body. -/
structure Station.Spared (w : Word) (p : Fin 8) (x y : Station) : Prop where
  config : y.config = x.config
  enabled : y.enabled = x.enabled
  absent : x.current = none → y.current = none
  body : ∀ c, x.current = some c → ∃ d, y.current = some d ∧ d.body = c.body
  current : ∀ c, x.current = some c → c.body = w → ∃ d, y.current = some d ∧ c.Spared x.config.short p d
  next : (∀ c, x.current = some c → c.body ≠ w) → ∀ n, x.next = some n → n.body = w →
    ∃ m, y.next = some m ∧ n.Spared x.config.short p m

theorem Slot.Spared.refl (policy : Policy) (p : Fin 8) (c : Slot) : c.Spared policy p c := ⟨rfl, rfl, fun _ => rfl, id⟩

theorem Slot.Spared.trans {policy : Policy} {p : Fin 8} {c d f : Slot} (h : c.Spared policy p d) (k : d.Spared policy p f) :
    c.Spared policy p f :=
  ⟨k.body.trans h.body, k.position.trans h.position, fun x => (k.pass x).trans (h.pass x), fun x => k.grows (h.grows x)⟩

section
variable {w : Word} {p : Fin 8} {x y z : Station}

theorem Station.Spared.refl (w : Word) (p : Fin 8) (x : Station) : x.Spared w p x where
  config := rfl
  enabled := rfl
  absent := id
  body c h := ⟨c, h, rfl⟩
  current c h _ := ⟨c, h, .refl _ _ _⟩
  next _ n h _ := ⟨n, h, .refl _ _ _⟩

/-- The body of the CURRENT slot stays another one. -/
theorem Station.Spared.other (h : x.Spared w p y) (other : ∀ c, x.current = some c → c.body ≠ w) :
    ∀ d, y.current = some d → d.body ≠ w := by
  intro d hd
  cases hx : x.current with
  | none => rw [h.absent hx] at hd; cases hd
  | some c =>
    obtain ⟨d', hd', same⟩ := h.body c hx
    rw [hd'] at hd
    cases hd
    rw [same]
    exact other c hx

theorem Station.Spared.trans (h : x.Spared w p y) (k : y.Spared w p z) : x.Spared w p z where
  config := k.config.trans h.config
  enabled := k.enabled.trans h.enabled
  absent none := k.absent (h.absent none)
  body c hc := by
    obtain ⟨d, hd, same⟩ := h.body c hc
    obtain ⟨f, hf, then_⟩ := k.body d hd
    exact ⟨f, hf, then_.trans same⟩
  current c hc hw := by
    obtain ⟨d, hd, first⟩ := h.current c hc hw
    obtain ⟨f, hf, second⟩ := k.current d hd (first.body.trans hw)
    exact ⟨f, hf, first.trans (h.config ▸ second)⟩
  next other n hn hw := by
    obtain ⟨m, hm, first⟩ := h.next other n hn hw
    obtain ⟨l, hl, second⟩ := k.next (h.other other) m hm (first.body.trans hw)
    exact ⟨l, hl, first.trans (h.config ▸ second)⟩

theorem Station.Released.spared (h : x.Released y) (w : Word) (p : Fin 8) : x.Spared w p y := by
  rcases h with rfl | ⟨c, current, rfl⟩
  · exact .refl _ _ _
  · refine ⟨rfl, rfl, fun h => ?_, fun d hd => ?_, fun d hd _ => ?_, fun _ n hn _ => ⟨n, hn, .refl _ _ _⟩⟩
    · rw [current] at h; cases h
    · rw [current] at hd; cases hd; exact ⟨_, rfl, rfl⟩
    · rw [current] at hd; cases hd; exact ⟨_, rfl, rfl, rfl, fun _ => rfl, id⟩

/-- A slot of another entry's outcome: only the entry's own position is written. -/
theorem Slot.outcome_spared (c : Slot) (policy : Policy) {e : Entry} (other : e.position ≠ p) :
    c.Spared policy p (c.outcome policy e .bypassed none) := by
  cases position : c.positions[e.position] with
  | none =>
    have same : c.outcome policy e .bypassed none = c := by simp only [Slot.outcome, Slot.write, position]
    rw [same]
    exact .refl _ _ _
  | some y =>
    rw [Slot.outcome_of_some position]
    refine ⟨rfl, ?_, fun pass => ?_, fun set => ?_⟩
    · have apart : (e.position : Nat) ≠ p := fun h => other (Fin.ext h)
      simp [apart]
    · subst pass
      rfl
    · cases policy
      · rfl
      · exact set

end

/-- The end of an entry that is not the one of this position spares it. -/
theorem State.bypassEntry_spared {s : State} {i : Fin 128} {st : Fin 16} {w : Word} {p : Fin 8}
    (h : ∀ e, s.entry? i = some e → e.supply = .none
      ∧ ¬ (e.kind = .weld ∧ e.station = st ∧ e.body = w ∧ e.position = p)) :
    (s.station st).Spared w p ((State.bypassEntry i s).station st) := by
  cases he : s.entry? i with
  | none =>
    rw [State.bypassEntry_of_none he]
    exact .refl _ _ _
  | some e =>
    obtain ⟨supply, miss⟩ := h e he
    by_cases weld : e.kind = .weld
    case neg =>
      rw [State.bypassEntry_of_other he weld, State.station_congr ((s.free_leads _ _).1.2 .stc (by simp))]
      exact .refl _ _ _
    obtain ⟨u, led, written⟩ := State.endCore_stc_weld he (by simp [supply]) weld .bypassed none []
    have before := State.station_congr (led.1.2 .stc (by simp)) st
    rw [State.bypassEntry_of_weld he weld, State.station_congr written, ← before]
    by_cases here : e.station = st
    case neg =>
      rw [State.writeOutcome_other u e _ _ here]
      exact .refl _ _ _
    subst here
    cases owned : (u.station e.station).current.any (fun c => decide (c.body = e.body)) with
    | true =>
      obtain ⟨c, current, body⟩ := (Option.any_eq_true _ _).mp owned
      have body := of_decide_eq_true body
      refine Station.Spared.trans ?_ ((State.writeOutcome_released current body .bypassed none).spared w p)
      refine ⟨rfl, rfl, fun absent => ?_, fun d hd => ?_, fun d hd hw => ?_, fun other n hn _ => ⟨n, hn, .refl _ _ _⟩⟩
      · rw [current] at absent; cases absent
      · rw [current] at hd; cases hd
        exact ⟨_, rfl, Slot.outcome_body _ _ _ _ _⟩
      · rw [current] at hd; cases hd
        exact ⟨_, rfl, Slot.outcome_spared _ _ fun same => miss ⟨weld, rfl, body.symm.trans hw, same⟩⟩
    | false =>
      cases waiting : (u.station e.station).next.any (fun c => decide (c.body = e.body)) with
      | true =>
        obtain ⟨n, next, body⟩ := (Option.any_eq_true _ _).mp waiting
        have body := of_decide_eq_true body
        rw [State.writeOutcome_of_next owned next body, State.updateStation_station, if_pos rfl]
        refine ⟨rfl, rfl, id, fun c hc => ⟨c, hc, rfl⟩, fun c hc _ => ⟨c, hc, .refl _ _ _⟩, fun _ m hm hw => ?_⟩
        rw [next] at hm; cases hm
        exact ⟨_, rfl, Slot.outcome_spared _ _ fun same => miss ⟨weld, rfl, body.symm.trans hw, same⟩⟩
      | false =>
        have nothing : u.writeOutcome e .bypassed none = u := by
          simp only [State.writeOutcome, owned, waiting, Bool.false_eq_true, if_false]
        rw [nothing]
        exact .refl _ _ _

/-- Entries that are not of this position spare it, one after another. -/
theorem State.bypassed_spared {r : Fin 64} {st : Fin 16} {w : Word} {p : Fin 8} : ∀ (l : List (Fin 128)) (s : State),
    (∀ j ∈ l, s.Bypassable r j) → (∀ j ∈ l, ∀ e, s.entry? j = some e →
      ¬ (e.kind = .weld ∧ e.station = st ∧ e.body = w ∧ e.position = p)) →
    (s.station st).Spared w p ((forAll l State.bypassEntry s).station st)
  | [], _, _, _ => .refl _ _ _
  | i :: l, s, h, miss => by
    have here := h i List.mem_cons_self
    refine Station.Spared.trans (State.bypassEntry_spared fun e he => ⟨?_, miss i List.mem_cons_self e he⟩)
      (State.bypassed_spared l _ (fun j hj => here.step (h j (List.mem_cons_of_mem _ hj))) fun j hj e he => ?_)
    · rcases here with ⟨x, hx, _, supply⟩ | ⟨free, _⟩
      · rw [hx] at he; cases he; exact supply
      · rw [free] at he; cases he
    · rw [State.entry?, State.bypassEntry_place here] at he
      split at he
      · cases he
      · exact miss j (List.mem_cons_of_mem _ hj) e he

theorem State.bypassed_bypassable {r : Fin 64} {i : Fin 128} : ∀ (l : List (Fin 128)) (s : State),
    (∀ j ∈ l, s.Bypassable r j) → s.Bypassable r i → (forAll l State.bypassEntry s).Bypassable r i
  | [], _, _, hi => hi
  | j :: l, _, h, hi => State.bypassed_bypassable l _
      (fun k hk => (h j List.mem_cons_self).step (h k (List.mem_cons_of_mem _ hk))) ((h j List.mem_cons_self).step hi)

/-- An entry of a disabled robot ends in its turn; the others spare its position before and behind it. -/
theorem State.bypassed_turn {r : Fin 64} {l : List (Fin 128)} {s : State} {i : Fin 128} {e : Entry}
    (h : ∀ j ∈ l, s.Bypassable r j) (mem : i ∈ l) (he : s.entry? i = some e)
    (only : ∀ j ∈ l, ∀ x, s.entry? j = some x →
      x.kind = .weld ∧ x.station = e.station ∧ x.body = e.body ∧ x.position = e.position → j = i) :
    ∃ a : State, a.entry? i = some e
      ∧ (s.station e.station).Spared e.body e.position (a.station e.station)
      ∧ ((State.bypassEntry i a).station e.station).Spared e.body e.position
        ((forAll l State.bypassEntry s).station e.station) := by
  obtain ⟨before, after, rfl, fresh⟩ := List.eq_append_cons_of_mem mem
  have first : ∀ j ∈ before, s.Bypassable r j := fun j hj => h j (List.mem_append_left _ hj)
  obtain ⟨_, _, place, list⟩ := State.bypassed_of r before s first
  have stays (j : Fin 128) (hj : s.Bypassable r j) : (forAll before State.bypassEntry s).Bypassable r j :=
    State.bypassed_bypassable before s first hj
  refine ⟨forAll before State.bypassEntry s, ?_, State.bypassed_spared before s first fun j hj x hx hit => ?_, ?_⟩
  · rw [State.entry?, place, if_neg fresh]
    exact he
  · exact fresh (only j (List.mem_append_left _ hj) x hx hit ▸ hj)
  · have turn := stays i (h i (by simp))
    rw [forAll_append, forAll_cons]
    refine State.bypassed_spared after _ (fun j hj => turn.step (stays j (h j (by simp [hj])))) fun j hj x hx hit => ?_
    rw [State.entry?, State.bypassEntry_place turn] at hx
    split at hx
    · cases hx
    · next other =>
      rw [place] at hx
      split at hx
      · cases hx
      · exact other (only j (by simp [hj]) x hx hit).symm

/-! ## The position of a bypassed entry (R84, R88) -/

/-- A position as the disabling of its robot leaves it. -/
def Position.bypass (y : Position) (expected : Nat) : Position :=
  { y with outcome := .bypassed, reported := none, shortfall := expected }

/-- A slot with a position bypassed: under HOLD the reason is entered, under PASS none is. -/
structure Slot.Bypassed (policy : Policy) (e : Entry) (y : Position) (c d : Slot) : Prop where
  body : d.body = c.body
  position : d.positions[e.position] = some (y.bypass e.expected)
  hold : policy = .hold → d.reasons.bypassed = true
  pass : policy = .pass → d.reasons = c.reasons

theorem Slot.outcome_bypassed {c : Slot} {e : Entry} {y : Position} (h : c.positions[e.position] = some y)
    (policy : Policy) : c.Bypassed policy e y (c.outcome policy e .bypassed none) := by
  rw [Slot.outcome_of_some h]
  refine ⟨rfl, ?_, fun hold => ?_, fun pass => ?_⟩
  · simp [Position.bypass, positionOutcome, shortfallOf]
  · subst hold
    rfl
  · subst pass
    rfl

theorem Slot.Bypassed.spared {policy : Policy} {e : Entry} {y : Position} {c d f : Slot} (h : c.Bypassed policy e y d)
    (k : d.Spared policy e.position f) : c.Bypassed policy e y f :=
  ⟨k.body.trans h.body, k.position.trans h.position, fun x => k.grows (h.hold x), fun x => (k.pass x).trans (h.pass x)⟩

theorem Slot.Spared.bypassed {policy : Policy} {e : Entry} {y : Position} {c d f : Slot}
    (h : c.Spared policy e.position d) (k : d.Bypassed policy e y f) : c.Bypassed policy e y f :=
  ⟨k.body.trans h.body, k.position, k.hold, fun x => (k.pass x).trans (h.pass x)⟩

section
variable {s : State} {i : Fin 128} {e : Entry} {c : Slot} {y : Position}

theorem State.bypassEntry_current (he : s.entry? i = some e) (supply : e.supply = .none) (weld : e.kind = .weld)
    (current : (s.station e.station).current = some c) (body : c.body = e.body) (position : c.positions[e.position] = some y) :
    ∃ d, ((State.bypassEntry i s).station e.station).current = some d ∧ c.Bypassed (s.station e.station).config.short e y d
      ∧ ((State.bypassEntry i s).station e.station).config = (s.station e.station).config
      ∧ ((State.bypassEntry i s).station e.station).enabled = (s.station e.station).enabled := by
  have released := State.endCore_released he (by simp [supply]) weld current body .bypassed none []
  have spared := released.spared e.body e.position
  rw [State.bypassEntry_of_weld he weld]
  obtain ⟨d, hd, kept⟩ := spared.current _ rfl ((Slot.outcome_body _ _ _ _ _).trans body)
  exact ⟨d, hd, (Slot.outcome_bypassed position _).spared kept, spared.config, spared.enabled⟩

theorem State.bypassEntry_next (he : s.entry? i = some e) (supply : e.supply = .none) (weld : e.kind = .weld)
    (other : ∀ d, (s.station e.station).current = some d → d.body ≠ e.body)
    (next : (s.station e.station).next = some c) (body : c.body = e.body) (position : c.positions[e.position] = some y) :
    ∃ d, ((State.bypassEntry i s).station e.station).next = some d ∧ c.Bypassed (s.station e.station).config.short e y d
      ∧ ((State.bypassEntry i s).station e.station).config = (s.station e.station).config
      ∧ ((State.bypassEntry i s).station e.station).current = (s.station e.station).current := by
  obtain ⟨u, led, written⟩ := State.endCore_stc_weld he (by simp [supply]) weld .bypassed none []
  have before := State.station_congr (led.1.2 .stc (by simp)) e.station
  have missed : (u.station e.station).current.any (fun x => decide (x.body = e.body)) = false := by
    refine Bool.eq_false_iff.mpr fun own => ?_
    obtain ⟨d, hd, same⟩ := (Option.any_eq_true _ _).mp own
    exact other d (before ▸ hd) (of_decide_eq_true same)
  rw [State.bypassEntry_of_weld he weld, State.station_congr written,
    State.writeOutcome_of_next missed (before ▸ next) body, State.updateStation_station, if_pos rfl, before]
  exact ⟨_, rfl, Slot.outcome_bypassed position _, rfl, rfl⟩

end

theorem State.robotDisable_of_fields {b : Byte} {r : Fin 64} (h : b.toNat = r) (u : State) :
    ((u.robot r).state = .disabled → u.robotDisable b = (u, .ok))
    ∧ ((u.robot r).state = .busy → u.robotDisable b = (u, .state))
    ∧ (((u.robot r).state = .idle ∨ (u.robot r).state = .faulted) →
      u.robotDisable b = ((forAll (u.list r) State.bypassEntry u).setRobotState r .disabled, .ok)) := by
  simp only [State.robotDisable, below?_of_eq h]
  refine ⟨fun off => ?_, fun busy => ?_, fun free => ?_⟩
  · rw [off]
  · rw [busy]
  · rcases free with idle | faulted
    · rw [idle]
    · rw [faulted]

/-- Settles O23: the entries of the list end one after another, each writing the position of its own; no robot changes but
the one that becomes DISABLED. -/
theorem robotDisabled : Obligations.RobotDisabled := by
  intro s f b quiet
  obtain ⟨_, empty, _⟩ := s.quiet_iff.mp quiet
  refine ⟨fun range => ?_, fun r hr => ?_⟩
  · have ran (u : State) : u.robotDisable b = (u, .range) := by
      simp only [State.robotDisable, below?_of_le range]
    exact congrArg Host.Outcome.next (State.request_of_bare (r := .robotDisable b) quiet rfl (congrArg bare (ran _)))
  obtain ⟨whenOff, whenBusy, whenFree⟩ := State.robotDisable_of_fields hr (s.posed f (.robotDisable b))
  refine ⟨fun off => congrArg Host.Outcome.next (State.request_of_bare (r := .robotDisable b) quiet rfl
      (congrArg bare (whenOff off))), fun busy => congrArg Host.Outcome.next (State.request_of_bare (r := .robotDisable b)
      quiet rfl (congrArg bare (whenBusy busy))), fun free queue entries => ?_⟩
  set p := s.posed f (.robotDisable b) with hp
  have bypassable : ∀ j ∈ p.list r, p.Bypassable r j := fun j hj => by
    obtain ⟨e, he, robot, _, supply⟩ := entries j hj
    exact .inl ⟨e, he, robot, supply⟩
  set v := forAll (p.list r) State.bypassEntry p with hv
  obtain ⟨led, robots, places, lists⟩ := State.bypassed_of r (p.list r) p bypassable
  rw [← hv] at led robots places lists
  have all : p.leads (v.setRobotState r .disabled) [.lif, .dtr, .rbc, .stc, .emu] :=
    State.leads_seq led (v.setRobotState_leads r .disabled) (by simp) (by simp)
  have done : State.Completed (v.setRobotState r .disabled) _ f 15 .ok [] :=
    State.request_completed (r := .robotDisable b) quiet rfl (congrArg bare (whenFree free)) all
      (State.calm_of_queue all queue)
  have kept := done.keeps.2
  have robot (q : Fin 64) : (s.request f (.robotDisable b)).robot q
      = if r = q then { s.robot r with state := .disabled } else s.robot q := by
    rw [State.robot_congr (kept .rbc (by simp)), State.robot_setRobotState, robots, robots]
    rfl
  have place (j : Fin 128) : (s.request f (.robotDisable b)).place j
      = if j ∈ s.list r then ⟨(s.place j).issue, none⟩ else s.place j :=
    (State.place_congr (kept .dtr (by simp)) j).trans (places j)
  have list (q : Fin 64) : (s.request f (.robotDisable b)).list q
      = if r = q then (s.list q).filter (· ∉ s.list r) else s.list q :=
    (State.list_congr (kept .dtr (by simp)) q).trans (lists q)
  have station (st : Fin 16) : (s.request f (.robotDisable b)).station st = v.station st :=
    (State.station_congr (kept .stc (by simp)) st).trans (State.setRobotState_station _ _ _ _)
  refine ⟨_, rfl, (robot r).trans (if_pos rfl), fun q other => (robot q).trans (if_neg (Ne.symm other)), ?_,
    fun q other => (list q).trans (if_neg (Ne.symm other)), fun i mem => (place i).trans (if_pos mem),
    fun i out => (place i).trans (if_neg out), fun i mem e he weld only => ?_, done.getLast?,
    done.keeps_of_leads empty all⟩
  · rw [list, if_pos rfl]
    exact List.filter_eq_nil_iff.mpr fun j hj => by simpa using hj
  · obtain ⟨a, entry, before, after⟩ := State.bypassed_turn bypassable mem he only
    rw [← hv] at after
    have supply : e.supply = .none := by
      obtain ⟨x, hx, _, _, supply⟩ := entries i mem
      rw [he] at hx
      cases hx
      exact supply
    rw [station]
    refine ⟨fun c current body y position => ?_, fun other n next body y position => ?_⟩
    · obtain ⟨d, hd, first⟩ := before.current c current body
      obtain ⟨d', hd', hit, config, enabled⟩ := State.bypassEntry_current entry supply weld hd (first.body.trans body)
        (first.position.trans position)
      obtain ⟨c', hc', last⟩ := after.current d' hd' (hit.body.trans (first.body.trans body))
      rw [config] at last
      rw [before.config] at hit last
      have whole := (first.bypassed hit).spared last
      refine ⟨c', hc', whole.position, fun hold => ⟨whole.hold hold, fun on => ?_⟩, whole.pass⟩
      have open_ : (v.station e.station).enabled = true :=
        (after.enabled.trans (enabled.trans before.enabled)).trans ((Station.enabled_iff _).mpr on)
      refine Station.held_of_reason open_ hc' ?_
      rw [ReasonSet.isEmpty, beq_eq_false_iff_ne]
      exact fun none => by simpa [none] using whole.hold hold
    · obtain ⟨m, hm, first⟩ := before.next other n next body
      obtain ⟨m', hm', hit, config, current⟩ := State.bypassEntry_next entry supply weld (before.other other) hm
        (first.body.trans body) (first.position.trans position)
      obtain ⟨n', hn', last⟩ := after.next (fun c hc => before.other other c (current ▸ hc)) m' hm'
        (hit.body.trans (first.body.trans body))
      rw [config] at last
      rw [before.config] at hit last
      have whole := (first.bypassed hit).spared last
      exact ⟨n', hn', whole.position, whole.hold, whole.pass⟩

end Sys2Proof.Machine
end

section
/-! STATION_INPUTS, and the fall of MANUAL (the statement O32). -/

namespace Sys2Proof.Machine

/-! ## What is issued where nothing is offered -/

/-- What an occurrence of a station event sends is at most its report. -/
theorem State.mem_stationEvent_issued {s : State} {st : Fin 16} {e : StationEvent} {r : Option (Fin 64)} {b : Option Word}
    {x : Telegram} (h : x ∈ (s.stationEvent st e r b).issued) :
    x ∈ s.issued ∨ x = .eventReport s.reportInUse false (stationEventNumber e) ⟨some st, r, b⟩ := by
  unfold State.stationEvent at h
  dsimp only at h
  split at h
  · unfold State.report at h
    split at h
    · exact .inl h
    · unfold State.issue at h
      split at h
      · exact .inl h
      · rcases List.mem_append.mp h with old | new
        · exact .inl old
        · exact .inr (List.mem_singleton.mp new)
  · exact .inl h

theorem State.mem_updateStation_issued {s : State} {st : Fin 16} {y : Station} {x : Telegram}
    (h : x ∈ (s.updateStation st y).issued) : x ∈ s.issued ∨ ∃ n d k c, x = .eventReport n d k c := by
  unfold State.updateStation at h
  dsimp only at h
  split at h
  · exact (State.mem_stationEvent_issued h).imp_right fun h => ⟨_, _, _, _, h⟩
  · exact .inl h

/-- The end of a calm event sends at most the image. -/
theorem State.mem_finish_issued {s : State} (node : s.lif.node?.isSome = true) (calm : s.calm) {x : Telegram}
    (h : x ∈ s.finish.issued) : x ∈ s.issued ∨ ∃ n v, x = .stationOutputs n v := by
  rw [State.finish_of_calm calm] at h
  have compared : x ∈ ({ s with passDue := false } : State).comparePoint.issued := h
  rw [State.comparePoint_issued (by exact node)] at compared
  rcases List.mem_append.mp compared with old | new
  · exact .inl old
  · split at new
    · cases new
    · exact .inr ⟨_, _, List.mem_singleton.mp new⟩

/-- A WELD entry that ends WEAR_LIMIT and holds its station sends at most the report of HELD. -/
theorem State.mem_endCore_wearLimit {s : State} {i : Fin 128} {e : Entry} {c : Slot} {y : Position}
    (he : s.entry? i = some e) (supply : e.supply = .none) (weld : e.kind = .weld)
    (current : (s.station e.station).current = some c) (body : c.body = e.body) (position : c.positions[e.position] = some y)
    (enabled : (s.station e.station).enabled = true) {x : Telegram} (h : x ∈ (s.endCore i .wearLimit none []).issued) :
    x ∈ s.issued ∨ ∃ n d k c, x = .eventReport n d k c := by
  have handed : (s.quieted i e).handOutcome e .wearLimit none = (s.quieted i e).writeOutcome e .wearLimit none := by
    rw [State.handOutcome, weld]
    rfl
  rw [State.endCore_of_no_credit he (by simp [supply]), State.setRobotState_issued, handed,
    State.writeOutcome_of_current (s := s.quieted i e) current body] at h
  set z : Station := { (s.quieted i e).station e.station with
    current := some (c.outcome ((s.quieted i e).station e.station).config.short e .wearLimit none) } with hz
  have held : z.state = .held := by
    refine Station.held_of_reason (x := z) enabled rfl ?_
    rw [Slot.outcome_of_some position]
    exact ReasonSet.isEmpty_enter c.reasons .wearLimit
  have incomplete : (((s.quieted i e).updateStation e.station z).station e.station).completes = false := by
    rw [State.updateStation_station, if_pos rfl, Station.completes, held]
    rfl
  rw [State.checkCompletion_of_not incomplete] at h
  exact State.mem_updateStation_issued (s := s.quieted i e) h

/-! ## The heads that name a station (R73) -/

theorem State.stationRobots_nodup (s : State) (st : Fin 16) : (s.stationRobots st).Nodup := by
  refine (List.nodup_finRange 8).filterMap fun p q r hp hq => ?_
  rw [← (State.servingRobot?_spec hp).2.2, ← (State.servingRobot?_spec hq).2.2]

theorem filter_eq_singleton {α : Type} {p : α → Bool} {a : α} : ∀ {l : List α}, l.Nodup → a ∈ l → p a = true →
    (∀ b ∈ l, b ≠ a → p b = false) → l.filter p = [a]
  | [], _, mem, _, _ => nomatch mem
  | b :: l, nodup, mem, here, others => by
    obtain ⟨fresh, nodup⟩ := List.nodup_cons.mp nodup
    by_cases same : b = a
    · subst same
      rw [List.filter_cons_of_pos here, List.filter_eq_nil_iff.mpr]
      exact fun c hc => by simp [others c (List.mem_cons_of_mem _ hc) fun e => fresh (e ▸ hc)]
    · rw [List.filter_cons_of_neg (by simp [others b List.mem_cons_self same])]
      exact filter_eq_singleton nodup ((List.mem_cons.mp mem).resolve_left (Ne.symm same)) here
        fun c hc => others c (List.mem_cons_of_mem _ hc)

/-- Where one robot of a station alone has a list, and its head names the station, an offer is attempted for it alone. -/
theorem State.headsNaming_of_only {s : State} {st : Fin 16} {r : Fin 64} {i : Fin 128} {rest : List (Fin 128)} {e : Entry}
    (mem : r ∈ s.stationRobots st) (others : ∀ q ∈ s.stationRobots st, q ≠ r → s.list q = []) (list : s.list r = i :: rest)
    (he : s.entry? i = some e) (station : e.station = st) : s.headsNaming st = [r] := by
  refine filter_eq_singleton (s.stationRobots_nodup st) mem ?_ fun q hq other => ?_
  · simp [list, he, station]
  · simp [others q hq other]

/-- Levels at which PRESENT and CLAMPED are as before and MANUAL falls: the offers for the heads alone. -/
theorem State.stationInput_of_manual {s : State} {st : Fin 16} {input : Byte}
    (present : input.getLsbD 0 = (s.panel st).present) (clamped : input.getLsbD 1 = (s.panel st).clamped)
    (was : (s.panel st).manual = true) (now : input.getLsbD 2 = false) :
    State.stationInput st input s = (s.levelled st input).attemptOffers ((s.levelled st input).headsNaming st) := by
  have still (m : EdgeMode) (b : Bool) : m.selects b b = false := by cases m <;> cases b <;> rfl
  simp only [State.stationInput, present, clamped, was, now, still, State.levelled, Panel.taken]
  simp

/-- Settles O32: the histories are taken station by station; the one MANUAL level that falls attempts one offer. -/
theorem inputsTaken : Obligations.InputsTaken := by
  refine ⟨fun s node v ready => ⟨fun line known => ?_, fun stranger settled => ?_⟩,
    fun s v st r i rest e ready settled line queue levels was now mem others list fresh he robot station => ?_⟩
  · subst known
    refine ⟨_, congrArg Host.Outcome.next (State.telegram_of_ready ready _), fun st => ?_⟩
    rw [State.panel_congr (State.finish_panels _)]
    exact State.stationInputs_panel (s := s.begin) line v st
  · have ran : s.begin.stationInputs node v = s.begin.deviceEvent .badTelegram {} := if_pos stranger
    have led := s.begin.deviceEvent_leads .badTelegram {}
    have calm : (s.begin.deviceEvent .badTelegram {}).calm := .inl (State.deviceEvent_passDue _ _ _)
    have still := State.settled_of_leads led settled
    refine ⟨_, congrArg Host.Outcome.next ((State.telegram_of_ready ready _).trans (congrArg State.finish ran)), ?_,
      State.finish_keeps_of_settled led calm still⟩
    rw [State.deviceStatus_congr ((State.finish_keeps_of_calm_settled calm still).1.2 .emu (by simp))]
    exact State.deviceEvent_set s.begin .badTelegram _
  have same (q : Fin 16) (hq : q ≠ st) : (s.begin.panel q).taken v[q] = s.begin.panel q := by
    obtain ⟨present, clamped, manual⟩ := levels q
    rw [Panel.taken, present, clamped, manual hq]
    rfl
  obtain ⟨present, clamped, _⟩ := levels st
  set u := s.begin.levelled st v[st] with hu
  have taken : s.begin.leads u [.piu] := s.begin.setPanel_leads _ _
  have uSettled : u.settled = true := State.levelled_settled (s := s.begin) settled st v[st]
  have manual : (u.panel st).manual = false := by
    rw [hu, State.levelled, State.panel_setPanel, if_pos rfl]
    exact now
  have heads : u.headsNaming st = [r] := State.headsNaming_of_only (s := u) mem others list he station
  have ran : s.begin.stationInputs s.mge.lineNode v = u.attemptOffer r := by
    refine (State.stationInputs_of_single (s := s.begin) line same).trans
      ((State.stationInput_of_manual (s := s.begin) present clamped was now).trans ?_)
    exact congrArg u.attemptOffers heads
  have attempt := State.attemptOffer_of_head (s := u) list he
  have executed {t : State} (ht : u.attemptOffer r = t) : exec (.stationInputs s.mge.lineNode v) s = .next t.finish :=
    congrArg Host.Outcome.next ((State.telegram_of_ready ready _).trans (congrArg State.finish (ran.trans ht)))
  subst robot
  subst station
  refine ⟨fun idle queued open_ => ?_, fun idle queued supply weld on worn c current body y position => ?_, fun shut => ?_⟩
  · have offers : u.offerable e.robot e = true := (State.offerable_iff _ _ _).mpr ⟨queued, idle, manual,
      fun weld => (Station.enabled_iff _).mpr (open_.resolve_left (by simp [weld])).1⟩
    have fit : ¬ (e.kind = .weld ∧ (u.robot e.robot).worn = true) := fun ⟨weld, worn⟩ =>
      absurd (of_decide_eq_true worn) (Nat.not_le.mpr (open_.resolve_left (by simp [weld])).2)
    rw [if_pos offers, if_neg fit] at attempt
    have led : s.begin.leads (u.offer i e.robot) [.lif, .dtr, .rbc, .piu, .emu] :=
      State.leads_seq taken (u.offer_leads i e.robot) (by simp) (by simp)
    have calm : (u.offer i e.robot).calm := .inl ((u.offer_passDue i e.robot).trans rfl)
    have kept := (State.finish_keeps_of_calm calm).2
    have place (j : Fin 128) := (State.place_congr (kept .dtr (by simp)) j).trans (State.offer_place (s := u) he e.robot j)
    have robots (q : Fin 64) := (State.robot_congr (kept .rbc (by simp)) q).trans
      (State.offer_robot (s := u) he e.robot q)
    have sent := State.offer_issued (s := u) he e.robot (by rw [State.leads_node taken]; exact (s.ready_iff.mp ready).2)
    refine ⟨_, executed attempt, (place i).trans (if_pos rfl), fun j other => (place j).trans (if_neg (Ne.symm other)), ?_,
      (robots e.robot).trans (if_pos rfl), fun q other => (robots q).trans (if_neg (Ne.symm other)),
      (State.finish_issued _).subset sent, State.finish_keeps_of_leads led calm⟩
    have lists : (u.offer i e.robot).dtr.lists = s.dtr.lists := (State.offer_lists (s := u) he e.robot).trans rfl
    exact (congrArg Dtr.lists (kept .dtr (by simp))).trans lists
  · have enabled : (u.station e.station).enabled = true := (Station.enabled_iff _).mpr on
    have offers : u.offerable e.robot e = true :=
      (State.offerable_iff _ _ _).mpr ⟨queued, idle, manual, fun _ => enabled⟩
    have tired : e.kind = .weld ∧ (u.robot e.robot).worn = true := ⟨weld, decide_eq_true worn⟩
    rw [if_pos offers, if_pos tired] at attempt
    set w := u.endCore i .wearLimit none [] with hw
    have ended := State.endCore_leads_of_no_credit (s := u) he (by simp [supply]) .wearLimit none []
    have led : s.begin.leads w [.lif, .dtr, .rbc, .stc, .piu, .emu] := State.leads_seq taken ended (by simp) (by simp)
    have calm : w.calm := State.endCore_calm queue
    have kept := (State.finish_keeps_of_calm calm).2
    have failed : EntryOutcome.wearLimit ∈ failures := by simp [failures]
    have place (j : Fin 128) := (State.place_congr (kept .dtr (by simp)) j).trans
      (State.endCore_place (s := u) he (by simp [supply]) .wearLimit none [] j)
    have robot : w.finish.robot e.robot = w.robot e.robot := State.robot_congr (kept .rbc (by simp)) _
    have stations : w.finish.station e.station = w.station e.station := State.station_congr (kept .stc (by simp)) _
    have written := Slot.outcome_of_some position (u.station e.station).config.short .wearLimit none
    have released := State.endCore_released (s := u) he (by simp [supply]) weld current body .wearLimit none []
    obtain ⟨c', hc', _, positions, reasons⟩ := released.current rfl
    obtain ⟨_, _, _, held⟩ := State.endCore_failed (s := u) he supply weld current body position failed []
    refine ⟨_, executed attempt, (place i).trans (if_pos rfl), fun j other => (place j).trans (if_neg (Ne.symm other)), ?_,
      ?_, fun q other => ?_, ⟨c', (congrArg Station.current stations).trans hc', ?_, ?_⟩,
      (congrArg Station.state stations).trans (held on), fun x hx => ?_, State.finish_keeps_of_leads led calm⟩
    · rw [State.list_congr (kept .dtr (by simp)), hw, State.endCore_list (s := u) he, if_pos rfl]
      have before : u.list e.robot = i :: rest := list
      have apart : ∀ j ∈ rest, (j != i) = true := fun j hj => bne_iff_ne.mpr fun same => fresh (same ▸ hj)
      rw [before, List.filter_cons_of_neg (by simp), List.filter_eq_self.mpr apart]
    · rw [robot, hw, State.endCore_robot_failed (s := u) he supply weld failed]
      · rfl
      · exact fun off => RobotState.noConfusion (idle.symm.trans off)
    · rw [State.robot_congr (kept .rbc (by simp)), hw,
        State.endCore_robot_other (s := u) he (by simp [supply]) _ _ _ (Ne.symm other)]
      rfl
    · rw [reasons, written]
      rfl
    · rw [positions, written]
      rfl
    · have node : w.lif.node?.isSome = true := by
        rw [State.leads_node led]
        exact (s.ready_iff.mp ready).2
      have sent : x ∈ u.issued → False := fun h => by cases (show x ∈ ([] : List Telegram) from h)
      rcases State.mem_finish_issued node calm hx with early | ⟨n, d, rfl⟩
      · rcases State.mem_endCore_wearLimit (s := u) he supply weld current body position enabled early with old | ⟨n, d, k, c, rfl⟩
        · exact absurd old sent
        · simp
      · simp
  · have nothing : ¬ u.offerable e.robot e = true := fun offers => by
      obtain ⟨queued, idle, _, on⟩ := (State.offerable_iff _ _ _).mp offers
      rcases shut with busy | past | ⟨weld, off⟩
      · exact busy idle
      · exact past queued
      · exact absurd off ((Station.enabled_iff _).mp (on weld))
    rw [if_neg nothing] at attempt
    exact exec_of_levelled ready settled (ran.trans attempt)

end Sys2Proof.Machine
end

section
/-! What an event tells: the statuses that are set stay set, and no PROG_SELECT is sent but by an offer. -/

namespace Sys2Proof.Machine

/-- Whether a telegram is a PROG_SELECT. -/
def Telegram.isSelect : Telegram → Bool
  | .progSelect .. => true
  | _ => false

/-- One state tells what another does not yet: the statuses that were set stay set, and PROG_SELECT is sent only where
`select` allows it. -/
structure State.Tells (select : Bool) (s t : State) : Prop where
  station : ∀ st n, (s.stationStatus st n).set = true → (t.stationStatus st n).set = true
  device : ∀ n, (s.deviceStatus n).set = true → (t.deviceStatus n).set = true
  sent : ∀ x ∈ t.issued, x ∈ s.issued ∨ (x.isSelect = true → select = true)

section
variable {b : Bool} {s t u : State}

theorem State.Tells.refl (b : Bool) (s : State) : s.Tells b s := ⟨fun _ _ => id, fun _ => id, fun _ h => .inl h⟩

theorem State.Tells.trans (h : s.Tells b t) (k : t.Tells b u) : s.Tells b u where
  station st n := k.station st n ∘ h.station st n
  device n := k.device n ∘ h.device n
  sent x hx := (k.sent x hx).elim (h.sent x) .inr

/-- A write that neither sends nor touches the event unit. -/
theorem State.Tells.of_same (b : Bool) (emu : t.emu = s.emu) (issued : t.issued = s.issued) : s.Tells b t where
  station st n h := by rwa [State.stationStatus_congr emu]
  device n h := by rwa [State.deviceStatus_congr emu]
  sent x hx := .inl (issued ▸ hx)

theorem State.Tells.ite {c : Prop} [Decidable c] {f : State} (h : c → s.Tells b t) (k : ¬ c → s.Tells b f) :
    s.Tells b (if c then t else f) := by
  split
  · next hc => exact h hc
  · next hc => exact k hc

theorem State.Tells.forAll {α : Type} {f : α → State → State} (h : ∀ a (s : State), s.Tells b (f a s)) :
    ∀ (l : List α) (s : State), s.Tells b (forAll l f s)
  | [], s => .refl b s
  | a :: l, s => (h a s).trans (State.Tells.forAll h l (f a s))

theorem State.Tells.foldl {α : Type} {f : State → α → State} (h : ∀ a (s : State), s.Tells b (f s a)) :
    ∀ (l : List α) (s : State), s.Tells b (l.foldl f s)
  | [], s => .refl b s
  | a :: l, s => (h a s).trans (State.Tells.foldl h l (f s a))

end

/-! ## Telegrams, events and counters -/

section
variable (b : Bool) (s : State)

theorem State.issue_emu (s : State) (x : Telegram) : (s.issue x).emu = s.emu := (s.issue_leads x).1.2 .emu (by simp)

theorem State.issue_tells {x : Telegram} (h : x.isSelect = true → b = true) : s.Tells b (s.issue x) where
  station st n k := by rwa [State.stationStatus_congr (s.issue_emu x)]
  device n k := by rwa [State.deviceStatus_congr (s.issue_emu x)]
  sent y hy := by
    unfold State.issue at hy
    split at hy
    · exact .inl hy
    · rcases List.mem_append.mp hy with old | new
      · exact .inl old
      · exact .inr (List.mem_singleton.mp new ▸ h)

theorem State.issueToLine_tells {x : Byte → Telegram} (h : ∀ n, (x n).isSelect = false) : s.Tells b (s.issueToLine x) := by
  unfold State.issueToLine
  exact .ite (fun _ => .refl b s) fun _ => s.issue_tells b (by simp [h])

theorem State.issueToRobot_tells {x : Byte → Telegram} (h : ∀ n, (x n).isSelect = false) (r : Fin 64) :
    s.Tells b (s.issueToRobot r x) := s.issue_tells b (by simp [h])

theorem State.report_tells (d : Bool) (n : Fin 8) (c : Capture) : s.Tells b (s.report d n c) := by
  unfold State.report
  exact .ite (fun _ => .refl b s) fun _ => s.issue_tells b (by simp [Telegram.isSelect])

theorem State.stationEvent_tells (st : Fin 16) (e : StationEvent) (r : Option (Fin 64)) (w : Option Word) :
    s.Tells b (s.stationEvent st e r w) := by
  have raised : s.Tells b (s.setStationStatus st (stationEventNumber e)
      ((s.stationStatus st (stationEventNumber e)).raise ⟨some st, r, w⟩)) := by
    refine ⟨fun q n h => ?_, fun n h => h, fun x hx => .inl hx⟩
    rw [State.stationStatus_setStationStatus]
    split
    · exact Status.raise_set _ _
    · exact h
  unfold State.stationEvent
  exact .ite (fun _ => raised.trans (State.report_tells _ _ _ _ _)) fun _ => raised

theorem State.deviceEvent_tells (e : DeviceEvent) (c : Capture) : s.Tells b (s.deviceEvent e c) := by
  have raised : s.Tells b (s.setDeviceStatus (deviceEventNumber e) ((s.deviceStatus (deviceEventNumber e)).raise c)) := by
    refine ⟨fun q n h => h, fun n h => ?_, fun x hx => .inl hx⟩
    rw [State.deviceStatus_setDeviceStatus]
    split
    · exact Status.raise_set _ _
    · exact h
  unfold State.deviceEvent
  exact .ite (fun _ => raised.trans (State.report_tells _ _ _ _ _)) fun _ => raised

theorem State.increase_tells (k : Fin 8) (d : Nat) : s.Tells b (s.increase k d) := by
  have put (x : Counter) : s.Tells b (s.setCounter k x) := ⟨fun _ _ => id, fun _ => id, fun _ h => .inl h⟩
  have froze (t : State) : t.Tells b (t.setFreeze true) := ⟨fun _ _ => id, fun _ => id, fun _ h => .inl h⟩
  cases fires : (s.counter k).config.fires (s.counter k).value ((s.counter k).value + BitVec.ofNat 48 d) with
  | true =>
    rw [State.increase_of_fires fires]
    exact ((put _).trans (froze _)).trans (State.deviceEvent_tells _ _ _ _)
  | false =>
    rw [State.increase_of_not_fires fires]
    exact put _

theorem State.count_tells (e : CounterEvent) (d : Nat) (a : Attributes) : s.Tells b (s.count e d a) := by
  refine State.Tells.foldl (fun k t => ?_) _ s
  unfold State.offerCounter
  exact .ite (fun _ => t.increase_tells b k d) fun _ => .refl b t

theorem State.comparePoint_tells : s.Tells b s.comparePoint := by
  unfold State.comparePoint
  exact .ite (fun _ => .refl b s) fun _ => (s.issueToLine_tells b (fun _ => rfl)).trans (.of_same b rfl rfl)

theorem State.dropStamp_tells (id : BankId) : s.Tells b (s.dropStamp id) := by
  refine State.Tells.trans (t := s.setBank id { s.bank id with stamps := (s.bank id).stamps - 1 }) (.of_same b ?_ ?_) ?_
  · exact (s.setBank_leads id _).1.2 .emu (by simp)
  · cases id <;> rfl
  · change State.Tells b _ (State.endDrain _)
    unfold State.endDrain
    refine .ite (fun _ => ?_) fun _ => .refl b _
    refine State.Tells.trans ?_ (State.deviceEvent_tells _ _ _ _)
    exact .of_same b rfl rfl

/-! ## Stations -/

theorem State.updateStation_tells (st : Fin 16) (x : Station) : s.Tells b (s.updateStation st x) := by
  have put : s.Tells b (s.setStation st x) := .of_same b rfl rfl
  unfold State.updateStation
  exact .ite (fun _ => put.trans (State.stationEvent_tells _ _ _ _ _ _)) fun _ => put

theorem State.checkCompletion_tells (st : Fin 16) : s.Tells b (s.checkCompletion st) := by
  cases complete : (s.station st).completes with
  | false => rw [State.checkCompletion_of_not complete]; exact .refl b s
  | true =>
    cases current : (s.station st).current with
    | none => simp [Station.completes, current] at complete
    | some c =>
      rw [State.checkCompletion_of_completes current complete, State.releaseSlot]
      have put : s.Tells b (s.setStation st { s.station st with current := some { c with state := .complete } }) :=
        .of_same b rfl rfl
      exact (put.trans (State.issueToLine_tells _ _ fun _ => rfl)).trans (.of_same b rfl rfl)

theorem State.writeOutcome_tells (e : Entry) (o : EntryOutcome) (d : Option Nat) : s.Tells b (s.writeOutcome e o d) := by
  unfold State.writeOutcome
  exact .ite (fun _ => (s.updateStation_tells b _ _).trans (State.checkCompletion_tells _ _ _))
    fun _ => .ite (fun _ => s.updateStation_tells b _ _) fun _ => .refl b s

theorem State.promote_tells (st : Fin 16) : s.Tells b (s.promote st) :=
  (s.updateStation_tells b _ _).trans (.of_same b rfl rfl)

/-! ## The end of an entry -/

theorem State.handOutcome_tells (e : Entry) (o : EntryOutcome) (d : Option Nat) : s.Tells b (s.handOutcome e o d) := by
  have gun (x : Robot) : s.Tells b (s.setRobot e.robot x) := .of_same b rfl rfl
  have failed := s.stationEvent_tells b e.station .dressFailed (some e.robot) (some e.body)
  unfold State.handOutcome
  split
  · unfold State.handWeld
    refine State.Tells.trans ?_ (State.writeOutcome_tells _ _ _ _ _)
    split
    · exact s.count_tells b _ _ _
    · exact (s.stationEvent_tells b _ _ _ _).trans (State.count_tells _ _ _ _ _)
    · exact s.count_tells b _ _ _
    · exact .refl b s
  · unfold State.handDress
    dsimp only
    split
    · exact (gun _).trans (State.count_tells _ _ _ _ _)
    · exact failed.trans (State.count_tells _ _ _ _ _)
    · exact failed.trans (State.count_tells _ _ _ _ _)
    · exact failed
    · exact failed
    · exact .refl b s
  · unfold State.handMaint
    dsimp only
    split
    · exact (gun _).trans (State.count_tells _ _ _ _ _)
    · exact (gun _).trans (State.count_tells _ _ _ _ _)
    · exact gun _

theorem State.grant_tells (g : Fin 8) (i : Fin 128) : s.Tells b (s.grant g i) := by
  unfold State.grant
  split
  · exact .refl b s
  · refine State.Tells.trans (State.Tells.of_same b ?_ ?_) (State.issueToRobot_tells _ _ (fun _ => rfl) _)
    · rfl
    · rfl

theorem State.releaseSupply_tells (i : Fin 128) (ban : List (Fin 128)) : s.Tells b (s.releaseSupply i ban) := by
  have put (x : Option Entry) : s.Tells b (s.setEntry i x) := .of_same b rfl rfl
  unfold State.releaseSupply State.handOn
  split
  · exact .refl b s
  · dsimp only
    split
    · split
      · exact put _
      · exact (put _).trans (State.grant_tells _ _ _ _)
    · exact put _

theorem State.endCore_tells (i : Fin 128) (o : EntryOutcome) (d : Option Nat) (ban : List (Fin 128)) :
    s.Tells b (s.endCore i o d ban) := by
  unfold State.endCore
  split
  · exact .refl b s
  · refine State.Tells.trans (State.Tells.trans ?_ (State.handOutcome_tells _ _ _ _ _)) (.of_same b rfl rfl)
    exact (s.releaseSupply_tells b i ban).trans (.of_same b rfl rfl)

theorem State.endSet_tells (set : List (Fin 128)) : s.Tells b (s.endSet set) := by
  refine State.Tells.foldl (fun i t => ?_) set s
  unfold State.abortEntry
  split
  · exact .refl b t
  · refine State.Tells.trans ?_ (State.endCore_tells _ _ _ _ _ _)
    exact .ite (fun _ => t.issueToRobot_tells b (fun _ => rfl) _) fun _ => .refl b t

end

/-! ## Offers and passes -/

section
variable (s : State)

theorem State.sendSelect_tells (i : Fin 128) : s.Tells true (s.sendSelect i) := by
  cases he : s.entry? i with
  | none =>
    simp only [State.sendSelect, he]
    exact .refl true s
  | some e =>
    have renewed : s.Tells true (s.renewed i) :=
      State.Tells.trans (t := s.setPlace i { s.place i with issue := (s.place i).issue + 1 }) (.of_same true rfl rfl)
        (State.comparePoint_tells true _)
    rw [State.sendSelect_of_some he]
    have sent (x : Telegram) (p : Place) : s.Tells true (((s.renewed i).issue x).setPlace i p) :=
      (renewed.trans (State.issue_tells true _ fun _ => rfl)).trans (.of_same true rfl rfl)
    exact (sent _ _).trans (State.count_tells _ _ _ _ _)

theorem State.attemptOffer_tells (r : Fin 64) : s.Tells true (s.attemptOffer r) := by
  unfold State.attemptOffer
  split
  · exact .refl true s
  · split
    · exact .refl true s
    · refine .ite (fun _ => .ite (fun _ => s.endCore_tells true _ _ _ _) fun _ => ?_) fun _ => .refl true s
      unfold State.offer
      refine State.Tells.trans ?_ (State.sendSelect_tells _ _)
      exact .of_same true rfl rfl

theorem State.attemptOffers_tells (rs : List (Fin 64)) : s.Tells true (s.attemptOffers rs) :=
  State.Tells.foldl (fun r t => t.attemptOffer_tells r) rs s

theorem State.abortSet_tells (set : List (Fin 128)) : s.Tells true (s.abortSet set) :=
  (s.endSet_tells true set).trans (State.attemptOffers_tells _ _)

theorem State.createFor_tells (st : Fin 16) (body : Word) (x : Plan) : s.Tells true (State.createFor st body x s) := by
  have appended (t : State) (e : Entry) : t.Tells true (t.append e) := by
    cases free : t.lowestFree? with
    | none => rw [State.append_of_none free]; exact .refl true t
    | some i => rw [State.append_of_some free]; exact .of_same true rfl rfl
  unfold State.createFor
  split
  · exact .refl true s
  · exact State.Tells.trans (.ite (fun _ => appended _ _) fun _ => .refl true s) (appended _ _)

theorem State.allocate_tells (a : Arrival) (style : Option (Fin 64)) (plans : List Plan) (queue : List Arrival) :
    s.Tells true (s.allocate a style plans queue) := by
  have slot : s.Tells true (s.writeSlot a.station (newSlot (s.station a.station).config.short a style plans)) := by
    unfold State.writeSlot
    exact .ite (fun _ => s.updateStation_tells true _ _) fun _ => s.updateStation_tells true _ _
  have filled := State.Tells.forAll (fun x t => State.createFor_tells t a.station a.body x) plans
    (s.writeSlot a.station (newSlot (s.station a.station).config.short a style plans))
  have dropped (t : State) (a : Arrival) : t.Tells true ((t.setQueue queue).dropStamp a.stamp) := by
    refine State.Tells.trans (t := t.setQueue queue) (.of_same true rfl rfl) (State.dropStamp_tells _ _ _)
  exact (slot.trans (filled.trans (dropped _ _))).trans (State.attemptOffers_tells _ _)

theorem passWalk_tells : ∀ (l ahead : List Arrival) (s : State), s.Tells true (passWalk ahead l s)
  | [], _, s => .refl true s
  | a :: rest, ahead, s => by
    unfold passWalk
    dsimp only
    refine .ite (fun _ => .ite (fun _ => ?_) fun _ => ?_) fun _ => passWalk_tells rest _ s
    · exact (s.allocate_tells a _ _ _).trans (passWalk_tells rest _ _)
    · refine State.Tells.trans (State.Tells.trans (t := s.setQueue (ahead ++ a.skipped :: rest)) (.of_same true rfl rfl) ?_)
        (passWalk_tells rest _ _)
      unfold State.skipEvents
      dsimp only
      exact State.Tells.trans (.ite (fun _ => State.deviceEvent_tells _ _ _ _) fun _ => .refl true _)
        (State.count_tells _ _ _ _ _)

theorem State.finish_tells : s.Tells true s.finish := by
  have passed : s.Tells true s.runPass := by
    unfold State.runPass
    exact .ite (fun _ => (passWalk_tells _ [] s).trans (.of_same true rfl rfl)) fun _ => .refl true s
  exact (passed.trans (State.comparePoint_tells _ _)).trans (.of_same true rfl rfl)

end

end Sys2Proof.Machine
end

section
/-! Aborts and offers: which entries are left, what is cancelled, and what is left of the stations. -/

namespace Sys2Proof.Machine

/-! ## The entries that an abort leaves (R87) -/

/-- Of a state's entries only those of a list have been freed; the others may have gained or lost a credit. -/
def State.Freed (l : List (Fin 128)) (s t : State) : Prop := ∀ i, (t.place i).issue = (s.place i).issue
  ∧ ((t.entry? i = none ∧ (s.entry? i = none ∨ i ∈ l))
    ∨ ∃ e supply timer, s.entry? i = some e ∧ t.entry? i = some { e with supply := supply, holdTimer := timer })

section
variable {l m : List (Fin 128)} {s t u : State}

theorem State.Freed.of_dtr (l : List (Fin 128)) (h : t.dtr = s.dtr) : s.Freed l t := by
  intro i
  refine ⟨by rw [State.place_congr h], ?_⟩
  rw [State.entry?_congr h]
  cases he : s.entry? i with
  | none => exact .inl ⟨rfl, .inl rfl⟩
  | some e => exact .inr ⟨e, _, _, rfl, rfl⟩

theorem State.Freed.refl (l : List (Fin 128)) (s : State) : s.Freed l s := .of_dtr l rfl

theorem State.Freed.trans (h : s.Freed l t) (k : t.Freed l u) : s.Freed l u := by
  intro i
  obtain ⟨first, before⟩ := h i
  obtain ⟨second, after⟩ := k i
  refine ⟨second.trans first, ?_⟩
  rcases after with ⟨gone, was⟩ | ⟨x, sx, tx, hx, now⟩
  · refine .inl ⟨gone, ?_⟩
    rcases was with none | mem
    · rcases before with ⟨_, cause⟩ | ⟨e, se, te, _, he⟩
      · exact cause
      · rw [none] at he; cases he
    · exact .inr mem
  · rcases before with ⟨gone, _⟩ | ⟨e, se, te, he, hx'⟩
    · rw [gone] at hx; cases hx
    · rw [hx'] at hx
      cases hx
      exact .inr ⟨e, sx, tx, he, now⟩

theorem State.Freed.none (h : s.Freed l t) {i : Fin 128} (free : s.entry? i = none) : t.entry? i = none := by
  rcases (h i).2 with ⟨gone, _⟩ | ⟨e, _, _, he, _⟩
  · exact gone
  · rw [free] at he; cases he

theorem State.Freed.mono (h : s.Freed l t) (sub : l ⊆ m) : s.Freed m t := fun i =>
  ⟨(h i).1, (h i).2.imp_left fun ⟨gone, was⟩ => ⟨gone, was.imp_right fun hi => sub hi⟩⟩

end

theorem State.grant_freed (s : State) (g : Fin 8) (i : Fin 128) (l : List (Fin 128)) : s.Freed l (s.grant g i) := by
  cases he : s.entry? i with
  | none =>
    have same : s.grant g i = s := by simp only [State.grant, he]
    rw [same]
    exact .refl l s
  | some e =>
    rw [State.grant_of_some he]
    refine State.Freed.trans (t := s.setEntry i (some { e with
      supply := .holding, holdTimer := some ((s.group g).holdLimit + 1) })) (fun j => ?_) (.of_dtr l (State.issue_dtr _ _))
    rw [State.place_setEntry, State.entry_setEntry]
    split
    · next here =>
      subst here
      exact ⟨rfl, .inr ⟨e, _, _, he, rfl⟩⟩
    · exact State.Freed.refl l s j

theorem State.releaseSupply_freed (s : State) (i : Fin 128) (ban l : List (Fin 128)) :
    s.Freed l (s.releaseSupply i ban) := by
  unfold State.releaseSupply
  split
  · exact .refl l s
  · next e he =>
    have put : s.Freed l (s.setEntry i (some { e with supply := .none, holdTimer := none })) := by
      intro j
      rw [State.place_setEntry, State.entry_setEntry]
      split
      · next here =>
        subst here
        exact ⟨rfl, .inr ⟨e, _, _, he, rfl⟩⟩
      · exact State.Freed.refl l s j
    dsimp only
    split
    · refine put.trans ?_
      unfold State.handOn
      split
      · exact .refl l _
      · exact State.grant_freed _ _ _ _
    · exact put

section
variable {s : State} {i : Fin 128} {e : Entry}

/-- The places after the end of an entry: its own is free, the others are those after its standing was cleared. -/
theorem State.endCore_place_of (he : s.entry? i = some e) (o : EntryOutcome) (d : Option Nat) (ban : List (Fin 128))
    (j : Fin 128) : (s.endCore i o d ban).place j
      = if i = j then ⟨(s.place i).issue, none⟩ else (s.releaseSupply i ban).place j := by
  have issue : ((s.releaseSupply i ban).place i).issue = (s.place i).issue := (s.releaseSupply_freed i ban [] i).1
  simp only [State.endCore, he, State.setRobotState_place, State.free_place]
  rw [State.place_congr ((State.handOutcome_leads _ _ _ _).1.2 .dtr (by simp)),
    State.place_congr ((State.handOutcome_leads _ _ _ _).1.2 .dtr (by simp)), State.place_modEntry, State.place_modEntry,
    if_pos rfl]
  split
  · rw [issue]
  · rfl

theorem State.endCore_freed (s : State) (i : Fin 128) (o : EntryOutcome) (d : Option Nat) (ban : List (Fin 128)) :
    s.Freed [i] (s.endCore i o d ban) := by
  cases he : s.entry? i with
  | none =>
    have same : s.endCore i o d ban = s := by simp only [State.endCore, he]
    rw [same]
    exact .refl _ s
  | some e =>
    intro j
    have released := s.releaseSupply_freed i ban [i] j
    rw [State.entry?, State.endCore_place_of he]
    split
    · next here =>
      subst here
      exact ⟨rfl, .inl ⟨rfl, .inr List.mem_cons_self⟩⟩
    · exact released

theorem State.abortEntry_freed (s : State) (ban : List (Fin 128)) (i : Fin 128) : s.Freed [i] (s.abortEntry ban i) := by
  unfold State.abortEntry
  split
  · exact .refl _ s
  · refine State.Freed.trans (.of_dtr _ ?_) (State.endCore_freed _ _ _ _ _)
    split
    · exact State.issueToRobot_dtr _ _ _
    · rfl

theorem State.abortEntry_gone (s : State) (ban : List (Fin 128)) (i : Fin 128) : (s.abortEntry ban i).entry? i = none := by
  cases he : s.entry? i with
  | none => simp only [State.abortEntry, he]
  | some e =>
    simp only [State.abortEntry, he]
    have entry : (if e.beyondQueued then s.issueToRobot e.robot (.dispatchCancel · (s.tag i)) else s).entry? i = some e := by
      split
      · exact (State.entry?_congr (State.issueToRobot_dtr _ _ _) i).trans he
      · exact he
    rw [State.entry?, State.endCore_place_of entry, if_pos rfl]

end

/-- The entries of a list end one after another, each with the abort set `ban`. -/
def State.abortEach (s : State) (ban l : List (Fin 128)) : State := l.foldl (fun s i => s.abortEntry ban i) s

theorem State.endSet_eq (s : State) (set : List (Fin 128)) : s.endSet set = s.abortEach set set := rfl

theorem State.abortEach_freed (ban : List (Fin 128)) : ∀ (l : List (Fin 128)) (s : State), s.Freed l (s.abortEach ban l)
  | [], s => .refl _ s
  | i :: l, s => State.Freed.trans ((s.abortEntry_freed ban i).mono (by simp))
      ((State.abortEach_freed ban l (s.abortEntry ban i)).mono (by simp))

theorem State.abortEach_gone (ban : List (Fin 128)) {i : Fin 128} (l : List (Fin 128)) (s : State) (mem : i ∈ l) :
    (s.abortEach ban l).entry? i = none := by
  induction l generalizing s with
  | nil => cases mem
  | cons j l ih =>
    have step : s.abortEach ban (j :: l) = (s.abortEntry ban j).abortEach ban l := rfl
    rw [step]
    rcases List.mem_cons.mp mem with rfl | mem
    · exact (State.abortEach_freed ban l _).none (s.abortEntry_gone ban i)
    · exact ih _ mem

/-! ## What an abort cancels -/

theorem State.handOutcome_node (s : State) (e : Entry) (o : EntryOutcome) (d : Option Nat) (q : Fin 64) :
    ((s.handOutcome e o d).robot q).node = (s.robot q).node := by
  have put (x : Robot) (h : x.node = (s.robot e.robot).node) : ((s.setRobot e.robot x).robot q).node = (s.robot q).node := by
    rw [State.robot_setRobot]
    split
    · next here => subst here; exact h
    · rfl
  unfold State.handOutcome
  split
  · rw [State.robot_congr ((s.handWeld_leads e o d).1.2 .rbc (by simp))]
  · unfold State.handDress
    cases o <;> simp only [State.count_robot, State.stationEvent_robot]
    exact put _ rfl
  · unfold State.handMaint
    cases o <;> simp only [State.count_robot] <;> exact put _ rfl

theorem State.endCore_node (s : State) (i : Fin 128) (o : EntryOutcome) (d : Option Nat) (ban : List (Fin 128))
    (q : Fin 64) : ((s.endCore i o d ban).robot q).node = (s.robot q).node := by
  unfold State.endCore
  split
  · rfl
  · next e _ =>
    dsimp only
    have freed : (((((s.releaseSupply i ban).modEntry i (fun e => { e with selectTimer := none })).handOutcome e o d).free i
        e.robot).robot q).node = (s.robot q).node := by
      rw [State.robot_congr ((State.free_leads _ _ _).1.2 .rbc (by simp)), State.handOutcome_node, State.modEntry_robot,
        State.releaseSupply_robot]
    rw [State.robot_setRobotState]
    split
    · next here => subst here; exact freed
    · exact freed

theorem State.abortEntry_node (s : State) (ban : List (Fin 128)) (i : Fin 128) (q : Fin 64) :
    ((s.abortEntry ban i).robot q).node = (s.robot q).node := by
  unfold State.abortEntry
  split
  · rfl
  · rw [State.endCore_node]
    split
    · rw [State.robot_congr ((State.issueToRobot_leads _ _ _).1.2 .rbc (by simp))]
    · rfl

theorem State.abortEach_node (ban : List (Fin 128)) (q : Fin 64) : ∀ (l : List (Fin 128)) (s : State),
    ((s.abortEach ban l).robot q).node = (s.robot q).node
  | [], _ => rfl
  | i :: l, s => (State.abortEach_node ban q l _).trans (s.abortEntry_node ban i q)

theorem State.abortEach_leads (s : State) (ban l : List (Fin 128)) :
    s.leads (s.abortEach ban l) [.lif, .dtr, .rbc, .spa, .stc, .emu] := foldl_leads (fun i t => t.abortEntry_leads ban i) l s

theorem State.abortEntry_cancels {s : State} {i : Fin 128} {e : Entry} (he : s.entry? i = some e)
    (beyond : e.state ≠ .queued) (node : s.lif.node?.isSome = true) (ban : List (Fin 128)) :
    .dispatchCancel (s.robot e.robot).node (s.tag i) ∈ (s.abortEntry ban i).issued := by
  have moving : e.beyondQueued = true := by simp [Entry.beyondQueued, beyond]
  simp only [State.abortEntry, he, moving, if_true]
  refine (State.endCore_leads _ _ _ _ _).2.1.subset ?_
  rw [State.issueToRobot, State.issue_issued node]
  exact List.mem_append_right _ List.mem_cons_self

/-- Every entry of an abort set that is beyond QUEUED is cancelled at its robot, whatever ended before it. -/
theorem State.endSet_cancels {s : State} {i : Fin 128} {e : Entry} (he : s.entry? i = some e) (beyond : e.state ≠ .queued)
    (node : s.lif.node?.isSome = true) {set : List (Fin 128)} (mem : i ∈ set) :
    .dispatchCancel (s.robot e.robot).node (s.tag i) ∈ (s.endSet set).issued := by
  obtain ⟨before, after, split, fresh⟩ := List.eq_append_cons_of_mem mem
  have led := s.abortEach_leads set before
  obtain ⟨issue, entry⟩ := State.abortEach_freed set before s i
  rcases entry with ⟨_, gone | out⟩ | ⟨x, supply, timer, hx, entry⟩
  · rw [gone] at he; cases he
  · exact absurd out fresh
  rw [he] at hx
  cases hx
  have here := State.abortEntry_cancels entry beyond (by rw [State.leads_node led]; exact node) set
  have tag : (s.abortEach set before).tag i = s.tag i := by rw [State.tag, issue, State.tag]
  rw [State.abortEach_node, tag] at here
  have whole : s.endSet set = ((s.abortEach set before).abortEntry set i).abortEach set after := by
    rw [State.endSet_eq]
    unfold State.abortEach
    conv_lhs => rw [show List.foldl (fun s i => State.abortEntry s set i) s set
      = List.foldl (fun s i => State.abortEntry s set i) s (before ++ i :: after) from by rw [← split]]
    rw [List.foldl_append, List.foldl_cons]
  rw [whole]
  exact (State.abortEach_leads _ _ _).2.1.subset here

end Sys2Proof.Machine
end

section
/-! What ends and offers leave of the stations and of the entries that stand. -/

namespace Sys2Proof.Machine

/-! ## The entries that stand (R67) -/

/-- No entry of a body or a station is new. -/
def State.Thins (s t : State) : Prop := ∀ i e', t.entry? i = some e' →
  ∃ e, s.entry? i = some e ∧ e'.body = e.body ∧ e'.station = e.station

section
variable {s t u : State}

theorem State.Thins.refl (s : State) : s.Thins s := fun _ e h => ⟨e, h, rfl, rfl⟩

theorem State.Thins.trans (h : s.Thins t) (k : t.Thins u) : s.Thins u := by
  intro i x hx
  obtain ⟨y, hy, body, station⟩ := k i x hx
  obtain ⟨e, he, body', station'⟩ := h i y hy
  exact ⟨e, he, body.trans body', station.trans station'⟩

theorem State.Thins.of_dtr (h : t.dtr = s.dtr) : s.Thins t := fun i e he => ⟨e, State.entry?_congr h i ▸ he, rfl, rfl⟩

theorem State.Freed.thins {l : List (Fin 128)} (h : s.Freed l t) : s.Thins t := by
  intro i x hx
  rcases (h i).2 with ⟨gone, _⟩ | ⟨e, _, _, he, now⟩
  · rw [gone] at hx; cases hx
  · rw [now] at hx
    cases hx
    exact ⟨e, he, rfl, rfl⟩

end

theorem State.attemptOffer_thins (s : State) (r : Fin 64) : s.Thins (s.attemptOffer r) := by
  unfold State.attemptOffer
  split
  · exact .refl s
  · next i _ =>
    split
    · exact .refl s
    · next e he =>
      split
      · split
        · exact (s.endCore_freed _ _ _ _).thins
        · intro j x hx
          rw [State.entry?, State.offer_place he] at hx
          split at hx
          · next here =>
            subst here
            cases hx
            exact ⟨e, he, rfl, rfl⟩
          · exact ⟨x, hx, rfl, rfl⟩
      · exact .refl s

theorem State.attemptOffers_thins (s : State) (rs : List (Fin 64)) : s.Thins (s.attemptOffers rs) :=
  foldl_keep (P := s.Thins) (fun r t h => h.trans (t.attemptOffer_thins r)) rs (.refl s)

/-! ## The stations (R84, R146) -/

/-- A slot into which outcomes may have been written: what its body brought stays. -/
structure Slot.Wrote (c d : Slot) : Prop where
  body : d.body = c.body
  build : d.build = c.build
  style : d.style = c.style
  stamp : d.stamp = c.stamp
  abortMark : d.abortMark = c.abortMark

/-- A station into whose slots outcomes may have been written, and whose CURRENT slot may have been released. -/
structure Station.Written (x y : Station) : Prop where
  config : y.config = x.config
  enabled : y.enabled = x.enabled
  bodyLost : y.bodyLost = x.bodyLost
  seatTimer : y.seatTimer = x.seatTimer
  cycleTimer : y.cycleTimer = x.cycleTimer ∨ y.cycleTimer = none
  absent : x.current = none → y.current = none
  current : ∀ c, x.current = some c → ∃ d, y.current = some d ∧ c.Wrote d
  vacant : x.next = none → y.next = none

theorem Slot.Wrote.refl (c : Slot) : c.Wrote c := ⟨rfl, rfl, rfl, rfl, rfl⟩

theorem Slot.Wrote.trans {c d f : Slot} (h : c.Wrote d) (k : d.Wrote f) : c.Wrote f :=
  ⟨k.body.trans h.body, k.build.trans h.build, k.style.trans h.style, k.stamp.trans h.stamp,
    k.abortMark.trans h.abortMark⟩

theorem Slot.outcome_wrote (c : Slot) (policy : Policy) (e : Entry) (o : EntryOutcome) (d : Option Nat) :
    c.Wrote (c.outcome policy e o d) := by
  unfold Slot.outcome Slot.write
  split <;> exact ⟨rfl, rfl, rfl, rfl, rfl⟩

section
variable {x y z : Station}

theorem Station.Written.refl (x : Station) : x.Written x :=
  ⟨rfl, rfl, rfl, rfl, .inl rfl, id, fun c h => ⟨c, h, .refl c⟩, id⟩

theorem Station.Written.trans (h : x.Written y) (k : y.Written z) : x.Written z where
  config := k.config.trans h.config
  enabled := k.enabled.trans h.enabled
  bodyLost := k.bodyLost.trans h.bodyLost
  seatTimer := k.seatTimer.trans h.seatTimer
  cycleTimer := by
    rcases k.cycleTimer with same | stopped
    · rw [same]
      exact h.cycleTimer
    · exact .inr stopped
  absent hx := k.absent (h.absent hx)
  current c hc := by
    obtain ⟨d, hd, first⟩ := h.current c hc
    obtain ⟨f, hf, second⟩ := k.current d hd
    exact ⟨f, hf, first.trans second⟩
  vacant hx := k.vacant (h.vacant hx)

theorem Station.Written.of_eq (h : y = x) : x.Written y := h ▸ .refl x

theorem Station.Released.written (h : x.Released y) : x.Written y := by
  rcases h with rfl | ⟨c, current, rfl⟩
  · exact .refl _
  · refine ⟨rfl, rfl, rfl, rfl, .inr rfl, fun absent => ?_, fun d hd => ?_, id⟩
    · rw [current] at absent; cases absent
    · rw [current] at hd
      cases hd
      exact ⟨_, rfl, rfl, rfl, rfl, rfl, rfl⟩

end

theorem State.writeOutcome_written (s : State) (e : Entry) (o : EntryOutcome) (d : Option Nat) (q : Fin 16) :
    (s.station q).Written ((s.writeOutcome e o d).station q) := by
  by_cases here : e.station = q
  case neg => exact .of_eq (s.writeOutcome_other e o d here)
  subst here
  cases owned : (s.station e.station).current.any (fun c => decide (c.body = e.body)) with
  | true =>
    obtain ⟨c, current, body⟩ := (Option.any_eq_true _ _).mp owned
    refine Station.Written.trans ?_ (State.writeOutcome_released current (of_decide_eq_true body) o d).written
    refine ⟨rfl, rfl, rfl, rfl, .inl rfl, fun absent => ?_, fun f hf => ?_, id⟩
    · rw [current] at absent; cases absent
    · rw [current] at hf
      cases hf
      exact ⟨_, rfl, Slot.outcome_wrote _ _ _ _ _⟩
  | false =>
    cases waiting : (s.station e.station).next.any (fun c => decide (c.body = e.body)) with
    | true =>
      obtain ⟨n, next, body⟩ := (Option.any_eq_true _ _).mp waiting
      rw [State.writeOutcome_of_next owned next (of_decide_eq_true body), State.updateStation_station, if_pos rfl]
      refine ⟨rfl, rfl, rfl, rfl, .inl rfl, id, fun c hc => ⟨c, hc, .refl c⟩, fun vacant => ?_⟩
      rw [next] at vacant
      cases vacant
    | false =>
      refine .of_eq ?_
      simp only [State.writeOutcome, owned, waiting, Bool.false_eq_true, if_false]

/-- A CURRENT slot of another body is not written. -/
theorem State.writeOutcome_current (s : State) (e : Entry) (o : EntryOutcome) (d : Option Nat) {q : Fin 16} {c : Slot}
    (current : (s.station q).current = some c) (other : e.body ≠ c.body) :
    ((s.writeOutcome e o d).station q).current = some c := by
  by_cases here : e.station = q
  case neg => rw [s.writeOutcome_other e o d here]; exact current
  subst here
  have missed : (s.station e.station).current.any (fun x => decide (x.body = e.body)) = false := by
    simp [current, Ne.symm other]
  cases waiting : (s.station e.station).next.any (fun c => decide (c.body = e.body)) with
  | true =>
    obtain ⟨n, next, body⟩ := (Option.any_eq_true _ _).mp waiting
    rw [State.writeOutcome_of_next missed next (of_decide_eq_true body), State.updateStation_station, if_pos rfl]
    exact current
  | false =>
    simp only [State.writeOutcome, missed, waiting, Bool.false_eq_true, if_false]
    exact current

section
variable {s : State} {i : Fin 128} {e : Entry}

/-- The stations after the end of an entry are those after its outcome was handed on. -/
theorem State.endCore_station_of (he : s.entry? i = some e) (o : EntryOutcome) (d : Option Nat) (ban : List (Fin 128)) :
    ∃ u, s.leads u [.dtr, .spa, .lif, .emu] ∧ ((s.endCore i o d ban).stc = u.stc
      ∨ (s.endCore i o d ban).stc = (u.writeOutcome e o d).stc) := by
  set v := (s.releaseSupply i ban).modEntry i (fun e => { e with selectTimer := none }) with hv
  have led : s.leads v [.dtr, .spa, .lif, .emu] :=
    State.leads_seq (s.releaseSupply_leads i ban) (State.modEntry_leads _ _ _) (by simp) (by simp)
  have stc : (s.endCore i o d ban).stc = (v.handOutcome e o d).stc := by
    simp only [State.endCore, he, State.setRobotState_stc]
    exact (State.free_leads _ _ _).1.2 .stc (by simp)
  by_cases weld : e.kind = .weld
  · obtain ⟨u, next, written⟩ := v.handWeld_eq e o d
    refine ⟨u, State.leads_seq led next (by simp) (by simp), .inr ?_⟩
    rw [stc, State.handOutcome, weld]
    exact congrArg State.stc written
  · exact ⟨v, led, .inl (stc.trans (v.handOutcome_stc weld o d))⟩

end

theorem State.endCore_written (s : State) (i : Fin 128) (o : EntryOutcome) (d : Option Nat) (ban : List (Fin 128))
    (q : Fin 16) : (s.station q).Written ((s.endCore i o d ban).station q) := by
  cases he : s.entry? i with
  | none => exact .of_eq (by simp only [State.endCore, he])
  | some e =>
    obtain ⟨u, led, same | written⟩ := State.endCore_station_of he o d ban
    · exact .of_eq ((State.station_congr same q).trans (State.station_congr (led.1.2 .stc (by simp)) q))
    · rw [State.station_congr written, ← State.station_congr (led.1.2 .stc (by simp)) q]
      exact u.writeOutcome_written e o d q

theorem State.endCore_current (s : State) (i : Fin 128) (o : EntryOutcome) (d : Option Nat) (ban : List (Fin 128))
    {q : Fin 16} {c : Slot} (current : (s.station q).current = some c)
    (other : ∀ e, s.entry? i = some e → e.body ≠ c.body) : ((s.endCore i o d ban).station q).current = some c := by
  cases he : s.entry? i with
  | none => simp only [State.endCore, he, current]
  | some e =>
    obtain ⟨u, led, same | written⟩ := State.endCore_station_of he o d ban
    · rw [State.station_congr same, State.station_congr (led.1.2 .stc (by simp))]
      exact current
    · rw [State.station_congr written]
      refine u.writeOutcome_current e o d ?_ (other e he)
      rw [State.station_congr (led.1.2 .stc (by simp))]
      exact current

theorem State.attemptOffer_written (s : State) (r : Fin 64) (q : Fin 16) :
    (s.station q).Written ((s.attemptOffer r).station q) := by
  unfold State.attemptOffer
  split
  · exact .refl _
  · split
    · exact .refl _
    · split
      · split
        · exact s.endCore_written _ _ _ _ q
        · exact .of_eq (State.station_congr ((s.offer_leads _ _).1.2 .stc (by simp)) q)
      · exact .refl _

theorem State.attemptOffer_current (s : State) (r : Fin 64) {q : Fin 16} {c : Slot}
    (current : (s.station q).current = some c) (other : ∀ i e, s.entry? i = some e → e.body ≠ c.body) :
    ((s.attemptOffer r).station q).current = some c := by
  unfold State.attemptOffer
  split
  · exact current
  · split
    · exact current
    · split
      · split
        · exact s.endCore_current _ _ _ _ current (other _)
        · rw [State.station_congr ((s.offer_leads _ _).1.2 .stc (by simp))]
          exact current
      · exact current

theorem State.attemptOffers_written (s : State) (rs : List (Fin 64)) (q : Fin 16) :
    (s.station q).Written ((s.attemptOffers rs).station q) :=
  foldl_keep (P := fun t => (s.station q).Written (t.station q)) (fun r t h => h.trans (t.attemptOffer_written r q)) rs
    (.refl _)

/-- Offers leave a CURRENT slot whose body has no entry. -/
theorem State.attemptOffers_current {q : Fin 16} {c : Slot} : ∀ (rs : List (Fin 64)) (s : State),
    (s.station q).current = some c → (∀ i e, s.entry? i = some e → e.body ≠ c.body) →
    ((s.attemptOffers rs).station q).current = some c
  | [], _, current, _ => current
  | r :: rs, s, current, other => by
    refine State.attemptOffers_current rs (s.attemptOffer r) (s.attemptOffer_current r current other) fun i x hx => ?_
    obtain ⟨e, he, body, _⟩ := s.attemptOffer_thins r i x hx
    rw [body]
    exact other i e he

theorem State.abortEntry_written (s : State) (ban : List (Fin 128)) (i : Fin 128) (q : Fin 16) :
    (s.station q).Written ((s.abortEntry ban i).station q) := by
  unfold State.abortEntry
  split
  · exact .refl _
  · refine Station.Written.trans (.of_eq ?_) (State.endCore_written _ _ _ _ _ q)
    split
    · exact State.station_congr ((State.issueToRobot_leads _ _ _).1.2 .stc (by simp)) q
    · rfl

theorem State.endSet_written (s : State) (set : List (Fin 128)) (q : Fin 16) :
    (s.station q).Written ((s.endSet set).station q) :=
  foldl_keep (P := fun t => (s.station q).Written (t.station q)) (fun i t h => h.trans (t.abortEntry_written set i q)) set
    (.refl _)

theorem State.abortSet_written (s : State) (set : List (Fin 128)) (q : Fin 16) :
    (s.station q).Written ((s.abortSet set).station q) :=
  (s.endSet_written set q).trans (State.attemptOffers_written _ _ q)

theorem State.abortSet_thins (s : State) (set : List (Fin 128)) : s.Thins (s.abortSet set) :=
  ((s.endSet_eq set ▸ State.abortEach_freed set set s).thins).trans (State.attemptOffers_thins _ _)

/-- After an abort no entry of its set stands. -/
theorem State.abortSet_gone (s : State) {set : List (Fin 128)} {i : Fin 128} (mem : i ∈ set) :
    (s.abortSet set).entry? i = none := by
  cases he : (s.abortSet set).entry? i with
  | none => rfl
  | some x =>
    obtain ⟨e, he, _⟩ := State.attemptOffers_thins _ _ i x he
    rw [State.endSet_eq, State.abortEach_gone set set s mem] at he
    cases he

theorem State.mem_entriesOfBody {s : State} {w : Word} {i : Fin 128} :
    i ∈ s.entriesOfBody w ↔ ∃ e, s.entry? i = some e ∧ e.body = w := by
  simp [State.entriesOfBody, allIndices, Option.any_eq_true]

theorem State.mem_entriesOf {s : State} {st : Fin 16} {i : Fin 128} :
    i ∈ s.entriesOf st ↔ ∃ e, s.entry? i = some e ∧ e.station = st := by
  simp [State.entriesOf, allIndices, Option.any_eq_true]

end Sys2Proof.Machine
end

section
/-! Departures (the statement O34). -/

namespace Sys2Proof.Machine

/-! ## Promotion and the loss of a body (R148, R149) -/

/-- A NEXT slot as it becomes CURRENT. -/
def Slot.promoted (n : Slot) (policy : Policy) : Slot := ({ n with state := .announced } : Slot).meetPolicy policy

theorem Slot.promoted_wrote (n : Slot) (policy : Policy) : n.Wrote (n.promoted policy) := by
  unfold Slot.promoted Slot.meetPolicy
  split <;> exact ⟨rfl, rfl, rfl, rfl, rfl⟩

theorem Slot.promoted_state (n : Slot) (policy : Policy) : (n.promoted policy).state = .announced := by
  unfold Slot.promoted Slot.meetPolicy
  split <;> rfl

theorem Slot.promoted_positions (n : Slot) (policy : Policy) : (n.promoted policy).positions = n.positions := by
  unfold Slot.promoted Slot.meetPolicy
  split <;> rfl

theorem Slot.promoted_reasons (n : Slot) (policy : Policy) : (n.promoted policy).reasons
    = { n.reasons with noStyle := n.reasons.noStyle || (n.style.isNone && decide (policy = .hold)) } := by
  unfold Slot.promoted Slot.meetPolicy
  by_cases hold : policy = .hold
  · cases n.style.isNone <;> simp [hold, ReasonSet.enter]
  · simp [hold]

theorem State.promote_station (s : State) (st q : Fin 16) : (s.promote st).station q = if st = q then
    { s.station st with
      current := (s.station st).next.map (·.promoted (s.station st).config.noStyle), next := none } else s.station q :=
  State.updateStation_station _ _ _ _

section
variable {s : State} {st : Fin 16} {c : Slot}

theorem State.departure_of_disabled (h : (s.station st).state = .disabled) : s.departure st = s := if_pos h

theorem State.departure_of_empty (h : (s.station st).current = none) : s.departure st = s := by
  by_cases off : (s.station st).state = .disabled
  · exact State.departure_of_disabled off
  · simp only [State.departure, h]
    exact if_neg off

theorem State.departure_of_slot (on : (s.station st).state ≠ .disabled) (h : (s.station st).current = some c) :
    s.departure st = if c.state = .released then s.promote st else s.loseBody st c := by
  simp only [State.departure, h]
  exact if_neg on

/-- The station with its body lost, ahead of the abort. -/
def State.bereft (s : State) (st : Fin 16) (c : Slot) : State :=
  (s.stationEvent st .bodyLost none (some c.body)).updateStation st
    { s.station st with bodyLost := true, seatTimer := none, cycleTimer := none }

theorem State.loseBody_eq (s : State) (st : Fin 16) (c : Slot) :
    s.loseBody st c = ((s.bereft st c).abortSet ((s.bereft st c).entriesOfBody c.body)).promote st := by
  unfold State.loseBody State.bereft
  dsimp only
  rw [State.station_congr ((s.stationEvent_leads _ _ _ _).1.2 .stc (by simp))]

theorem State.bereft_leads (s : State) (st : Fin 16) (c : Slot) : s.leads (s.bereft st c) [.lif, .emu, .stc] :=
  State.leads_seq (s.stationEvent_leads _ _ _ _) (State.updateStation_leads _ _ _) (by simp) (by simp)

theorem State.bereft_station (s : State) (st : Fin 16) (c : Slot) : (s.bereft st c).station st
    = { s.station st with bodyLost := true, seatTimer := none, cycleTimer := none } := by
  rw [State.bereft, State.updateStation_station, if_pos rfl]

/-- BODY_LOST is set, and what follows at the station leaves it set. -/
theorem State.loseBody_event (s : State) (st : Fin 16) (c : Slot) :
    ((s.loseBody st c).stationStatus st 2).set = true := by
  have first := s.stationEvent_set st .bodyLost none (some c.body)
  have second := (State.updateStation_tells true (s.stationEvent st .bodyLost none (some c.body)) st
    { s.station st with bodyLost := true, seatTimer := none, cycleTimer := none }).station _ _ first
  rw [State.loseBody_eq]
  exact ((State.abortSet_tells _ _).trans (State.promote_tells _ _ _)).station _ _ second

theorem State.loseBody_station (s : State) (st : Fin 16) (c : Slot) : ∃ x, (s.bereft st c |>.station st).Written x
    ∧ (s.loseBody st c).station st
      = { x with current := x.next.map (·.promoted x.config.noStyle), next := none } := by
  refine ⟨_, State.abortSet_written _ ((s.bereft st c).entriesOfBody c.body) st, ?_⟩
  rw [State.loseBody_eq, State.promote_station, if_pos rfl]

/-- No entry of the lost body is left at any station. -/
theorem State.loseBody_entry (s : State) (st : Fin 16) (c : Slot) {i : Fin 128} {x : Entry}
    (h : (s.loseBody st c).entry? i = some x) : x.body ≠ c.body := by
  rw [State.loseBody_eq, State.entry?_congr ((State.promote_leads _ _).1.2 .dtr (by simp))] at h
  intro lost
  obtain ⟨e, he, body, _⟩ := State.abortSet_thins _ _ i x h
  rw [State.abortSet_gone _ (State.mem_entriesOfBody.mpr ⟨e, he, body.symm.trans lost⟩)] at h
  cases h

theorem State.loseBody_cancels (s : State) (st : Fin 16) (c : Slot) {i : Fin 128} {e : Entry}
    (node : s.lif.node?.isSome = true) (he : s.entry? i = some e) (body : e.body = c.body) (beyond : e.state ≠ .queued) :
    .dispatchCancel (s.robot e.robot).node (s.tag i) ∈ (s.loseBody st c).issued := by
  have led := s.bereft_leads st c
  have entry : (s.bereft st c).entry? i = some e := (State.entry?_congr (led.1.2 .dtr (by simp)) i).trans he
  have sent := State.endSet_cancels entry beyond (by rw [State.leads_node led]; exact node)
    (State.mem_entriesOfBody.mpr ⟨e, entry, body⟩)
  have tag : (s.bereft st c).tag i = s.tag i := by
    rw [State.tag, State.tag, State.place_congr (led.1.2 .dtr (by simp))]
  rw [State.robot_congr (led.1.2 .rbc (by simp)), tag] at sent
  rw [State.loseBody_eq]
  exact ((State.attemptOffers_leads _ _).2.1.trans (State.promote_leads _ _).2.1).subset sent

end

/-- Levels at which CLAMPED and MANUAL are as before: the departure edge alone. -/
theorem State.stationInput_of_present {s : State} {st : Fin 16} {input : Byte}
    (clamped : input.getLsbD 1 = (s.panel st).clamped) (manual : input.getLsbD 2 = (s.panel st).manual) :
    State.stationInput st input s
      = if (s.station st).config.departureEdge.selects (s.panel st).present (input.getLsbD 0) then
          (s.levelled st input).departure st else s.levelled st input := by
  have still (m : EdgeMode) (b : Bool) : m.selects b b = false := by cases m <;> cases b <;> rfl
  simp only [State.stationInput, clamped, manual, still, State.levelled, Panel.taken]
  simp

/-- Settles O34: the one station whose PRESENT level may have changed has its departure, and nothing else is called for. -/
theorem departureEdge : Obligations.DepartureEdge := by
  intro s v st ready settled line queue levels
  have node := (s.ready_iff.mp ready).2
  have others (q : Fin 16) (hq : q ≠ st) : (s.begin.panel q).taken v[q] = s.begin.panel q := by
    obtain ⟨clamped, manual, present⟩ := levels q
    rw [Panel.taken, clamped, manual, present hq]
    rfl
  obtain ⟨clamped, manual, _⟩ := levels st
  set l := s.begin.levelled st v[st] with hl
  have taken : s.begin.leads l [.piu] := s.begin.setPanel_leads _ _
  have ran : s.begin.stationInputs s.mge.lineNode v
      = if (s.station st).config.departureEdge.selects (s.panel st).present ((v[st]).getLsbD 0) then l.departure st else l :=
    (State.stationInputs_of_single (s := s.begin) line others).trans
      (State.stationInput_of_present (s := s.begin) clamped manual)
  have executed {t : State} (ht : s.begin.stationInputs s.mge.lineNode v = t) :
      exec (.stationInputs s.mge.lineNode v) s = .next t.finish :=
    congrArg Host.Outcome.next ((State.telegram_of_ready ready _).trans (congrArg State.finish ht))
  refine ⟨fun edge on => ⟨fun c current released => ?_, fun c current there => ?_, fun empty => ?_⟩, fun idle => ?_⟩
  · have alone := (ran.trans (if_pos edge)).trans
      ((State.departure_of_slot (s := l) on current).trans (if_pos released))
    have led : s.begin.leads (l.promote st) [.lif, .stc, .piu, .emu] :=
      State.leads_seq taken (l.promote_leads st) (by simp) (by simp)
    have calm : (l.promote st).calm := State.calm_of_queue led queue
    have station (q : Fin 16) : (l.promote st).finish.station q = (l.promote st).station q :=
      State.station_congr ((State.finish_keeps_of_calm calm).2 .stc (by simp)) q
    have here : (l.promote st).finish.station st = { s.station st with
        current := (s.station st).next.map (·.promoted (s.station st).config.noStyle), next := none } :=
      (station st).trans ((l.promote_station st st).trans (if_pos rfl))
    refine ⟨_, executed alone, by rw [here], fun vacant => by rw [here, vacant]; rfl, fun n next => ?_, fun q other => ?_,
      State.finish_reported_of_calm calm, State.finish_keeps_of_leads led calm⟩
    · have wrote := n.promoted_wrote (s.station st).config.noStyle
      exact ⟨n.promoted (s.station st).config.noStyle, by rw [here, next]; rfl, n.promoted_state _, wrote.body, wrote.build,
        wrote.style, wrote.stamp, wrote.abortMark, n.promoted_positions _, n.promoted_reasons _⟩
    · rw [station, State.promote_station, if_neg (Ne.symm other)]
      rfl
  · have alone := (ran.trans (if_pos edge)).trans
      ((State.departure_of_slot (s := l) on current).trans (if_neg there))
    have led : s.begin.leads (l.loseBody st c) (.piu :: workBlocks) :=
      State.leads_seq taken (l.loseBody_leads st c) (by simp) (by simp)
    have calm : (l.loseBody st c).calm := State.calm_of_queue led queue
    have kept := (State.finish_keeps_of_calm calm).2
    obtain ⟨x, written, after⟩ := l.loseBody_station st c
    rw [State.bereft_station] at written
    have here := (State.station_congr (kept .stc (by simp)) st).trans after
    have open_ : (s.station st).enabled = true := (Station.enabled_iff _).mpr on
    have enabled : x.enabled = true := written.enabled.trans open_
    refine ⟨_, executed alone, (State.finish_tells _).station _ _ (l.loseBody_event st c), by rw [here]; exact written.bodyLost,
      ?_, by rw [here]; exact written.seatTimer, ?_, by rw [here], fun vacant => ?_, fun i e he => ?_,
      fun i e he body beyond => ?_⟩
    · rw [here, Station.state_eq_held]
      exact ⟨enabled, by simp [written.bodyLost]⟩
    · rw [here]
      exact written.cycleTimer.elim id id
    · rw [here, written.vacant vacant]
      rfl
    · rw [State.entry?_congr (kept .dtr (by simp))] at he
      exact l.loseBody_entry st c he
    · exact (State.finish_issued _).subset (l.loseBody_cancels st c node he body beyond)
  · exact exec_of_levelled ready settled ((ran.trans (if_pos edge)).trans (State.departure_of_empty (s := l) empty))
  · by_cases edge : (s.station st).config.departureEdge.selects (s.panel st).present ((v[st]).getLsbD 0) = true
    · have off := idle.resolve_left fun other => absurd (edge.symm.trans other) (by decide)
      exact exec_of_levelled ready settled ((ran.trans (if_pos edge)).trans (State.departure_of_disabled (s := l) off))
    · exact exec_of_levelled ready settled (ran.trans (if_neg edge))

end Sys2Proof.Machine
end

section
/-! A station of which nothing is left: the removal of its arrivals (R60), and what offers and passes leave of it. -/

namespace Sys2Proof.Machine

/-! ## Nothing left of a station -/

/-- A station's record, where no arrival waits for it and no entry stands of it. -/
structure State.Vacated (st : Fin 16) (x : Station) (t : State) : Prop where
  station : t.station st = x
  arrivals : ∀ a ∈ t.arq.queue, a.station ≠ st
  entries : ∀ (i : Fin 128) (e : Entry), t.entry? i = some e → e.station ≠ st

section
variable {st : Fin 16} {x : Station} {s t : State}

theorem State.Vacated.of_records (h : s.Vacated st x) (station : t.station st = s.station st) (queue : t.arq.queue = s.arq.queue)
    (thins : s.Thins t) : t.Vacated st x where
  station := station.trans h.station
  arrivals := queue ▸ h.arrivals
  entries i e he := by
    obtain ⟨e', he', _, same⟩ := thins i e he
    rw [same]
    exact h.entries i e' he'

theorem State.Vacated.of_leads (h : s.Vacated st x) {l : List Block} (led : s.leads t l) (stc : .stc ∉ l := by simp)
    (arq : .arq ∉ l := by simp) (dtr : .dtr ∉ l := by simp) : t.Vacated st x :=
  h.of_records (State.station_congr (led.1.2 .stc stc) st) (congrArg Arq.queue (led.1.2 .arq arq))
    (.of_dtr (led.1.2 .dtr dtr))

theorem State.Vacated.setQueue (h : s.Vacated st x) {q : List Arrival} (hq : ∀ a ∈ q, a.station ≠ st) :
    (s.setQueue q).Vacated st x :=
  ⟨h.station, hq, h.entries⟩

theorem State.Vacated.setStation (h : s.Vacated st x) (y : Station) : (s.setStation st y).Vacated st y :=
  ⟨by simp, h.arrivals, h.entries⟩

/-! ## Offers -/

/-- The end of an entry does not write a station of which no entry stands. -/
theorem State.Vacated.endCore (h : s.Vacated st x) (i : Fin 128) (o : EntryOutcome) (d : Option Nat)
    (ban : List (Fin 128)) : (s.endCore i o d ban).Vacated st x := by
  refine h.of_records ?_ (congrArg Arq.queue ((s.endCore_leads i o d ban).1.2 .arq (by simp))) (s.endCore_freed i o d ban).thins
  cases he : s.entry? i with
  | none => simp only [State.endCore, he]
  | some e =>
    obtain ⟨u, led, same | written⟩ := State.endCore_station_of he o d ban
    · exact (State.station_congr same st).trans (State.station_congr (led.1.2 .stc (by simp)) st)
    · rw [State.station_congr written, u.writeOutcome_other e o d (h.entries i e he)]
      exact State.station_congr (led.1.2 .stc (by simp)) st

theorem State.Vacated.attemptOffer (h : s.Vacated st x) (r : Fin 64) : (s.attemptOffer r).Vacated st x := by
  have thins := s.attemptOffer_thins r
  revert thins
  unfold State.attemptOffer
  split
  · exact fun _ => h
  · split
    · exact fun _ => h
    · split
      · split
        · exact fun _ => h.endCore _ _ _ _
        · have led := s.offer_leads
          exact fun thins => h.of_records (State.station_congr ((led _ _).1.2 .stc (by simp)) st)
            (congrArg Arq.queue ((led _ _).1.2 .arq (by simp))) thins
      · exact fun _ => h

theorem State.Vacated.attemptOffers (h : s.Vacated st x) (rs : List (Fin 64)) : (s.attemptOffers rs).Vacated st x :=
  foldl_keep (P := State.Vacated st x) (fun r _ h => h.attemptOffer r) rs h

/-! ## The pass -/

theorem State.Vacated.append (h : s.Vacated st x) {e : Entry} (he : e.station ≠ st) : (s.append e).Vacated st x := by
  cases free : s.lowestFree? with
  | none => rwa [State.append_of_none free]
  | some i =>
    rw [State.append_of_some free]
    refine ⟨h.station, h.arrivals, fun j y hy => ?_⟩
    have entry : ((s.setEntry i (some e)).setList e.robot (s.list e.robot ++ [i])).entry? j = if i = j then some e else s.entry? j :=
      s.entry_setEntry i j _
    rw [entry] at hy
    split at hy
    · cases hy
      exact he
    · exact h.entries j y hy

theorem State.Vacated.createFor (h : s.Vacated st x) {q : Fin 16} (other : q ≠ st) (body : Word) (p : Plan) :
    (State.createFor q body p s).Vacated st x := by
  unfold State.createFor
  split
  · exact h
  · dsimp only
    refine State.Vacated.append ?_ other
    split
    · exact h.append other
    · exact h

theorem State.Vacated.writeSlot (h : s.Vacated st x) {q : Fin 16} (other : q ≠ st) (slot : Slot) :
    (s.writeSlot q slot).Vacated st x := by
  have led := s.writeSlot_leads q slot
  refine h.of_records ?_ (congrArg Arq.queue (led.1.2 .arq (by simp))) (.of_dtr (led.1.2 .dtr (by simp)))
  unfold State.writeSlot
  dsimp only
  split <;> rw [State.updateStation_station, if_neg other]

theorem State.Vacated.allocate (h : s.Vacated st x) {a : Arrival} (other : a.station ≠ st) (style : Option (Fin 64))
    (plans : List Plan) {queue : List Arrival} (hq : ∀ b ∈ queue, b.station ≠ st) :
    (s.allocate a style plans queue).Vacated st x := by
  refine State.Vacated.attemptOffers (State.Vacated.of_leads (State.Vacated.setQueue ?_ hq) (State.dropStamp_leads _ _)) _
  exact forAll_keep (P := State.Vacated st x) (fun p _ h => h.createFor other a.body p) plans (h.writeSlot other _)

theorem Arrival.skipped_station (a : Arrival) : a.skipped.station = a.station := by
  unfold Arrival.skipped
  split <;> rfl

/-- A pass over arrivals of other stations leaves a vacated station as it is. -/
theorem State.Vacated.passWalk : ∀ (l ahead : List Arrival) {s : State}, (∀ a ∈ ahead ++ l, a.station ≠ st) →
    s.Vacated st x → (passWalk ahead l s).Vacated st x
  | [], _, _, _, h => h
  | a :: rest, ahead, s, others, h => by
    have other : a.station ≠ st := others a (by simp)
    unfold Sys2Proof.Machine.passWalk
    split
    · dsimp only
      split
      · have left : ∀ b ∈ ahead ++ rest, b.station ≠ st := fun b hb => others b (by
          simp only [List.mem_append, List.mem_cons] at hb ⊢
          exact hb.imp_right .inr)
        exact State.Vacated.passWalk rest ahead left (h.allocate other _ _ left)
      · have left : ∀ b ∈ ahead ++ a.skipped :: rest, b.station ≠ st := fun b hb => by
          rcases List.mem_append.mp hb with front | tail
          · exact others b (List.mem_append_left _ front)
          · rcases List.mem_cons.mp tail with rfl | behind
            · rw [Arrival.skipped_station]
              exact other
            · exact others b (by simp [behind])
        refine State.Vacated.passWalk rest _ (by simpa using left) ?_
        exact (h.setQueue left).of_leads (State.skipEvents_leads _ _ _)
    · exact State.Vacated.passWalk rest _ (by simpa using others) h

theorem State.Vacated.runPass (h : s.Vacated st x) : s.runPass.Vacated st x := by
  unfold State.runPass
  split
  · have walked := State.Vacated.passWalk s.arq.queue [] (by simpa using h.arrivals) h
    exact ⟨walked.station, walked.arrivals, walked.entries⟩
  · exact h

theorem State.Vacated.finish (h : s.Vacated st x) : s.finish.Vacated st x := by
  have compared := h.runPass.of_leads (State.comparePoint_leads _)
  exact ⟨compared.station, compared.arrivals, compared.entries⟩

/-- The completion of a request, and the end of its event, leave a vacated station as it is. -/
theorem State.Vacated.complete (h : s.Vacated st x) (m : MgmtEntry) (a : Result × List Byte) (rest : List MgmtEntry) :
    (s.complete m a rest).Vacated st x := by
  have answered := (h.runPass.of_leads (State.comparePoint_leads _)).of_leads (State.respond_leads _ m a.1 a.2)
  exact ⟨answered.station, answered.arrivals, answered.entries⟩

end

/-! ## The removal of a station's arrivals (R60) -/

section
variable {s : State} {st : Fin 16}

theorem State.removeArrival_queue (a : Arrival) (s : State) : (State.removeArrival a s).arq.queue = s.arq.queue.erase a := by
  have led := State.leads_seq (n := [.tbs, .emu, .lif])
    (State.refuseArrival_leads (s.setQueue (s.arq.queue.erase a)) 0 (some a.station) a.body .station)
    (State.dropStamp_leads _ a.stamp) (by simp) (by simp)
  exact congrArg Arq.queue (led.1.2 .arq (by simp))

theorem State.forAll_removeArrival_queue : ∀ (l : List Arrival) (s : State),
    (forAll l State.removeArrival s).arq.queue = s.arq.queue.diff l
  | [], _ => rfl
  | a :: l, s => by
    rw [forAll_cons, State.forAll_removeArrival_queue l, State.removeArrival_queue, List.diff_cons]

/-- No arrival of the station is left, and no other has come. -/
theorem State.mem_removeArrivals {a : Arrival} (h : a ∈ (s.removeArrivals st).arq.queue) : a.station ≠ st := by
  intro same
  rw [State.removeArrivals, State.forAll_removeArrival_queue, ← List.count_pos_iff, List.count_diff,
    List.count_filter (by simpa using same)] at h
  omega

theorem State.removeArrival_issued (a : Arrival) (node : s.lif.node?.isSome = true) (line : s.lineInUse ≠ 0) :
    .arrivalAck s.lineInUse 0 a.body (some .station) ∈ (State.removeArrival a s).issued := by
  have refused := State.refuseArrival_issued (s := s.setQueue (s.arq.queue.erase a)) node line 0 (some a.station) a.body .station
  have sent : .arrivalAck s.lineInUse 0 a.body (some .station)
      ∈ ((s.setQueue (s.arq.queue.erase a)).refuseArrival 0 (some a.station) a.body .station).issued :=
    refused.subset (List.mem_append_right _ List.mem_cons_self)
  exact (State.dropStamp_leads _ a.stamp).2.1.subset sent

/-- Each removed arrival is answered. -/
theorem State.forAll_removeArrival_issued {a : Arrival} (l : List Arrival) (s : State) (node : s.lif.node?.isSome = true)
    (line : s.lineInUse ≠ 0) (mem : a ∈ l) :
    .arrivalAck s.lineInUse 0 a.body (some .station) ∈ (forAll l State.removeArrival s).issued := by
  obtain ⟨before, after, split⟩ := List.append_of_mem mem
  have led := forAll_leads (fun a s => State.removeArrival_leads a s) before s
  have inUse : (forAll before State.removeArrival s).lineInUse = s.lineInUse := by
    unfold State.lineInUse
    rw [led.2.2.2.2.2 (by simp), led.1.2 .mge (by simp)]
  have here := State.removeArrival_issued a ((congrArg Option.isSome (State.leads_node led)).trans node)
    (by rw [inUse]; exact line)
  rw [split, forAll_append, forAll_cons]
  rw [inUse] at here
  exact (forAll_leads (fun a s => State.removeArrival_leads a s) after _).2.1.subset here

end

end Sys2Proof.Machine
end

section
/-! Stations that are disabled (the statement O26). -/

namespace Sys2Proof.Machine

/-! ## The cleanup (R138) -/

section
variable {s : State} {st : Fin 16}

/-- The station disabled, and its arrivals removed. -/
def State.shut (s : State) (st : Fin 16) : State :=
  (s.setStation st { s.station st with enabled := false }).removeArrivals st

/-- The station with its entries aborted too. -/
def State.emptied (s : State) (st : Fin 16) : State := (s.shut st).abortSet ((s.shut st).entriesOf st)

/-- The record of a station that is out of service. -/
def Station.cleared (x : Station) : Station := ⟨x.config, false, false, none, none, none, none⟩

theorem State.cleanup_eq (s : State) (st : Fin 16) : ∃ (rs : List (Fin 64)) (u : State),
    u = ((s.emptied st).returnFaulted st).attemptOffers rs
    ∧ s.cleanup st = (u.setStation st { u.station st with
        bodyLost := false, seatTimer := none, cycleTimer := none, current := none, next := none }).callPass :=
  ⟨_, _, rfl, rfl⟩

theorem State.shut_leads (s : State) (st : Fin 16) : s.leads (s.shut st) [.stc, .arq, .tbs, .emu, .lif] :=
  State.leads_seq (s.setStation_leads st _) (State.removeArrivals_leads _ _) (by simp) (by simp)

theorem State.shut_station (s : State) (st : Fin 16) : (s.shut st).station st = { s.station st with enabled := false } := by
  rw [State.shut, State.station_congr ((State.removeArrivals_leads _ _).1.2 .stc (by simp)), State.station_setStation, if_pos rfl]

/-- The abort leaves neither an arrival nor an entry of the station. -/
theorem State.emptied_vacated (s : State) (st : Fin 16) : (s.emptied st).Vacated st ((s.emptied st).station st) where
  station := rfl
  arrivals a ha := by
    have queue : (s.emptied st).arq.queue = (s.shut st).arq.queue :=
      congrArg Arq.queue ((State.abortSet_leads _ _).1.2 .arq (by simp))
    rw [queue] at ha
    exact State.mem_removeArrivals ha
  entries i e he := by
    intro here
    obtain ⟨e', he', _, same⟩ := State.abortSet_thins _ _ i e he
    have gone := (s.shut st).abortSet_gone (State.mem_entriesOf.mpr ⟨e', he', same.symm.trans here⟩)
    rw [State.emptied, gone] at he
    cases he

/-- The cleanup leaves nothing of the station. -/
theorem State.cleanup_vacated (s : State) (st : Fin 16) : (s.cleanup st).Vacated st (s.station st).cleared := by
  obtain ⟨rs, u, hu, eq⟩ := s.cleanup_eq st
  have vacated : u.Vacated st ((s.emptied st).station st) := by
    rw [hu]
    exact ((s.emptied_vacated st).of_leads (State.returnFaulted_leads _ _)).attemptOffers rs
  have written : ((s.shut st).station st).Written ((s.emptied st).station st) := State.abortSet_written _ _ st
  rw [State.shut_station] at written
  have cleared := vacated.setStation { u.station st with
    bodyLost := false, seatTimer := none, cycleTimer := none, current := none, next := none }
  have record : ({ u.station st with bodyLost := false, seatTimer := none, cycleTimer := none, current := none, next := none }
      : Station) = (s.station st).cleared := by
    change (⟨(u.station st).config, (u.station st).enabled, false, none, none, none, none⟩ : Station) = _
    rw [vacated.station, written.config, written.enabled]
    rfl
  rw [record] at cleared
  rw [eq, record]
  exact ⟨cleared.station, cleared.arrivals, cleared.entries⟩

theorem State.emptied_issued (s : State) (st : Fin 16) : (s.emptied st).issued <+: (s.cleanup st).issued := by
  obtain ⟨rs, u, hu, eq⟩ := s.cleanup_eq st
  have first := (State.leads_seq (n := passBlocks) (State.returnFaulted_leads (s.emptied st) st)
    (State.attemptOffers_leads _ rs) (by simp) (by simp)).2.1
  rw [← hu] at first
  rw [eq]
  exact first

/-- Every removed arrival is answered. -/
theorem State.cleanup_refuses {a : Arrival} (node : s.lif.node?.isSome = true) (line : s.lineInUse ≠ 0)
    (mem : a ∈ s.arq.queue) (here : a.station = st) :
    .arrivalAck s.lineInUse 0 a.body (some .station) ∈ (s.cleanup st).issued := by
  have sent : .arrivalAck s.lineInUse 0 a.body (some .station) ∈ (s.shut st).issued :=
    State.forAll_removeArrival_issued _ (s.setStation st { s.station st with enabled := false }) node line
      (List.mem_filter.mpr ⟨mem, by simpa using here⟩)
  exact (s.emptied_issued st).subset ((State.abortSet_leads _ _).2.1.subset sent)

/-- The robot of every entry that is beyond QUEUED is told. -/
theorem State.cleanup_cancels {i : Fin 128} {e : Entry} (node : s.lif.node?.isSome = true) (he : s.entry? i = some e)
    (here : e.station = st) (beyond : e.state ≠ .queued) :
    .dispatchCancel (s.robot e.robot).node (s.tag i) ∈ (s.cleanup st).issued := by
  have led := s.shut_leads st
  have entry : (s.shut st).entry? i = some e := (State.entry?_congr (led.1.2 .dtr (by simp)) i).trans he
  have sent := State.endSet_cancels entry beyond (by rw [State.leads_node led]; exact node)
    (State.mem_entriesOf.mpr ⟨e, entry, here⟩)
  have tag : (s.shut st).tag i = s.tag i := by
    rw [State.tag, State.tag, State.place_congr (led.1.2 .dtr (by simp))]
  rw [State.robot_congr (led.1.2 .rbc (by simp)), tag] at sent
  exact (s.emptied_issued st).subset ((State.attemptOffers_leads _ _).2.1.subset sent)

end

/-! ## Which robots are DISABLED -/

/-- The robots that are DISABLED are the same. -/
def State.sameDisabled (s t : State) : Prop := ∀ q : Fin 64, (s.robot q).state = .disabled ↔ (t.robot q).state = .disabled

theorem workKept_sameDisabled (s : State) : WorkKept (fun _ => True) s.sameDisabled := by
  have write {t : State} (h : s.sameDisabled t) (r : Fin 64) {x : Robot}
      (hx : x.state = .disabled ↔ (t.robot r).state = .disabled) : s.sameDisabled (t.setRobot r x) := by
    refine State.forall_setRobot (p := fun q x => (s.robot q).state = .disabled ↔ x.state = .disabled) h ?_
    exact (h r).trans hx.symm
  refine WorkKept.of_robots (fun h rbc q => by rw [State.robot_congr rbc]; exact h q) (fun t r x state _ _ h => ?_)
    (fun t r x same h => write h r same)
  exact write h r (by rw [state])

theorem State.cleanup_sameDisabled (s : State) (st : Fin 16) : s.sameDisabled (s.cleanup st) := by
  have w := workKept_sameDisabled s
  obtain ⟨rs, u, hu, eq⟩ := s.cleanup_eq st
  have shut : s.sameDisabled (s.shut st) := fun q => by
    rw [State.robot_congr ((s.shut_leads st).1.2 .rbc (by simp))]
  have kept : s.sameDisabled u := by
    rw [hu]
    exact w.attemptOffers _ rs (w.returnFaulted _ st (w.abortSet _ _ shut))
  rw [eq]
  exact kept

theorem State.sameDisabled.complete {s t : State} (h : s.sameDisabled t) (m : MgmtEntry) (a : Result × List Byte)
    (rest : List MgmtEntry) : s.sameDisabled (t.complete m a rest) := by
  have w := workKept_sameDisabled s
  have compared := w.comparePoint _ (w.runPass _ h)
  have rbc : (t.complete m a rest).rbc = t.runPass.comparePoint.rbc :=
    (t.runPass.comparePoint.respond_leads m a.1 a.2).1.2 .rbc (by simp)
  exact fun q => by rw [State.robot_congr rbc]; exact compared q

/-! ## The answer -/

theorem bare_of_eq {a : State × Result} {t : State} {r : Result} (h : a = (t, r)) : bare a = (t, r, []) := h ▸ rfl

/-- A request that is executed is answered at the end of its event, behind what was issued before. -/
theorem State.request_issued {s u : State} {f : Sender} {r : Request} {result : Result} {payload : List Byte}
    (quiet : s.quiet = true) (job : (s.posed f r).jobOf? r = none) (ran : (s.posed f r).run r = (u, result, payload))
    (nodeKept : u.lif.node? = s.lif.node?) :
    u.issued <+: (s.request f r).issued ∧ (s.request f r).issued.getLast?
      = some (.mgmtResponse f.node f.seq (requestCode r) result (if result = .ok then payload else [])) := by
  obtain ⟨⟨_, node⟩, _, _⟩ := s.quiet_iff.mp quiet
  rw [State.request_eq quiet job, ran]
  set c := u.runPass.comparePoint with hc
  have led : u.leads c passBlocks := State.leads_seq u.runPass_leads (State.comparePoint_leads _) (by simp) (by simp)
  have pass : u.runPass.passDue = false := by
    unfold State.runPass
    split
    · rfl
    · next idle => simpa using idle
  have done : (u.complete ⟨f, r⟩ (result, payload) []).passDue = false :=
    (State.issue_passDue _ _).trans ((State.comparePoint_passDue _).trans pass)
  have settled : (u.complete ⟨f, r⟩ (result, payload) []).settled = true :=
    (State.keeps_settled (c.respond_leads ⟨f, r⟩ result payload).1 (by simp) (by simp) (by simp)).trans
      (State.comparePoint_settled _)
  have sent : (u.complete ⟨f, r⟩ (result, payload) []).issued
      = c.issued ++ [.mgmtResponse f.node f.seq (requestCode r) result (if result = .ok then payload else [])] :=
    State.issue_issued (by rw [State.leads_node led, nodeKept]; exact node) _
  rw [State.finish_of_calm_settled (.inl done) settled]
  refine ⟨?_, (congrArg List.getLast? sent).trans List.getLast?_concat⟩
  have first : u.issued <+: (u.complete ⟨f, r⟩ (result, payload) []).issued := by
    rw [sent]
    exact led.2.1.trans (List.prefix_append _ _)
  exact first

/-- Settles O26: the cleanup leaves nothing of the station, tells the line and the robots, and the pass that it calls for has no
arrival of the station. -/
theorem stationDisabled : Obligations.StationDisabled := by
  intro s f b quiet
  obtain ⟨⟨running, node⟩, empty, settled⟩ := s.quiet_iff.mp quiet
  refine ⟨fun st hb => ⟨fun on => ?_, fun off => ?_⟩, fun above => ?_⟩
  · have enabled : (s.station st).enabled = true := (Station.enabled_iff _).mpr on
    set p := s.posed f (.stationDisable b) with hp
    have ran : p.run (.stationDisable b) = (p.cleanup st, .ok, []) := by
      have done : p.stationDisable b = (p.cleanup st, .ok) := by
        simp only [State.stationDisable, below?_eq_some.mpr hb]
        exact if_pos enabled
      exact bare_of_eq done
    have w := workKept_sameDisabled p
    have nodeKept : (p.cleanup st).lif.node? = p.lif.node? := State.leads_node (p.cleanup_leads st)
    obtain ⟨first, last⟩ := State.request_issued (f := f) (r := .stationDisable b) quiet rfl ran nodeKept
    have ended : s.request f (.stationDisable b) = ((p.cleanup st).complete ⟨f, .stationDisable b⟩ (.ok, []) []).finish := by
      rw [State.request_eq quiet rfl, ← hp, ran]
    have vacated : (s.request f (.stationDisable b)).Vacated st (s.station st).cleared := by
      rw [ended]
      exact ((p.cleanup_vacated st).complete _ _ _).finish
    refine ⟨_, rfl, vacated.station, vacated.arrivals, vacated.entries, ?_, fun line a ha here => first.subset ?_,
      fun i e he here beyond => first.subset ?_, last⟩
    · have kept : p.sameDisabled (s.request f (.stationDisable b)) := by
        rw [ended]
        exact w.finish _ ((p.cleanup_sameDisabled st).complete _ _ _)
      exact kept
    · exact State.cleanup_refuses (s := p) node line ha here
    · exact State.cleanup_cancels (s := p) node he here beyond
  · have disabled : (s.station st).enabled ≠ true := fun on => (Station.enabled_iff _).mp on off
    refine congrArg Host.Outcome.next (State.request_of_bare (r := .stationDisable b) quiet rfl (congrArg bare ?_))
    simp only [State.stationDisable, below?_eq_some.mpr hb]
    exact if_neg disabled
  · refine congrArg Host.Outcome.next (State.request_of_bare (r := .stationDisable b) quiet rfl (congrArg bare ?_))
    simp only [State.stationDisable, below?_of_le above]

end Sys2Proof.Machine
end

section
/-! Ownership conflicts (the statement O46). -/

namespace Sys2Proof.Machine

/-! ## What the work of events leaves of the frames to forward and of the ACTIVE bank -/

/-- The frames that wait to be forwarded, and the ACTIVE bank. -/
def State.carried (s : State) : (List Frame × List Frame) × BankId := ((s.lif.p1.forward, s.lif.p2.forward), s.tbs.active)

theorem State.carried_congr {s t : State} (lif : t.lif = s.lif) (tbs : t.tbs = s.tbs) : t.carried = s.carried := by
  rw [State.carried, State.carried, lif, tbs]

theorem State.carried_of_leads {s t : State} {l : List Block} (h : s.leads t l) (lif : .lif ∉ l := by simp)
    (tbs : .tbs ∉ l := by simp) : t.carried = s.carried := State.carried_congr (h.1.2 .lif lif) (h.1.2 .tbs tbs)

theorem State.issue_carried (s : State) (x : Telegram) : (s.issue x).carried = s.carried := by
  unfold State.issue
  split
  · rfl
  · simp [State.carried, Port.give_eq]

theorem State.deviceEvent_carried (s : State) (e : DeviceEvent) (c : Capture) : (s.deviceEvent e c).carried = s.carried := by
  unfold State.deviceEvent
  dsimp only
  split
  · unfold State.report
    split
    · rfl
    · exact State.issue_carried _ _
  · rfl

theorem State.dropStamp_carried (s : State) (id : BankId) : (s.dropStamp id).carried = s.carried := by
  have put : (s.setBank id { s.bank id with stamps := (s.bank id).stamps - 1 }).carried = s.carried := by
    cases id <;> rfl
  unfold State.dropStamp State.endDrain
  split
  · exact (State.deviceEvent_carried _ _ _).trans put
  · exact put

theorem State.grant_carried (s : State) (g : Fin 8) (i : Fin 128) : (s.grant g i).carried = s.carried := by
  cases he : s.entry? i with
  | none => simp only [State.grant, he]
  | some e =>
    rw [State.grant_of_some he]
    exact State.issue_carried _ _

theorem State.releaseSupply_carried (s : State) (i : Fin 128) (ban : List (Fin 128)) :
    (s.releaseSupply i ban).carried = s.carried := by
  unfold State.releaseSupply State.handOn
  split
  · rfl
  · dsimp only
    split
    · split
      · rfl
      · exact State.grant_carried _ _ _
    · rfl

/-- The work of events neither forwards a frame nor commits a bank. -/
theorem workKept_carried (c : (List Frame × List Frame) × BankId) : WorkKept (fun _ => True) (fun t => t.carried = c) where
  aside {s t} h records := by
    simp only [State.records, Prod.mk.injEq] at records
    obtain ⟨⟨p1, p2, _, tbs, _⟩, _⟩ := records
    rw [← h, State.carried, State.carried, p1, p2, tbs]
  issue s x h := (s.issue_carried x).trans h
  update _ _ _ _ _ _ _ h := h
  renew _ _ _ h := h
  grant s g i _ _ h := (s.grant_carried g i).trans h
  release s i ban h := (s.releaseSupply_carried i ban).trans h
  free s i r _ h := (State.carried_of_leads (s.free_leads i r)).trans h
  fill s st body plans _ _ h := (State.carried_of_leads (s.fill_leads st body plans)).trans h
  robotState _ _ _ _ h := h
  station _ _ _ _ h := h
  skip _ _ _ _ _ h := h
  leave s l m a _ h := ((s.setQueue (l ++ m)).dropStamp_carried a.stamp).trans h
  gun _ _ _ _ _ _ h := h
  accept s a _ _ h := by
    cases a with
    | mk station body build stamp => cases stamp <;> exact h

theorem State.cleanup_carried (s : State) (st : Fin 16) : (s.cleanup st).carried = s.carried := by
  have w := workKept_carried s.carried
  obtain ⟨rs, u, hu, eq⟩ := s.cleanup_eq st
  have shut : (s.shut st).carried = s.carried :=
    forAll_keep (P := fun t => t.carried = s.carried)
      (fun a t h => (State.dropStamp_carried _ _).trans (w.refuseArrival (t.setQueue (t.arq.queue.erase a)) 0 _ _ _ h)) _ rfl
  have kept : u.carried = s.carried := by
    rw [hu]
    exact w.attemptOffers _ rs (w.returnFaulted _ st (w.abortSet _ _ shut))
  rw [eq]
  exact kept

/-! ## What the cleanup tells -/

theorem State.refuseArrival_tells (s : State) (b : Bool) (seq : Half) (st : Option (Fin 16)) (body : Word) (r : AckReason) :
    s.Tells b (s.refuseArrival seq st body r) :=
  ((State.issueToLine_tells b s fun _ => rfl).trans (State.deviceEvent_tells _ _ _ _)).trans (State.count_tells _ _ _ _ _)

theorem State.removeArrivals_tells (s : State) (b : Bool) (st : Fin 16) : s.Tells b (s.removeArrivals st) := by
  refine State.Tells.forAll (fun a t => ?_) _ s
  have left : t.Tells b (t.setQueue (t.arq.queue.erase a)) := .of_same b rfl rfl
  exact (left.trans (State.refuseArrival_tells _ _ _ _ _ _)).trans (State.dropStamp_tells _ _ _)

theorem State.returnFaulted_tells (s : State) (b : Bool) (st : Fin 16) : s.Tells b (s.returnFaulted st) := by
  refine State.Tells.forAll (fun r t => ?_) _ s
  exact .ite (fun _ => .of_same b rfl rfl) fun _ => .refl b t

theorem State.cleanup_tells (s : State) (st : Fin 16) : s.Tells true (s.cleanup st) := by
  obtain ⟨rs, u, hu, eq⟩ := s.cleanup_eq st
  have off : s.Tells true (s.setStation st { s.station st with enabled := false }) := .of_same true rfl rfl
  have shut : s.Tells true (s.shut st) := off.trans (State.removeArrivals_tells _ _ _)
  have told : s.Tells true u := by
    rw [hu]
    exact ((shut.trans (State.abortSet_tells _ _)).trans (State.returnFaulted_tells _ _ _)).trans (State.attemptOffers_tells _ _)
  rw [eq]
  exact told.trans (.of_same true rfl rfl)

/-! ## The watch (R157, R158) -/

section
variable {s : State} {n : Byte} {f : Frame} {st : Fin 16}

theorem State.conflict?_of_conflictOver (h : s.conflictOver n f st) : ∃ r, s.conflict? f = some (st, r) := by
  obtain ⟨_, _, ⟨kind, long, q, hq, rfl⟩ | ⟨kind, long, payload, station, on⟩⟩ := h
  · refine ⟨some q, ?_⟩
    rw [State.conflict?, if_pos kind, if_pos long, hq]
    rfl
  · refine ⟨none, ?_⟩
    have other : ¬ (f.kind = 0x11 ∨ f.kind = 0x14) := by rw [kind]; decide
    rw [State.conflict?, if_neg other, if_pos kind, if_pos ⟨long, payload⟩, below?_eq_some.mpr station]
    exact if_neg on

/-- A conflict sets OWNERSHIP, and disables the station where it is not DISABLED. -/
theorem State.watch_of_conflict (h : s.conflictOver n f st) : ∃ r, s.watch n f
    = if (s.station st).state = .disabled then s.stationEvent st .ownership r none
      else (s.stationEvent st .ownership r none).cleanup st := by
  obtain ⟨r, conflict⟩ := State.conflict?_of_conflictOver h
  refine ⟨r, ?_⟩
  have same : (s.stationEvent st .ownership r none).station st = s.station st :=
    State.station_congr ((State.stationEvent_leads _ _ _ _ _).1.2 .stc (by simp)) st
  rw [State.watch, if_pos ⟨h.1, h.2.1⟩, conflict]
  dsimp only
  rw [same]

/-- The telegrams that the watch examines are of kinds that the part does not take in. -/
theorem State.takeIn_of_conflict (h : s.conflictOver n f st) (t : State) :
    t.takeIn n f = if f.destination = n ∨ (f.destination = 255 ∧ (f.source = 0 ∨ f.source = 255)) then t.deviceEvent .badTelegram {}
      else t := by
  obtain ⟨own, version, kinds⟩ := h
  have kind : f.kind = 0x11 ∨ f.kind = 0x14 ∨ f.kind = 0x04 := by
    rcases kinds with ⟨kind | kind, _⟩ | ⟨kind, _⟩ <;> simp [kind]
  have unknown : inLengths? f.kind = none := inLengths?_of_unknown (by rcases kind with k | k | k <;> simp [k])
  have out : isOutKind f.kind = true := by rcases kind with k | k | k <;> simp [isOutKind, k]
  by_cases reserved : f.source = 0 ∨ f.source = 255
  · have bad : formCheck n f = .bad := by
      unfold formCheck
      rw [if_neg own, if_pos (by exact reserved)]
    by_cases here : f.destination = n ∨ f.destination = 255
    · rw [State.takeIn_of_here here, bad, if_pos (here.imp_right fun all => ⟨all, reserved⟩)]
    · obtain ⟨other, single⟩ := not_or.mp here
      rw [State.takeIn_of_elsewhere other single, if_neg (not_or.mpr ⟨other, fun all => single all.1⟩)]
  · obtain ⟨zero, broadcast⟩ := not_or.mp reserved
    have checked := formCheck_of_unknown own zero broadcast version unknown
    by_cases named : f.destination = n
    · rw [State.takeIn_of_here (.inl named), checked, if_neg (by simp [named]), if_pos (.inl named)]
    · rw [if_neg (not_or.mpr ⟨named, fun all => reserved all.2⟩)]
      by_cases single : f.destination = 255
      · rw [State.takeIn_of_here (.inr single), checked, if_pos ⟨out, named⟩]
      · exact State.takeIn_of_elsewhere named single

end

theorem State.conflictOver_forwardFrame {s : State} {id : PortId} {n : Byte} {f : Frame} {st : Fin 16}
    (h : s.conflictOver n f st) : (s.begin.forwardFrame id f).conflictOver n f st := h

/-- Settles O46: the frame is forwarded, the watch sets OWNERSHIP and clears the station, and the form check, where the frame is
for the part, finds a kind that it does not take in. -/
theorem ownershipConflict : Obligations.OwnershipConflict := by
  intro s id f n st running settled node fcs type conflict
  set w := s.begin.forwardFrame id f with hw
  have clash : w.conflictOver n f st := State.conflictOver_forwardFrame conflict
  have toward : s.begin.leads w [.lif] := s.begin.forwardFrame_leads id f
  obtain ⟨r, watched⟩ := State.watch_of_conflict clash
  set o := w.stationEvent st .ownership r none with ho
  set v := w.watch n f with hv
  set t := v.takeIn n f with ht
  have event : exec (.frameReceive id f) s = .next t.finish :=
    congrArg Host.Outcome.next ((State.event_of_running running _).trans
      (congrArg State.finish (State.receiveFrame_of_type (s := s.begin) node fcs type id)))
  have taken := State.takeIn_of_conflict clash v
  have toldWatch : o.Tells true v := by
    rw [watched]
    exact .ite (fun _ => .refl true o) fun _ => o.cleanup_tells st
  have toldCheck : v.Tells true t := by
    rw [ht, taken]
    exact .ite (fun _ => v.deviceEvent_tells true _ _) fun _ => .refl true v
  have told : o.Tells true t.finish := (toldWatch.trans toldCheck).trans t.finish_tells
  have carried : t.finish.carried = w.carried := by
    have k := workKept_carried w.carried
    have first : o.carried = w.carried := k.stationEvent _ _ _ _ _ rfl
    have second : v.carried = w.carried := by
      rw [watched]
      split
      · exact first
      · exact (o.cleanup_carried st).trans first
    refine k.finish _ ?_
    rw [ht, taken]
    split
    · exact (v.deviceEvent_carried _ _).trans second
    · exact second
  simp only [State.carried, Prod.mk.injEq] at carried
  obtain ⟨⟨first, second⟩, active⟩ := carried
  refine ⟨_, event, told.station _ _ (w.stationEvent_set st .ownership r none), active.trans ?_, fun p1 => ?_, fun p2 => ?_,
    fun here => ?_, fun off => ?_, fun on => ?_⟩
  · exact congrArg Tbs.active (toward.1.2 .tbs (by simp))
  · subst p1
    rw [State.forwardFrame_p1] at hw
    rw [hw] at first second
    exact ⟨first, second⟩
  · subst p2
    rw [State.forwardFrame_p2] at hw
    rw [hw] at first second
    exact ⟨second, first⟩
  · refine t.finish_tells.device _ ?_
    rw [ht, taken, if_pos here]
    exact v.deviceEvent_set .badTelegram _
  · have alone : v = o := by
      rw [watched]
      exact if_pos (by exact off)
    have checked : o.leads t [.lif, .emu] := by
      rw [ht, taken, alone]
      split
      · exact State.leads_mono (o.deviceEvent_leads _ _) (by simp)
      · exact o.leads_refl _
    have led : w.leads t [.lif, .emu] :=
      State.leads_seq (w.stationEvent_leads st .ownership r none) checked (by simp) (by simp)
    have whole : s.begin.leads t [.lif, .emu] := State.leads_seq toward led (by simp) (by simp)
    have calm : t.calm := .inl ?_
    · exact State.finish_keeps_of_settled whole calm (State.settled_of_leads whole settled)
    · rw [ht, taken, alone]
      have quiet : o.passDue = false := State.stationEvent_passDue _ _ _ _ _
      split
      · exact (State.deviceEvent_passDue _ _ _).trans quiet
      · exact quiet
  · have cleaned : v = o.cleanup st := by
      rw [watched]
      exact if_neg (by exact on)
    have same : o.station st = s.station st := by
      rw [State.station_congr ((w.stationEvent_leads st .ownership r none).1.2 .stc (by simp)),
        State.station_congr (toward.1.2 .stc (by simp))]
      rfl
    have vacated : t.finish.Vacated st (s.station st).cleared := by
      rw [← same]
      refine State.Vacated.finish ?_
      have clean := o.cleanup_vacated st
      rw [ht, taken, cleaned]
      split
      · exact clean.of_leads (State.deviceEvent_leads _ _ _)
      · exact clean
    exact ⟨vacated.station, vacated.arrivals, vacated.entries⟩

end Sys2Proof.Machine
end

section
/-! The steps of RESOLVE around its action (R151), and RESOLVE with ACCEPT (the statement O27). -/

namespace Sys2Proof.Machine

/-! ## The return of FAULTED robots -/

theorem State.servingRobot?_congr {s t : State} (h : ∀ q, (t.robot q).enabled = (s.robot q).enabled
    ∧ (t.robot q).station = (s.robot q).station ∧ (t.robot q).position = (s.robot q).position) (st : Fin 16) (p : Fin 8) :
    t.servingRobot? st p = s.servingRobot? st p := by
  refine congrArg (List.find? · allRobots) (funext fun q => ?_)
  obtain ⟨enabled, station, position⟩ := h q
  rw [enabled, station, position]

theorem State.stationRobots_congr {s t : State} (h : ∀ q, (t.robot q).enabled = (s.robot q).enabled
    ∧ (t.robot q).station = (s.robot q).station ∧ (t.robot q).position = (s.robot q).position) (st : Fin 16) :
    t.stationRobots st = s.stationRobots st :=
  List.filterMap_congr fun p _ => State.servingRobot?_congr h st p

theorem State.stationRobots_of_rbc {s t : State} (h : t.rbc = s.rbc) (st : Fin 16) :
    t.stationRobots st = s.stationRobots st :=
  State.stationRobots_congr (fun q => by rw [State.robot_congr h]; exact ⟨rfl, rfl, rfl⟩) st

theorem State.mem_stationRobots {s : State} {st : Fin 16} {r : Fin 64} :
    r ∈ s.stationRobots st ↔ ∃ p, s.servingRobot? st p = some r := by
  simp [State.stationRobots, allPositions]

/-- A robot as R115 leaves it: IDLE where it was FAULTED. -/
def Robot.returned (x : Robot) : Robot := if x.state = .faulted then { x with state := .idle } else x

theorem Robot.returned_of_faulted {x : Robot} (h : x.state = .faulted) : x.returned = { x with state := .idle } := if_pos h

theorem Robot.returned_returned (x : Robot) : x.returned.returned = x.returned := by
  unfold Robot.returned
  split
  · exact if_neg (by simp)
  · rfl

theorem State.robot_returnTurn (r q : Fin 64) (s : State) :
    (if (s.robot r).state = .faulted then s.setRobotState r .idle else s).robot q
      = if r = q then (s.robot q).returned else s.robot q := by
  by_cases faulted : (s.robot r).state = .faulted
  · rw [if_pos faulted, State.robot_setRobotState]
    split
    · next here => rw [← here, Robot.returned_of_faulted faulted]
    · rfl
  · rw [if_neg faulted]
    split
    · next here => rw [Robot.returned, if_neg (here ▸ faulted)]
    · rfl

theorem State.returnFaulted_robot (s : State) (st : Fin 16) (q : Fin 64) :
    (s.returnFaulted st).robot q = if q ∈ s.stationRobots st then (s.robot q).returned else s.robot q := by
  have walk : ∀ (l : List (Fin 64)) (s : State),
      (forAll l (fun r s => if (s.robot r).state = .faulted then s.setRobotState r .idle else s) s).robot q
        = if q ∈ l then (s.robot q).returned else s.robot q := by
    intro l
    induction l with
    | nil => exact fun s => rfl
    | cons r l ih =>
      intro s
      rw [forAll_cons, ih, State.robot_returnTurn]
      by_cases here : r = q
      · subst here
        simp [Robot.returned_returned]
      · simp [here, Ne.symm here]
  exact walk _ s

theorem State.returnFaulted_stationRobots (s : State) (st q : Fin 16) :
    (s.returnFaulted st).stationRobots q = s.stationRobots q := by
  refine State.stationRobots_congr (fun r => ?_) q
  rw [State.returnFaulted_robot]
  split
  · unfold Robot.returned
    split
    · next faulted => exact ⟨by rw [Robot.enabled, Robot.enabled, faulted]; rfl, rfl, rfl⟩
    · exact ⟨rfl, rfl, rfl⟩
  · exact ⟨rfl, rfl, rfl⟩

theorem State.returnFaulted_list (s : State) (st : Fin 16) (r : Fin 64) : (s.returnFaulted st).list r = s.list r :=
  State.list_congr ((s.returnFaulted_leads st).1.2 .dtr (by simp)) r

/-- Offers for robots without an entry do nothing. -/
theorem State.attemptOffers_of_nil {s : State} : ∀ {rs : List (Fin 64)}, (∀ r ∈ rs, s.list r = []) → s.attemptOffers rs = s
  | [], _ => rfl
  | r :: rs, h => by
    change (s.attemptOffer r).attemptOffers rs = s
    rw [State.attemptOffer_of_nil (h r List.mem_cons_self)]
    exact State.attemptOffers_of_nil fun q hq => h q (List.mem_cons_of_mem _ hq)

/-! ## The second and third steps -/

/-- A station whose body-lost flag is cleared and whose CURRENT slot holds only reasons entered afresh. -/
def Station.resumed (x : Station) (r : ReasonSet) : Station :=
  { x with bodyLost := false, current := x.current.map (fun c => { c with reasons := r }) }

/-- The state after the third step of R151. -/
def State.resumed (a : ActionResult) (st : Fin 16) : State :=
  (a.state.setStation st ((a.state.station st).resumed {})).updateStation st ((a.state.station st).resumed a.reasons)

theorem Station.resumed_resumed (x : Station) (r q : ReasonSet) : (x.resumed r).resumed q = x.resumed q := by
  simp only [Station.resumed, Option.map_map]
  rfl

theorem Station.resumed_running {x : Station} (enabled : x.enabled = true) : (x.resumed {}).state = .running := by
  rw [Station.state_eq_running]
  refine ⟨enabled, ?_⟩
  cases current : x.current <;> simp [Station.resumed, current, ReasonSet.isEmpty]

theorem State.setStation_setStation (s : State) (st : Fin 16) (x y : Station) :
    (s.setStation st x).setStation st y = s.setStation st y := by
  simp [State.setStation]

section
variable {a : ActionResult} {st : Fin 16}

theorem State.resumed_leads (a : ActionResult) (st : Fin 16) : a.state.leads (State.resumed a st) [.stc, .emu, .lif] :=
  State.leads_seq (a.state.setStation_leads st _) (State.updateStation_leads _ _ _) (by simp) (by simp)

theorem State.resumed_station (a : ActionResult) (st : Fin 16) :
    (State.resumed a st).station st = (a.state.station st).resumed a.reasons := by
  rw [State.resumed, State.updateStation_station, if_pos rfl]

/-- Where no reason is entered afresh the station runs, and HELD does not occur. -/
theorem State.resumed_of_no_reason (none : a.reasons = {}) :
    State.resumed a st = a.state.setStation st ((a.state.station st).resumed {}) := by
  have running : ¬ (((a.state.setStation st ((a.state.station st).resumed {})).station st).state = .running
      ∧ ((a.state.station st).resumed {}).state = .held) := by
    cases on : (a.state.station st).enabled with
    | true => simp [Station.resumed_running on]
    | false =>
      have off : ((a.state.station st).resumed {}).state = .disabled := (Station.state_eq_disabled _).mpr on
      simp [off]
  rw [State.resumed, none, State.updateStation, if_neg running, State.setStation_setStation]

/-- The steps after the third. -/
theorem State.afterAction_eq (a : ActionResult) (st : Fin 16) : ∃ v,
    v = ((((State.resumed a st).checkCompletion st).attemptOffers a.called).returnFaulted st)
    ∧ State.afterAction a st = (v.attemptOffers (v.stationRobots st)).callPass := by
  set u := a.state.setStation st ((a.state.station st).resumed {}) with hu
  have second : u.station st = (a.state.station st).resumed {} := by rw [hu, State.station_setStation, if_pos rfl]
  have third : u.updateStation st { u.station st with current := (u.station st).current.map (fun c => { c with reasons := a.reasons }) }
      = State.resumed a st := by
    rw [second, State.resumed, ← Station.resumed_resumed (a.state.station st) {} a.reasons]
    rfl
  refine ⟨_, rfl, ?_⟩
  rw [← third]
  rfl

/-- The steps after an action, where no robot of the station has an entry. -/
theorem State.afterAction_of_idle (called : a.called = []) (lists : ∀ r ∈ a.state.stationRobots st, a.state.list r = []) :
    State.afterAction a st = (((State.resumed a st).checkCompletion st).returnFaulted st).callPass := by
  obtain ⟨v, hv, eq⟩ := State.afterAction_eq a st
  have led : a.state.leads ((State.resumed a st).checkCompletion st) [.stc, .emu, .lif] :=
    State.leads_seq (State.resumed_leads a st) (State.checkCompletion_leads _ _) (by simp) (by simp)
  have alone : v = ((State.resumed a st).checkCompletion st).returnFaulted st := by rw [hv, called]; rfl
  rw [eq, State.attemptOffers_of_nil, alone]
  intro r hr
  rw [alone, State.returnFaulted_stationRobots, State.stationRobots_of_rbc (led.1.2 .rbc (by simp))] at hr
  rw [alone, State.returnFaulted_list, State.list_congr (led.1.2 .dtr (by simp))]
  exact lists r hr

end

/-! ## The request -/

section
variable {b : Byte} {st : Fin 16} {s : State}

theorem State.resolveStation_of_held (hb : b.toNat = st) (held : (s.station st).state = .held) {n : Byte} {a : Action}
    (action : action? n = some a) {x : ActionResult} (act : s.act st a = some x) :
    s.resolveStation b n = (State.afterAction x st, .ok) := by
  simp only [State.resolveStation, below?_of_eq hb, action, act]
  exact if_pos held

/-- What an accepted RESOLVE leaves, where it calls for no allocation. -/
theorem State.resolve_completed {f : Sender} {n : Byte} {x : ActionResult} {l : List Block} (quiet : s.quiet = true)
    (ran : (s.posed f (.resolve b n)).resolveStation b n = (State.afterAction x st, .ok)) (queue : s.arq.queue = [])
    (led : (s.posed f (.resolve b n)).leads (State.afterAction x st) l) (arq : .arq ∉ l := by simp) :
    State.Completed (State.afterAction x st) (s.request f (.resolve b n)) f 16 .ok [] :=
  State.request_completed (r := .resolve b n) quiet rfl (bare_of_eq ran) led (State.calm_of_queue led queue arq)

end

/-! ## ACCEPT (R154) -/

/-- A slot with its blocking positions ACCEPTED. -/
def Slot.accepted (x : Slot) : Slot :=
  { x with
    positions := x.blockingPositions.foldl
      (fun v (p : Fin 8) => v.set p ((v[p]).map (fun z => { z with outcome := .accepted }))) x.positions }

theorem getElem_foldl_accepted (p : Fin 8) : ∀ (l : List (Fin 8)) (v : Vector (Option Position) 8),
    (l.foldl (fun v (p : Fin 8) => v.set p ((v[p]).map (fun z => { z with outcome := .accepted }))) v)[p]
      = if p ∈ l then (v[p]).map (fun z => { z with outcome := .accepted }) else v[p]
  | [], _ => rfl
  | q :: l, v => by
    rw [List.foldl_cons, getElem_foldl_accepted p l]
    by_cases here : q = p
    · subst here
      cases hq : v[q] <;> simp_all
    · have apart : (q : Nat) ≠ p := fun same => here (Fin.ext same)
      simp [apart, Ne.symm here]

theorem Slot.accepted_position (x : Slot) (p : Fin 8) : x.accepted.positions[p]
    = if x.blocking p then (x.positions[p]).map (fun z => { z with outcome := .accepted }) else x.positions[p] := by
  refine (getElem_foldl_accepted p _ _).trans ?_
  simp [Slot.blockingPositions, allPositions]

theorem State.accept_eq (s : State) (st : Fin 16) : s.accept st
    = ⟨s.setStation st { s.station st with current := (s.station st).current.map Slot.accepted }, {}, []⟩ := rfl

/-- Settles O27: the blocking positions are ACCEPTED, the reasons are cleared, and the completion check and the return of the
robots follow; no robot of the station has an entry to offer. -/
theorem resolvedAccept : Obligations.ResolvedAccept := by
  intro s f b st quiet hb held queue lists
  obtain ⟨_, empty, _⟩ := s.quiet_iff.mp quiet
  set q := s.posed f (.resolve b 1) with hq
  set a := q.accept st with ha
  set v := (State.resumed a st).checkCompletion st with hv
  have robots : a.state.stationRobots st = s.stationRobots st := State.stationRobots_of_rbc (s := s) rfl st
  have ran : q.resolveStation b 1 = (State.afterAction a st, .ok) :=
    State.resolveStation_of_held hb (by exact held) (a := .accept) rfl rfl
  have after : State.afterAction a st = (v.returnFaulted st).callPass :=
    State.afterAction_of_idle rfl (by rw [robots]; exact lists)
  have resumed : State.resumed a st = a.state.setStation st ((a.state.station st).resumed {}) := State.resumed_of_no_reason rfl
  have toward : q.leads (State.resumed a st) [.stc] := by
    rw [resumed]
    exact State.leads_seq (q.setStation_leads st _) (State.setStation_leads _ _ _) (by simp) (by simp)
  have checked : q.leads v [.stc, .lif] := State.leads_seq toward (State.checkCompletion_leads _ _) (by simp) (by simp)
  have returned : v.leads (State.afterAction a st) [.rbc] := by
    rw [after]
    exact State.leads_trans (v.returnFaulted_leads st) (State.callPass_leads _ _)
  have led : q.leads (State.afterAction a st) [.stc, .rbc, .lif] := State.leads_seq checked returned (by simp) (by simp)
  have done := State.resolve_completed quiet ran queue led
  have marked : a.state.station st = { s.station st with current := (s.station st).current.map Slot.accepted } := by
    rw [ha, State.accept_eq, State.station_setStation, if_pos rfl]
    rfl
  have before : (State.resumed a st).station st = ({ s.station st with
      current := (s.station st).current.map Slot.accepted } : Station).resumed {} := by
    rw [State.resumed_station, marked]
    rfl
  have station : (s.request f (.resolve b 1)).station st = v.station st := by
    rw [State.station_congr (done.keeps.2 .stc (by simp)), State.station_congr (returned.1.2 .stc (by simp))]
  have released : ((State.resumed a st).station st).Released (v.station st) := State.checkCompletion_released _ st st
  have enabled : (s.station st).enabled = true := ((Station.state_eq_held _).mp held).1
  have running : ((State.resumed a st).station st).state = .running := by
    rw [before]
    exact Station.resumed_running enabled
  refine ⟨_, rfl, ?_, ?_, ?_, fun c current => ?_, fun r hr faulted => ?_, done.getLast?, done.keeps_of_leads empty led⟩
  · rw [station, released.state, running]
  · rw [station, released.written.bodyLost, before]
    rfl
  · rw [station, released.next, before]
    rfl
  · have there : ((State.resumed a st).station st).current = some { c.accepted with reasons := {} } := by
      rw [before, Station.resumed, current]
      rfl
    have blocked (p : Fin 8) : c.blocking p → ∀ y, c.positions[p] = some y →
        c.accepted.positions[p] = some { y with outcome := .accepted } := fun block y hy => by
      rw [Slot.accepted_position, if_pos block, hy]
      rfl
    have open_ (p : Fin 8) : ¬ c.blocking p → c.accepted.positions[p] = c.positions[p] := fun free => by
      rw [Slot.accepted_position, if_neg free]
    by_cases complete : ((State.resumed a st).station st).completes = true
    · have ended : (v.station st).current = some { c.accepted with reasons := {}, state := .released } := by
        rw [hv, State.checkCompletion_of_completes there complete, State.releaseSlot_station, if_pos rfl]
      rw [station]
      exact ⟨_, ended, rfl, rfl, rfl, rfl, blocked, open_, fun _ _ => rfl⟩
    · have ended : (v.station st).current = some { c.accepted with reasons := {} } := by
        rw [hv, State.checkCompletion_of_not (Bool.not_eq_true _ ▸ complete)]
        exact there
      rw [station]
      exact ⟨_, ended, rfl, rfl, rfl, rfl, blocked, open_, fun seated settled =>
        absurd ((Station.completes_iff there).mpr ⟨running, seated, settled⟩) complete⟩
  · have robot : (s.request f (.resolve b 1)).robot r = (s.robot r).returned := by
      rw [State.robot_congr (done.keeps.2 .rbc (by simp)), after,
        State.robot_congr ((State.callPass_leads _ []).1.2 .rbc (by simp))]
      have rbc : v.rbc = s.rbc := checked.1.2 .rbc (by simp)
      have same := v.returnFaulted_robot st r
      rw [State.stationRobots_of_rbc rbc, State.robot_congr rbc, if_pos hr] at same
      exact same
    rw [robot, Robot.returned_of_faulted faulted]

end Sys2Proof.Machine
end

section
/-! RESOLVE with ABORT, and the refusals of RESOLVE (the statement O29). -/

namespace Sys2Proof.Machine

/-! ## A seated slot with nothing pending, while its station is held -/

theorem ReasonSet.isEmpty_iff (x : ReasonSet) : x.isEmpty = true ↔ x = {} := beq_iff_eq

theorem ReasonSet.isEmpty_enter? {x : ReasonSet} (h : x.isEmpty = false) (r : Option Reason) : (x.enter? r).isEmpty = false := by
  cases r with
  | none => exact h
  | some r => exact x.isEmpty_enter r

theorem positionOutcome_ne_pending (o : EntryOutcome) : positionOutcome o ≠ .pending := by cases o <;> decide

/-- A condition on a CURRENT slot that outcomes written into it keep, and under which it is not released. -/
structure Slot.Stable (Q : Slot → Prop) : Prop where
  outcome : ∀ {c : Slot}, Q c → ∀ (policy : Policy) (e : Entry) (o : EntryOutcome) (d : Option Nat), Q (c.outcome policy e o d)
  waits : ∀ {x : Station} {c : Slot}, x.current = some c → Q c → x.completes = false

/-- A station whose CURRENT slot meets a condition. -/
def Station.Holds (x : Station) (Q : Slot → Prop) : Prop := ∃ c, x.current = some c ∧ Q c

section
variable {s : State} {q : Fin 16} {Q : Slot → Prop}

theorem State.writeOutcome_holds (stable : Slot.Stable Q) (h : (s.station q).Holds Q) (e : Entry) (o : EntryOutcome)
    (d : Option Nat) : ((s.writeOutcome e o d).station q).Holds Q := by
  by_cases here : e.station = q
  case neg => rwa [s.writeOutcome_other e o d here]
  subst here
  obtain ⟨c, current, good⟩ := h
  by_cases body : c.body = e.body
  · have written : (s.updateStation e.station { s.station e.station with
        current := some (c.outcome (s.station e.station).config.short e o d) }).station e.station
        = { s.station e.station with current := some (c.outcome (s.station e.station).config.short e o d) } := by
      rw [State.updateStation_station, if_pos rfl]
    have kept := stable.outcome good (s.station e.station).config.short e o d
    rw [State.writeOutcome_of_current current body,
      State.checkCompletion_of_not (by rw [written]; exact stable.waits (by rfl) kept), written]
    exact ⟨_, rfl, kept⟩
  · exact ⟨c, s.writeOutcome_current e o d current (Ne.symm body), good⟩

theorem State.endCore_holds (stable : Slot.Stable Q) (h : (s.station q).Holds Q) (i : Fin 128) (o : EntryOutcome)
    (d : Option Nat) (ban : List (Fin 128)) : ((s.endCore i o d ban).station q).Holds Q := by
  cases he : s.entry? i with
  | none => simpa only [State.endCore, he] using h
  | some e =>
    obtain ⟨u, led, same | written⟩ := State.endCore_station_of he o d ban
    · rwa [State.station_congr same, State.station_congr (led.1.2 .stc (by simp))]
    · rw [State.station_congr written]
      exact State.writeOutcome_holds stable (by rwa [State.station_congr (led.1.2 .stc (by simp))]) e o d

theorem State.abortEntry_holds (stable : Slot.Stable Q) (h : (s.station q).Holds Q) (ban : List (Fin 128)) (i : Fin 128) :
    ((s.abortEntry ban i).station q).Holds Q := by
  unfold State.abortEntry
  split
  · exact h
  · refine State.endCore_holds stable ?_ _ _ _ _
    split
    · rwa [State.station_congr ((State.issueToRobot_leads _ _ _).1.2 .stc (by simp))]
    · exact h

theorem State.endSet_holds (stable : Slot.Stable Q) (h : (s.station q).Holds Q) (set : List (Fin 128)) :
    ((s.endSet set).station q).Holds Q :=
  foldl_keep (P := fun t => (t.station q).Holds Q) (fun i _ h => State.abortEntry_holds stable h set i) set h

theorem State.attemptOffers_holds (stable : Slot.Stable Q) (h : (s.station q).Holds Q) (rs : List (Fin 64)) :
    ((s.attemptOffers rs).station q).Holds Q := by
  refine foldl_keep (P := fun t => (t.station q).Holds Q) (fun r t h => ?_) rs h
  unfold State.attemptOffer
  split
  · exact h
  · split
    · exact h
    · split
      · split
        · exact State.endCore_holds stable h _ _ _ _
        · rwa [State.station_congr ((t.offer_leads _ _).1.2 .stc (by simp))]
      · exact h

end

/-- A slot that only its blocking reasons keep from its release. -/
structure Slot.Ended (c : Slot) : Prop where
  reasons : c.reasons.isEmpty = false
  state : c.state = .seated
  settled : ∀ (p : Fin 8) y, c.positions[p] = some y → y.outcome ≠ .pending

theorem Slot.Ended.outcome {c : Slot} (h : c.Ended) (policy : Policy) (e : Entry) (o : EntryOutcome) (d : Option Nat) :
    (c.outcome policy e o d).Ended := by
  cases there : c.positions[e.position] with
  | none =>
    have same : c.outcome policy e o d = c := by
      unfold Slot.outcome Slot.write
      rw [there]
    rwa [same]
  | some y =>
    rw [Slot.outcome_of_some there]
    refine ⟨ReasonSet.isEmpty_enter? h.reasons _, h.state, fun p z hz => ?_⟩
    by_cases here : e.position = p
    · subst here
      simp only [Fin.getElem_fin, Vector.getElem_set_self, Option.some.injEq] at hz
      subst hz
      exact positionOutcome_ne_pending o
    · have apart : (e.position : Nat) ≠ p := fun same => here (Fin.ext same)
      simp only [Fin.getElem_fin, Vector.getElem_set_ne _ _ apart] at hz
      exact h.settled p z hz

theorem Slot.stable_ended : Slot.Stable Slot.Ended where
  outcome h := h.outcome
  waits {x c} current ended := by
    rw [← Bool.not_eq_true, Station.completes_iff current, Station.state_eq_running, current]
    rintro ⟨⟨_, free⟩, _⟩
    simp [ended.reasons] at free

section
variable {s : State} {st : Fin 16} {c : Slot}

/-! ## The action (R155) -/

/-- The station with the abort mark in its CURRENT slot. -/
def State.markAbort (s : State) (st : Fin 16) (c : Slot) : State :=
  s.setStation st { s.station st with current := some { c with abortMark := true } }

/-- What the abort leaves of the body's entries. -/
def State.aborted (s : State) (st : Fin 16) (c : Slot) : State :=
  (s.markAbort st c).endSet ((s.markAbort st c).entriesOfBody c.body)

theorem State.abort_of_reason (current : (s.station st).current = some c) (reasons : c.reasons ≠ {}) :
    s.abort st = ⟨s.aborted st c, {}, (s.aborted st c).calledRobots (s.markAbort st c)⟩ := by
  have some : c.reasons.isEmpty = false := by rw [← Bool.not_eq_true, ReasonSet.isEmpty_iff]; exact reasons
  simp only [State.abort, current, some, Bool.false_eq_true, if_false]
  rfl

theorem State.abort_of_no_reason (h : ∀ c, (s.station st).current = some c → c.reasons = {}) : s.abort st = ⟨s, {}, []⟩ := by
  unfold State.abort
  dsimp only
  split
  · rfl
  · next c current => exact if_pos ((ReasonSet.isEmpty_iff _).mpr (h c current))

theorem State.aborted_leads (s : State) (st : Fin 16) (c : Slot) :
    s.leads (s.aborted st c) [.lif, .dtr, .rbc, .spa, .stc, .emu] :=
  State.leads_seq (s.setStation_leads st _) (State.endSet_eq _ _ ▸ State.abortEach_leads _ _ _) (by simp) (by simp)

theorem State.markAbort_station (s : State) (st : Fin 16) (c : Slot) :
    (s.markAbort st c).station st = { s.station st with current := some { c with abortMark := true } } := by
  rw [State.markAbort, State.station_setStation, if_pos rfl]

theorem State.aborted_written (s : State) (st : Fin 16) (c : Slot) :
    ({ s.station st with current := some { c with abortMark := true } } : Station).Written ((s.aborted st c).station st) :=
  s.markAbort_station st c ▸ State.endSet_written _ _ st

/-- No entry of the body is left. -/
theorem State.aborted_entry {i : Fin 128} {e : Entry} (h : (s.aborted st c).entry? i = some e) : e.body ≠ c.body := by
  intro body
  have freed := State.endSet_eq (s.markAbort st c) ((s.markAbort st c).entriesOfBody c.body) ▸ State.abortEach_freed _ _ _
  obtain ⟨e', he', same, _⟩ := freed.thins i e h
  have mem := State.mem_entriesOfBody.mpr ⟨e', he', same.symm.trans body⟩
  rw [State.aborted, State.endSet_eq, State.abortEach_gone _ _ _ mem] at h
  cases h

theorem State.aborted_tells (s : State) (st : Fin 16) (c : Slot) : s.Tells false (s.aborted st c) :=
  State.Tells.trans (t := s.markAbort st c) (.of_same false rfl rfl) (State.endSet_tells _ _ _)

theorem State.aborted_ended (reasons : c.reasons ≠ {}) (seated : c.state = .seated)
    (settled : ∀ (p : Fin 8) y, c.positions[p] = some y → y.outcome ≠ .pending) : ((s.aborted st c).station st).Holds Slot.Ended := by
  refine State.endSet_holds Slot.stable_ended ?_ _
  rw [State.markAbort_station]
  refine ⟨_, rfl, ?_, seated, settled⟩
  rw [← Bool.not_eq_true, ReasonSet.isEmpty_iff]
  exact reasons

end

/-! ## The steps behind the abort -/

section
variable {s : State} {st : Fin 16} {c : Slot}

/-- What an abort leaves of the station, its body's entries and the telegrams. -/
structure State.AbortDone (s : State) (st : Fin 16) (c : Slot) (t : State) : Prop where
  state : (t.station st).state = .running
  current : ∃ c', (t.station st).current = some c' ∧ c'.abortMark = true ∧ c'.body = c.body ∧ c'.reasons = {}
    ∧ (s.lif.node?.isSome = true → s.lineInUse ≠ 0 → c.state = .seated →
      (∀ (p : Fin 8) y, c.positions[p] = some y → y.outcome ≠ .pending) → c'.state = .released
        ∧ ∃ before pairs, (before ++ [.stationRelease s.lineInUse st c.body .rejected pairs] <+: t.issued)
          ∧ ∀ x ∈ before, x ∈ s.issued ∨ x.isSelect = false)
  entries : ∀ (i : Fin 128) (e : Entry), t.entry? i = some e → e.body ≠ c.body

/-- The offers and the return of the robots keep what the completion check left. -/
theorem State.AbortDone.of_check {a : ActionResult} (h : s.AbortDone st c ((State.resumed a st).checkCompletion st)) :
    s.AbortDone st c (State.afterAction a st) := by
  set w := (State.resumed a st).checkCompletion st with hw
  obtain ⟨v, hv, eq⟩ := State.afterAction_eq a st
  rw [← hw] at hv
  set o := w.attemptOffers a.called with ho
  set z := v.attemptOffers (v.stationRobots st) with hz
  have returned : o.leads v [.rbc] := hv ▸ o.returnFaulted_leads st
  have called : z.leads (State.afterAction a st) [] := eq ▸ z.callPass_leads []
  have thins : w.Thins (State.afterAction a st) :=
    (((w.attemptOffers_thins _).trans (.of_dtr (returned.1.2 .dtr (by simp)))).trans (v.attemptOffers_thins _)).trans
      (.of_dtr (called.1.2 .dtr (by simp)))
  have sent : w.issued <+: (State.afterAction a st).issued :=
    (((w.attemptOffers_leads _).2.1.trans returned.2.1).trans (v.attemptOffers_leads _).2.1).trans called.2.1
  obtain ⟨c', current, mark, body, reasons, release⟩ := h.current
  have gone {t : State} (thin : w.Thins t) (i : Fin 128) (e : Entry) (he : t.entry? i = some e) : e.body ≠ c.body := by
    obtain ⟨e', he', same, _⟩ := thin i e he
    rw [same]
    exact h.entries i e' he'
  have first : (o.station st).current = some c' :=
    State.attemptOffers_current _ w current (fun i e he => by rw [body]; exact gone (.refl w) i e he)
  have second : (v.station st).current = some c' := by
    rw [State.station_congr (returned.1.2 .stc (by simp))]
    exact first
  have vThins : w.Thins v := (w.attemptOffers_thins _).trans (.of_dtr (returned.1.2 .dtr (by simp)))
  have third : (z.station st).current = some c' :=
    State.attemptOffers_current _ v second (fun i e he => by rw [body]; exact gone vThins i e he)
  have last : (State.afterAction a st).station st = z.station st := State.station_congr (called.1.2 .stc (by simp)) st
  have written : (w.station st).Written (z.station st) :=
    (State.station_congr (returned.1.2 .stc (by simp)) st ▸ w.attemptOffers_written a.called st).trans
      (v.attemptOffers_written _ st)
  obtain ⟨enabled, free⟩ := (Station.state_eq_running _).mp h.state
  have bodyThere : (w.station st).bodyLost = false := by
    simp only [Bool.or_eq_false_iff] at free
    exact free.1
  refine ⟨?_, ⟨c', last ▸ third, mark, body, reasons, fun node line seated settled => ?_⟩, gone thins⟩
  · rw [last, Station.state_eq_running, third, written.enabled, written.bodyLost, bodyThere]
    exact ⟨enabled, by simp [reasons, ReasonSet.isEmpty]⟩
  · obtain ⟨released, before, pairs, ahead, quiet⟩ := release node line seated settled
    exact ⟨released, before, pairs, ahead.trans sent, quiet⟩

/-- The completion check behind an abort. -/
theorem State.abortDone_check (enabled : (s.station st).enabled = true) (reasons : c.reasons ≠ {}) (called : List (Fin 64)) :
    s.AbortDone st c ((State.resumed ⟨s.aborted st c, {}, called⟩ st).checkCompletion st) := by
  set x := s.aborted st c with hx
  set u := State.resumed ⟨x, {}, called⟩ st with hu
  have written : ({ s.station st with current := some { c with abortMark := true } } : Station).Written (x.station st) :=
    s.aborted_written st c
  obtain ⟨d, current, wrote⟩ := written.current _ rfl
  have put : u = x.setStation st ((x.station st).resumed {}) := State.resumed_of_no_reason rfl
  have station : u.station st = (x.station st).resumed {} := by rw [put, State.station_setStation, if_pos rfl]
  have there : (u.station st).current = some { d with reasons := {} } := by
    rw [station, Station.resumed, current]
    rfl
  have running : (u.station st).state = .running := by
    rw [station]
    exact Station.resumed_running (written.enabled.trans enabled)
  have released : (u.station st).Released ((u.checkCompletion st).station st) := u.checkCompletion_released st st
  have dtr : (u.checkCompletion st).dtr = x.dtr := by
    rw [(u.checkCompletion_leads st).1.2 .dtr (by simp), put]
    rfl
  have state := released.state.trans running
  have entries (i : Fin 128) (e : Entry) (he : (u.checkCompletion st).entry? i = some e) : e.body ≠ c.body :=
    State.aborted_entry ((State.entry?_congr dtr i).symm.trans he)
  have mark : d.abortMark = true := wrote.abortMark
  have body : d.body = c.body := wrote.body
  cases complete : (u.station st).completes with
  | false =>
    have same := State.checkCompletion_of_not complete
    refine ⟨state, ⟨{ d with reasons := {} }, by rw [same]; exact there, mark, body, rfl, fun _ _ seated settled => ?_⟩, entries⟩
    obtain ⟨f, currentF, ended⟩ := State.aborted_ended (s := s) (st := st) reasons seated settled
    rw [← hx, current] at currentF
    cases currentF
    exact absurd ((Station.completes_iff there).mpr ⟨running, ended.state, ended.settled⟩) (by simp [complete])
  | true =>
    have gone := State.checkCompletion_of_completes there complete
    have after : ((u.checkCompletion st).station st).current = some { d with reasons := {}, state := .released } := by
      rw [gone, State.releaseSlot_station, if_pos rfl]
    refine ⟨state, ⟨_, after, mark, body, rfl, fun node line _ _ =>
      ⟨rfl, u.issued, Slot.shortfalls { d with reasons := {} }, ?_, fun y hy => ?_⟩⟩, entries⟩
    · have led : s.leads u [.lif, .dtr, .rbc, .spa, .stc, .emu] := by
        rw [put]
        exact State.leads_seq (s.aborted_leads st c) (State.setStation_leads _ _ _) (by simp) (by simp)
      have inUse : u.lineInUse = s.lineInUse := by
        unfold State.lineInUse
        rw [led.2.2.2.2.2 (by simp), led.1.2 .mge (by simp)]
      have sent := State.releaseSlot_issued (s := u) (by rw [State.leads_node led]; exact node) (by rw [inUse]; exact line) st
        { d with reasons := {} }
      have overall : Slot.overall { d with reasons := {} } = .rejected := if_pos mark
      rw [inUse, overall] at sent
      rw [gone, sent, ← body]
    · have told : s.Tells false u := by
        rw [put]
        exact (s.aborted_tells st c).trans (.of_same false rfl rfl)
      refine (told.sent y hy).imp_right fun none => ?_
      rw [← Bool.not_eq_true]
      exact fun select => Bool.noConfusion (none select)

end

/-! ## The obligation -/

section
variable {s : State} {b : Byte} {f : Sender}

theorem State.resolveStation_of_range (h : 16 ≤ b.toNat) (n : Byte) : s.resolveStation b n = (s, .range) := by
  simp only [State.resolveStation, below?_of_le h]

theorem State.resolveStation_of_state {st : Fin 16} (hb : b.toNat = st) (h : (s.station st).state ≠ .held) {n : Byte}
    {a : Action} (action : action? n = some a) : s.resolveStation b n = (s, .state) := by
  simp only [State.resolveStation, below?_of_eq hb, action]
  exact if_neg h

/-- A RESOLVE that is refused, with any action. -/
theorem State.resolve_refused {n : Byte} {a : Action} (action : action? n = some a) {r : Result} (quiet : s.quiet = true)
    (h : (r = .range ∧ 16 ≤ b.toNat) ∨ (r = .state ∧ ∃ st : Fin 16, b.toNat = st ∧ (s.station st).state ≠ .held)) :
    s.request f (.resolve b n) = s.begin.answered f 16 r [] := by
  refine State.request_of_bare (r := .resolve b n) quiet rfl (congrArg bare ?_)
  rcases h with ⟨rfl, range⟩ | ⟨rfl, st, hb, free⟩
  · exact State.resolveStation_of_range range n
  · exact State.resolveStation_of_state hb (by exact free) action

end

/-- Settles O29: the abort mark, the end of the body's entries, the completion check and then the offers; at a station held on
BODY_LOST alone no action is taken. -/
theorem resolvedAbort : Obligations.ResolvedAbort := by
  refine ⟨fun s f b st quiet hb held queue => ⟨fun c current reasons => ?_, fun none lists => ?_⟩, fun s f b r quiet h =>
    ⟨congrArg Host.Outcome.next (State.resolve_refused (a := .retry) rfl quiet h),
      congrArg Host.Outcome.next (State.resolve_refused (a := .accept) rfl quiet h),
      congrArg Host.Outcome.next (State.resolve_refused (a := .abort) rfl quiet h)⟩⟩
  · obtain ⟨⟨_, node⟩, empty, _⟩ := s.quiet_iff.mp quiet
    set q := s.posed f (.resolve b 2) with hq
    have act : q.abort st = ⟨q.aborted st c, {}, (q.aborted st c).calledRobots (q.markAbort st c)⟩ :=
      State.abort_of_reason (by exact current) reasons
    set a : ActionResult := ⟨q.aborted st c, {}, (q.aborted st c).calledRobots (q.markAbort st c)⟩ with ha
    have ran : q.resolveStation b 2 = (State.afterAction a st, .ok) :=
      State.resolveStation_of_held hb (by exact held) (a := .abort) rfl (congrArg some act)
    have led : q.leads (State.afterAction a st) workBlocks :=
      State.leads_seq (q.aborted_leads st c) (State.afterAction_leads a st) (by simp) (by simp)
    have done := State.resolve_completed quiet ran queue led
    have enabled : (s.station st).enabled = true := ((Station.state_eq_held _).mp held).1
    have settledAbort := (State.abortDone_check (s := q) enabled reasons a.called).of_check
    obtain ⟨c', after, mark, body, cleared, release⟩ := settledAbort.current
    have station : (s.request f (.resolve b 2)).station st = (State.afterAction a st).station st :=
      State.station_congr (done.keeps.2 .stc (by simp)) st
    refine ⟨_, c', rfl, by rw [station]; exact after, mark, body, cleared, by rw [station]; exact settledAbort.state,
      fun i e he => settledAbort.entries i e ((State.entry?_congr (done.keeps.2 .dtr (by simp)) i).symm.trans he),
      fun line seated settled => ?_, done.getLast?, done.keeps_of_leads empty led⟩
    obtain ⟨released, before, pairs, ahead, silent⟩ := release node line seated settled
    refine ⟨released, before, pairs, ?_⟩
    have sent : before ++ [.stationRelease s.mge.lineNode st c.body .rejected pairs] <+: (s.request f (.resolve b 2)).issued := by
      rw [done.issued]
      exact (ahead.trans (State.comparePoint_leads _).2.1).trans (List.prefix_append _ _)
    obtain ⟨rest, whole⟩ := sent
    refine ⟨rest, by rw [← whole, List.append_assoc]; rfl, fun x hx dst tag program expected word kind same => ?_⟩
    rcases silent x hx with old | quietly
    · exact nomatch (show x ∈ [] from old)
    · subst same
      cases quietly
  · obtain ⟨_, empty, _⟩ := s.quiet_iff.mp quiet
    set q := s.posed f (.resolve b 2) with hq
    set a : ActionResult := ⟨q, {}, []⟩ with ha
    have act : q.abort st = a := State.abort_of_no_reason (by exact none)
    have ran : q.resolveStation b 2 = (State.afterAction a st, .ok) :=
      State.resolveStation_of_held hb (by exact held) (a := .abort) rfl (congrArg some act)
    set v := (State.resumed a st).checkCompletion st with hv
    have after : State.afterAction a st = (v.returnFaulted st).callPass := State.afterAction_of_idle rfl lists
    have toward : q.leads (State.resumed a st) [.stc] := by
      rw [State.resumed_of_no_reason rfl]
      exact q.setStation_leads st _
    have returned : v.leads (State.afterAction a st) [.rbc] := by
      rw [after]
      exact State.leads_trans (v.returnFaulted_leads st) (State.callPass_leads _ _)
    have led : q.leads (State.afterAction a st) [.stc, .rbc, .lif] :=
      State.leads_seq (State.leads_seq (n := [.stc, .lif]) toward (State.checkCompletion_leads _ st) (by simp) (by simp)) returned
        (by simp) (by simp)
    have done := State.resolve_completed quiet ran queue led
    have station : (s.request f (.resolve b 2)).station st = v.station st := by
      rw [State.station_congr (done.keeps.2 .stc (by simp)), State.station_congr (returned.1.2 .stc (by simp))]
    have released : ((State.resumed a st).station st).Released (v.station st) := State.checkCompletion_released _ st st
    have before : (State.resumed a st).station st = (s.station st).resumed {} := State.resumed_station a st
    have enabled : (s.station st).enabled = true := ((Station.state_eq_held _).mp held).1
    refine ⟨_, rfl, ?_, ?_, fun c current => ?_, done.getLast?, done.keeps_of_leads empty led⟩
    · rw [station, released.state, before]
      exact Station.resumed_running enabled
    · rw [station, released.written.bodyLost, before]
      rfl
    · have there : ((State.resumed a st).station st).current = some { c with reasons := {} } := by
        rw [before, Station.resumed, current]
        rfl
      obtain ⟨c', now, wrote⟩ := released.written.current _ there
      obtain ⟨d, same, _, positions, _⟩ := released.current there
      rw [now] at same
      cases same
      exact ⟨c', by rw [station]; exact now, wrote.abortMark, positions⟩

end Sys2Proof.Machine
end

section
/-! RESOLVE with RETRY (the statement O28). -/

namespace Sys2Proof.Machine

/-! ## The plans of a retry (R152) -/

section
variable {s : State} {st : Fin 16} {c : Slot} {p : Fin 8}

theorem State.freeEntries_eq_zero (s : State) : s.freeEntries = 0 ↔ ∀ j : Fin 128, s.entry? j ≠ none := by
  rw [State.freeEntries, List.countP_eq_zero]
  simp only [Vector.mem_toList_iff, Vector.mem_iff_getElem, forall_exists_index]
  constructor
  · intro h j
    simpa [State.entry?, State.place, Option.isSome_iff_ne_none] using h _ j j.isLt rfl
  · rintro h _ j hj rfl
    simpa [State.entry?, State.place, Option.isSome_iff_ne_none] using h ⟨j, hj⟩

/-- A slot with a blocking position holds a reason. -/
theorem Slot.reasons_of_blocking (blocking : c.blockingPositions = [p]) : c.reasons.isEmpty = false := by
  have mem : p ∈ c.blockingPositions := by rw [blocking]; exact List.mem_cons_self
  have block : c.blocking p = true := (List.mem_filter.mp mem).2
  rw [← Bool.not_eq_true, ReasonSet.isEmpty_iff]
  intro none
  rw [Slot.blocking, none, Option.any_eq_true] at block
  obtain ⟨y, _, block⟩ := block
  obtain ⟨r, _, has⟩ := (Option.any_eq_true _ _).mp block
  cases r <;> cases has

/-- The CURRENT slot with one position rewritten. -/
def State.rewrite (s : State) (st : Fin 16) (c : Slot) (p : Fin 8) (x : Option Position) : State :=
  s.setStation st { s.station st with current := some { c with positions := c.positions.set p x } }

theorem State.rewrite_station (s : State) (st : Fin 16) (c : Slot) (p : Fin 8) (x : Option Position) :
    (s.rewrite st c p x).station st = { s.station st with current := some { c with positions := c.positions.set p x } } := by
  rw [State.rewrite, State.station_setStation, if_pos rfl]

variable {sy : Fin 64} {w : Work}

theorem State.replan_of_style (style : c.style = some sy) : s.replan st c p
    = ((s.bank c.stamp).work? st p sy c.build).map (fun w => ⟨p, w, s.servingRobot? st p⟩) := by
  simp only [State.replan, style, Option.bind_some]

theorem State.retry_of_style (current : (s.station st).current = some c) (style : c.style = some sy)
    (blocking : c.blockingPositions = [p]) : s.retry st = s.retryStyle st c := by
  simp only [State.retry, current, Slot.reasons_of_blocking blocking, style, Bool.false_eq_true, if_false,
    Option.isNone_some]

/-- A position without work becomes NONE. -/
theorem State.retryStyle_of_no_work (style : c.style = some sy) (blocking : c.blockingPositions = [p])
    (work : (s.bank c.stamp).work? st p sy c.build = none) : s.retryStyle st c = some ⟨s.rewrite st c p none, {}, []⟩ := by
  have plans : [p].filterMap (s.replan st c) = [] := by
    rw [List.filterMap_cons_none (by rw [State.replan_of_style style, work]; rfl)]
    rfl
  have room : s.retryFull [] = false := by simp [State.retryFull, servingRobots]
  simp only [State.retryStyle, plans, room, blocking, Bool.false_eq_true, if_false]
  rfl

theorem State.plans_of_work (style : c.style = some sy) (work : (s.bank c.stamp).work? st p sy c.build = some w) :
    [p].filterMap (s.replan st c) = [⟨p, w, s.servingRobot? st p⟩] := by
  rw [List.filterMap_cons_some (by rw [State.replan_of_style style, work]; rfl)]
  rfl

/-- The reason that a position enters which no robot serves. -/
def Policy.bypassReason (policy : Policy) : ReasonSet := if policy = .hold then { bypassed := true } else {}

/-- A position with work that no robot serves becomes BYPASSED. -/
theorem State.retryStyle_of_unserved (style : c.style = some sy) (blocking : c.blockingPositions = [p])
    (work : (s.bank c.stamp).work? st p sy c.build = some w) (unserved : s.servingRobot? st p = none) :
    s.retryStyle st c = some ⟨s.rewrite st c p (some ⟨w.program, w.expected, .bypassed, none, w.expected⟩),
      (s.station st).config.short.bypassReason, []⟩ := by
  have plans := State.plans_of_work style work
  rw [unserved] at plans
  have room : s.retryFull [⟨p, w, none⟩] = false := by simp [State.retryFull, servingRobots]
  have reasons : ({} : ReasonSet).enterPlans (s.station st).config.short [⟨p, w, none⟩]
      = (s.station st).config.short.bypassReason := by
    unfold Policy.bypassReason
    cases (s.station st).config.short <;> rfl
  have written : writePlans ([p].foldl (fun v (p : Fin 8) => v.set p none) c.positions) [⟨p, w, none⟩]
      = c.positions.set p (some ⟨w.program, w.expected, .bypassed, none, w.expected⟩) := by
    simp [writePlans, Plan.record]
  simp only [State.retryStyle, plans, room, blocking, reasons, written, Bool.false_eq_true, if_false]
  rfl

variable {r : Fin 64}

theorem State.retryFull_served : s.retryFull [⟨p, w, some r⟩] = true ↔ s.freeEntries = 0 ∨ 3 ≤ (s.list r).length := by
  have robots : servingRobots [⟨p, w, some r⟩] = [r] := rfl
  simp only [State.retryFull, robots, List.length_singleton, List.any_cons, List.any_nil, Bool.or_false, Bool.or_eq_true,
    decide_eq_true_eq]
  have three : Config.maxList = 3 := rfl
  omega

theorem State.retryStyle_of_full (style : c.style = some sy) (blocking : c.blockingPositions = [p])
    (work : (s.bank c.stamp).work? st p sy c.build = some w) (served : s.servingRobot? st p = some r)
    (full : 3 ≤ (s.list r).length ∨ ∀ j : Fin 128, s.entry? j ≠ none) : s.retryStyle st c = none := by
  have plans := State.plans_of_work style work
  rw [served] at plans
  have noRoom : s.retryFull [⟨p, w, some r⟩] = true :=
    State.retryFull_served.mpr (full.symm.imp_left s.freeEntries_eq_zero.mpr)
  simp only [State.retryStyle, blocking, plans, noRoom, if_true]

/-- A position with work that a robot serves becomes PENDING, and its entry is alone in the robot's empty list. -/
theorem State.retryStyle_of_served {i : Fin 128} (style : c.style = some sy) (blocking : c.blockingPositions = [p])
    (work : (s.bank c.stamp).work? st p sy c.build = some w) (served : s.servingRobot? st p = some r)
    (list : s.list r = []) (free : s.lowestFree? = some i) :
    s.retryStyle st c = some ⟨((s.rewrite st c p (some ⟨w.program, w.expected, .pending, none, 0⟩)).setEntry i
      (some (weldEntry st c.body ⟨p, w, some r⟩ r))).setList r [i], {}, []⟩ := by
  have plans := State.plans_of_work style work
  rw [served] at plans
  have entry : s.entry? i = none := by
    have found := List.find?_some free
    simpa using found
  have room : s.retryFull [⟨p, w, some r⟩] = false := by
    rw [← Bool.not_eq_true, State.retryFull_served, State.freeEntries_eq_zero, list]
    rintro (none | long)
    · exact none i entry
    · exact absurd long (by decide)
  have written : writePlans ([p].foldl (fun v (p : Fin 8) => v.set p none) c.positions) [⟨p, w, some r⟩]
      = c.positions.set p (some ⟨w.program, w.expected, .pending, none, 0⟩) := by
    simp [writePlans, Plan.record]
  simp only [State.retryStyle, plans, room, blocking, written, Bool.false_eq_true, if_false]
  refine congrArg (fun x : State => some (⟨x, {}, []⟩ : ActionResult)) ?_
  set u := s.rewrite st c p (some ⟨w.program, w.expected, .pending, none, 0⟩) with hu
  have uFree : u.lowestFree? = some i := free
  have uList : u.list r = [] := list
  change u.insertHead (weldEntry st c.body ⟨p, w, some r⟩ r) = _
  rcases State.insertHead_of_some uFree (weldEntry st c.body ⟨p, w, some r⟩ r) with ⟨l, m, split, eq⟩ | ⟨j, m, split, _⟩
  · obtain ⟨rfl, rfl⟩ := List.append_eq_nil_iff.mp (split.symm.trans uList)
    exact eq
  · exact nomatch split.symm.trans uList

end

/-! ## The steps behind a retry without an entry -/

/-- What a RESOLVE leaves whose action wrote the station alone, where no robot of the station has an entry. -/
theorem State.resolve_of_idle {s : State} {f : Sender} {b n : Byte} {st : Fin 16} {a : ActionResult} (quiet : s.quiet = true)
    (ran : (s.posed f (.resolve b n)).resolveStation b n = (State.afterAction a st, .ok)) (queue : s.arq.queue = [])
    (called : a.called = []) (wrote : (s.posed f (.resolve b n)).leads a.state [.stc])
    (lists : ∀ r ∈ s.stationRobots st, s.list r = []) :
    ((a.state.station st).resumed a.reasons).Released ((s.request f (.resolve b n)).station st)
    ∧ (s.request f (.resolve b n)).issued.getLast? = some (.mgmtResponse f.node f.seq 16 .ok [])
    ∧ s.keeps (s.request f (.resolve b n)) [.lif, .stc, .rbc, .piu, .emu]
    ∧ (a.reasons = {} → s.keeps (s.request f (.resolve b n)) [.lif, .stc, .rbc, .piu]) := by
  obtain ⟨_, empty, _⟩ := s.quiet_iff.mp quiet
  set q := s.posed f (.resolve b n) with hq
  set v := (State.resumed a st).checkCompletion st with hv
  have none : ∀ r ∈ a.state.stationRobots st, a.state.list r = [] := fun r hr => by
    rw [State.stationRobots_of_rbc (wrote.1.2 .rbc (by simp))] at hr
    rw [State.list_congr (wrote.1.2 .dtr (by simp))]
    exact lists r hr
  have after := State.afterAction_of_idle called none
  have returned : v.leads (State.afterAction a st) [.rbc] := by
    rw [after]
    exact State.leads_trans (v.returnFaulted_leads st) (State.callPass_leads _ _)
  have toward : q.leads (State.resumed a st) [.stc, .emu, .lif] :=
    State.leads_seq wrote (State.resumed_leads a st) (by simp) (by simp)
  have led {l : List Block} (h : q.leads (State.resumed a st) l) : q.leads (State.afterAction a st) (.stc :: .lif :: .rbc :: l) := by
    have checked : q.leads v (.stc :: .lif :: l) := State.leads_seq h (State.checkCompletion_leads _ st)
      (fun x hx => by simp [hx]) (by simp)
    exact State.leads_seq checked returned (fun x hx => by simp only [List.mem_cons] at hx ⊢; tauto) (by simp)
  have done := State.resolve_completed quiet ran queue (led toward)
  have station : (s.request f (.resolve b n)).station st = v.station st := by
    rw [State.station_congr (done.keeps.2 .stc (by simp)), State.station_congr (returned.1.2 .stc (by simp))]
  refine ⟨?_, done.getLast?, done.keeps_of_leads empty (led toward), fun reasons => ?_⟩
  · rw [station, ← State.resumed_station]
    exact State.checkCompletion_released _ st st
  · have still : q.leads (State.resumed a st) [.stc] := by
      rw [State.resumed_of_no_reason reasons]
      exact State.leads_seq wrote (State.setStation_leads _ _ _) (by simp) (by simp)
    exact done.keeps_of_leads empty (led still)

/-! ## The offer of the new entry -/

/-- Offers for robots of which one alone has an entry. -/
theorem State.attemptOffers_of_only {s : State} {r : Fin 64} {rs : List (Fin 64)} (nodup : rs.Nodup) (mem : r ∈ rs)
    (before : ∀ q ∈ rs, q ≠ r → s.list q = []) (after : ∀ q ∈ rs, q ≠ r → (s.attemptOffer r).list q = []) :
    s.attemptOffers rs = s.attemptOffer r := by
  obtain ⟨l, m, rfl⟩ := List.append_of_mem mem
  obtain ⟨_, tail, apart⟩ := List.nodup_append.mp nodup
  have first : s.attemptOffers l = s := State.attemptOffers_of_nil fun q hq =>
    before q (List.mem_append_left _ hq) (apart q hq r List.mem_cons_self)
  have last : (s.attemptOffer r).attemptOffers m = s.attemptOffer r := State.attemptOffers_of_nil fun q hq =>
    after q (List.mem_append_right _ (List.mem_cons_of_mem _ hq)) fun same => (List.nodup_cons.mp tail).1 (same ▸ hq)
  have parts : s.attemptOffers (l ++ r :: m) = ((s.attemptOffers l).attemptOffer r).attemptOffers m := by
    simp only [State.attemptOffers, List.foldl_append, List.foldl_cons]
  rw [parts, first, last]

/-- The new entry of a retry, offered to its robot, which was FAULTED. -/
theorem State.afterAction_of_entry {a : ActionResult} {st : Fin 16} {r : Fin 64} {i : Fin 128} {e : Entry}
    (reasons : a.reasons = {}) (called : a.called = []) (busy : (a.state.station st).enabled = true)
    (pending : ((a.state.station st).resumed {}).completes = false) (entry : a.state.entry? i = some e)
    (new : e.state = .queued) (station : e.station = st)
    (serves : r ∈ a.state.stationRobots st) (list : a.state.list r = [i])
    (others : ∀ q ∈ a.state.stationRobots st, q ≠ r → a.state.list q = []) (faulted : (a.state.robot r).state = .faulted)
    (fresh : (a.state.robot r).wear < (a.state.robot r).limit) (manual : (a.state.panel st).manual = false) :
    State.afterAction a st
      = (((a.state.setStation st ((a.state.station st).resumed {})).returnFaulted st).offer i r).callPass := by
  set u := a.state.setStation st ((a.state.station st).resumed {}) with hu
  have resumed : State.resumed a st = u := State.resumed_of_no_reason reasons
  have uStation : u.station st = (a.state.station st).resumed {} := by rw [hu, State.station_setStation, if_pos rfl]
  have checked : u.checkCompletion st = u := State.checkCompletion_of_not (by rw [uStation]; exact pending)
  obtain ⟨v, hv, eq⟩ := State.afterAction_eq a st
  have alone : v = u.returnFaulted st := by
    rw [hv, called, resumed, checked]
    rfl
  have led : a.state.leads v [.stc, .rbc] := by
    rw [alone]
    exact State.leads_seq (a.state.setStation_leads st _) (u.returnFaulted_leads st) (by simp) (by simp)
  have vList (q : Fin 64) : v.list q = a.state.list q := State.list_congr (led.1.2 .dtr (by simp)) q
  have vEntry : v.entry? i = some e := (State.entry?_congr (led.1.2 .dtr (by simp)) i).trans entry
  have vRobots : v.stationRobots st = a.state.stationRobots st := by
    rw [alone, State.returnFaulted_stationRobots]
    exact State.stationRobots_of_rbc rfl st
  have vRobot : v.robot r = { a.state.robot r with state := .idle } := by
    have there : r ∈ u.stationRobots st := (State.stationRobots_of_rbc (s := a.state) rfl st).symm ▸ serves
    rw [alone, State.returnFaulted_robot, if_pos there]
    exact Robot.returned_of_faulted faulted
  have vStation : v.station st = (a.state.station st).resumed {} := by
    rw [alone, State.station_congr ((u.returnFaulted_leads st).1.2 .stc (by simp)), uStation]
  have offerable : v.offerable r e = true := by
    rw [State.offerable_iff]
    refine ⟨new, by rw [vRobot], ?_, fun _ => ?_⟩
    · rw [station, State.panel_congr (congrArg Piu.panels (led.1.2 .piu (by simp)))]
      exact manual
    · rw [station, vStation]
      exact busy
  have unworn : ¬ (e.kind = .weld ∧ (v.robot r).worn = true) := by
    rw [vRobot]
    rintro ⟨_, worn⟩
    exact Nat.not_le.mpr fresh (of_decide_eq_true worn)
  have offer : v.attemptOffer r = v.offer i r := by
    rw [State.attemptOffer_of_head ((vList r).trans list) vEntry, if_pos offerable, if_neg unworn]
  have only : v.attemptOffers (v.stationRobots st) = v.offer i r := by
    rw [← offer]
    refine State.attemptOffers_of_only (v.stationRobots_nodup st) (vRobots ▸ serves) (fun q hq other => ?_) fun q hq other => ?_
    · rw [vList]
      exact others q (vRobots ▸ hq) other
    · rw [offer, State.list, State.offer_lists vEntry]
      exact (vList q).trans (others q (vRobots ▸ hq) other)
  rw [eq, only, alone]

/-- Settles O28: the one blocking position is rewritten by its new plan, and a new entry is offered where it has one. -/
theorem resolvedRetry : Obligations.ResolvedRetry := by
  intro s f b st c p sy quiet hb held current style blocking
  obtain ⟨⟨_, node⟩, empty, _⟩ := s.quiet_iff.mp quiet
  set q := s.posed f (.resolve b 0) with hq
  have enabled : (s.station st).enabled = true := ((Station.state_eq_held _).mp held).1
  have retry : q.retry st = q.retryStyle st c := State.retry_of_style (by exact current) style blocking
  have accepted {a : ActionResult} (h : q.retryStyle st c = some a) : q.resolveStation b 0 = (State.afterAction a st, .ok) :=
    State.resolveStation_of_held hb (by exact held) (a := .retry) rfl (retry.trans h)
  refine ⟨fun w r i queue lists work served faulted fresh manual free least => ?_, fun w r work served full => ?_,
    fun w work unserved queue lists => ?_, fun work queue lists => ?_⟩
  · set y : Position := ⟨w.program, w.expected, .pending, none, 0⟩ with hy
    set e := weldEntry st c.body ⟨p, w, some r⟩ r with he
    set x := (q.rewrite st c p (some y)).setEntry i (some e) |>.setList r [i] with hx
    have serves : r ∈ s.stationRobots st := State.mem_stationRobots.mpr ⟨p, served⟩
    have ran := accepted (State.retryStyle_of_served style blocking work (by exact served) (by exact lists r serves)
      (State.lowestFree?_of_least (by exact free) least))
    set a : ActionResult := ⟨x, {}, []⟩ with ha
    have wrote : q.leads x [.stc, .dtr] :=
      State.leads_seq (State.leads_seq (n := [.stc, .dtr]) (q.setStation_leads st _) (State.setEntry_leads _ _ _) (by simp)
        (by simp)) (State.setList_leads _ _ _) (by simp) (by simp)
    have xStation : x.station st = { s.station st with current := some { c with positions := c.positions.set p (some y) } } :=
      q.rewrite_station st c p (some y)
    have xRobots : x.stationRobots st = s.stationRobots st := State.stationRobots_of_rbc (s := s) rfl st
    have xEntry : x.entry? i = some e := by simp [hx]
    have xList (j : Fin 64) : x.list j = if r = j then [i] else s.list j := State.list_setList _ _ _ _
    have pending : ((x.station st).resumed {}).completes = false := by
      rw [← Bool.not_eq_true, xStation, Station.completes_iff (by rfl)]
      rintro ⟨_, _, settled⟩
      exact settled p y (by simp) rfl
    have after := State.afterAction_of_entry (a := a) rfl rfl (by rw [xStation]; exact enabled) pending xEntry rfl rfl
      (by rw [xRobots]; exact serves) ((xList r).trans (if_pos rfl))
      (fun j hj other => (xList j).trans ((if_neg other.symm).trans (lists j (xRobots ▸ hj)))) faulted fresh manual
    set u := (x.setStation st ((x.station st).resumed {})).returnFaulted st with hu
    have toward : x.leads u [.stc, .rbc] := State.leads_seq (x.setStation_leads st _) (State.returnFaulted_leads _ st) (by simp) (by simp)
    have ended : u.leads (State.afterAction a st) [.lif, .dtr, .rbc, .piu, .emu] := by
      rw [after]
      exact State.leads_trans (u.offer_leads i r) (State.callPass_leads _ _)
    have led : q.leads (State.afterAction a st) [.stc, .rbc, .lif, .dtr, .piu, .emu] :=
      State.leads_seq (State.leads_seq (n := [.stc, .rbc, .dtr]) wrote toward (by simp) (by simp)) ended (by simp) (by simp)
    have done := State.resolve_completed quiet ran queue led
    have uEntry : u.entry? i = some e := (State.entry?_congr (toward.1.2 .dtr (by simp)) i).trans xEntry
    have uStation : u.station st = (x.station st).resumed {} := by
      rw [hu, State.station_congr ((State.returnFaulted_leads _ st).1.2 .stc (by simp)), State.station_setStation, if_pos rfl]
    have station : (s.request f (.resolve b 0)).station st = (x.station st).resumed {} := by
      rw [State.station_congr (done.keeps.2 .stc (by simp)), State.station_congr (ended.1.2 .stc (by simp)), uStation]
    have place (j : Fin 128) : (s.request f (.resolve b 0)).place j = (u.offer i r).place j := by
      rw [State.place_congr (done.keeps.2 .dtr (by simp)), after, State.place_congr ((State.callPass_leads _ []).1.2 .dtr (by simp))]
    have uPlace (j : Fin 128) : u.place j = if i = j then ⟨(s.place i).issue, some e⟩ else s.place j := by
      rw [State.place_congr (toward.1.2 .dtr (by simp)), hx, State.place_setList, State.place_setEntry]
      rfl
    have uNode : (u.robot r).node = (s.robot r).node := by
      rw [hu, State.returnFaulted_robot]
      split
      · unfold Robot.returned
        split <;> rfl
      · rfl
    refine ⟨_, rfl, ?_, ?_, ?_, ?_, fun j other => ?_, ?_, ?_, done.getLast?, done.keeps_of_leads empty led⟩
    · rw [station]
      exact Station.resumed_running (by rw [xStation]; exact enabled)
    · rw [State.list_congr (done.keeps.2 .dtr (by simp)), after,
        State.list_congr ((State.callPass_leads _ []).1.2 .dtr (by simp)), State.list, State.offer_lists uEntry]
      exact (State.list_congr (toward.1.2 .dtr (by simp)) r).trans ((xList r).trans (if_pos rfl))
    · refine ⟨{ c with positions := c.positions.set p (some y), reasons := {} }, ?_, rfl, rfl, rfl⟩
      rw [station, xStation]
      rfl
    · rw [place, State.offer_place uEntry, if_pos rfl, uPlace, if_pos rfl]
      have timeout : (u.station e.station).config.selectTimeout = (s.station st).config.selectTimeout := by
        change (u.station st).config.selectTimeout = _
        rw [uStation, xStation]
        rfl
      rw [timeout]
      rfl
    · rw [place, State.offer_place uEntry, if_neg other.symm, uPlace, if_neg other.symm]
    · rw [State.robot_congr (done.keeps.2 .rbc (by simp)), after,
        State.robot_congr ((State.callPass_leads _ []).1.2 .rbc (by simp)), State.offer_robot uEntry, if_pos rfl]
    · have sent := State.offer_issued uEntry r (by
        rw [State.leads_node toward, State.leads_node wrote]
        exact node)
      have robot : e.robot = r := rfl
      rw [robot, uNode, uPlace, if_pos rfl] at sent
      refine done.mem_issued ?_
      rw [after]
      exact sent
  · have refused : q.resolveStation b 0 = (q, .full) := by
      have act : q.act st .retry = none := retry.trans
        (State.retryStyle_of_full style blocking work (by exact served) full)
      have action : action? 0 = some .retry := rfl
      simp only [State.resolveStation, below?_of_eq hb, action, act]
      exact if_pos held
    exact congrArg Host.Outcome.next (State.request_of_bare (r := .resolve b 0) quiet rfl (congrArg bare refused))
  · set y : Position := ⟨w.program, w.expected, .bypassed, none, w.expected⟩ with hy
    set a : ActionResult := ⟨q.rewrite st c p (some y), (s.station st).config.short.bypassReason, []⟩ with ha
    have ran := accepted (a := a) (State.retryStyle_of_unserved style blocking work (by exact unserved))
    obtain ⟨released, last, kept, _⟩ := State.resolve_of_idle quiet ran queue rfl (q.setStation_leads st _) lists
    have station : a.state.station st = { s.station st with current := some { c with positions := c.positions.set p (some y) } } :=
      q.rewrite_station st c p (some y)
    rw [station] at released
    obtain ⟨c', now, _, positions, reasons⟩ := released.current rfl
    refine ⟨_, rfl, ⟨c', now, positions, fun hold => ?_, fun pass => ?_⟩, last, kept⟩
    · have held : a.reasons = { bypassed := true } := if_pos hold
      refine ⟨reasons.trans held, released.state.trans ?_⟩
      refine Station.held_of_reason enabled rfl ?_
      rw [held]
      rfl
    · have free : a.reasons = {} := if_neg (by rw [pass]; decide)
      refine ⟨reasons.trans free, released.state.trans ?_⟩
      rw [free]
      exact Station.resumed_running enabled
  · set a : ActionResult := ⟨q.rewrite st c p none, {}, []⟩ with ha
    have ran := accepted (a := a) (State.retryStyle_of_no_work style blocking work)
    obtain ⟨released, last, _, kept⟩ := State.resolve_of_idle quiet ran queue rfl (q.setStation_leads st _) lists
    have station : a.state.station st = { s.station st with current := some { c with positions := c.positions.set p none } } :=
      q.rewrite_station st c p none
    rw [station] at released
    obtain ⟨c', now, _, positions, reasons⟩ := released.current rfl
    exact ⟨_, rfl, released.state.trans (Station.resumed_running enabled), ⟨c', now, reasons, positions⟩, last, kept rfl⟩

end Sys2Proof.Machine
end

section
/-! The order that an allocation pass keeps, its skips, and a STARVED head (the statement O50). -/

namespace Sys2Proof.Machine

/-! ## A skip (R58) -/

section
variable {a : Arrival}

theorem Arrival.skipped_of_few (h : a.skips < 7) : a.skipped = { a with skips := a.skips + 1 } := by
  have few : a.skips < Config.starvation := Nat.lt_trans h (by decide)
  have fresh : (a.skips + 1 == Config.starvation) = false := by
    rw [beq_eq_false_iff_ne]
    exact fun same => by have : a.skips + 1 = 8 := same; omega
  rw [Arrival.skipped, if_pos few, fresh, Bool.or_false]

theorem Arrival.skipped_of_seven (h : a.skips = 7) : a.skipped = { a with skips := 8, starved := true } := by
  have few : a.skips < Config.starvation := by rw [h]; decide
  have last : (a.skips + 1 == Config.starvation) = true := by rw [h]; rfl
  rw [Arrival.skipped, if_pos few, last, Bool.or_true, h]

theorem Arrival.skipped_of_many (h : 8 ≤ a.skips) : a.skipped = a := if_neg (Nat.not_lt.mpr h)

theorem Arrival.skipped_starved (h : a.starved = true) : a.skipped.starved = true := by
  unfold Arrival.skipped
  split
  · simp [h]
  · exact h

/-- What a skip leaves of an arrival: where it came from, its body and its stamp. -/
def Arrival.origin (a : Arrival) : Fin 16 × Word × Word × BankId := (a.station, a.body, a.build, a.stamp)

theorem Arrival.skipped_origin (a : Arrival) : a.skipped.origin = a.origin := by
  unfold Arrival.skipped
  split <;> rfl

end

/-! ## Judging an arrival (R52, R54, R55) -/

section
variable {s t : State} {ahead : List Arrival} {a : Arrival}

theorem State.eligible_iff (s : State) (ahead : List Arrival) (a : Arrival) : s.eligible ahead a = true ↔
    ((s.station a.station).state ≠ .disabled
      ∧ ((s.station a.station).current = none ∨ (s.station a.station).next = none)
      ∧ (s.station a.station).bodyLost = false ∧ ∀ x ∈ ahead, x.station ≠ a.station) := by
  simp only [State.eligible, Bool.and_eq_true, bne_iff_ne, Bool.or_eq_true, Option.isNone_iff_eq_none, Bool.not_eq_true',
    List.all_eq_true, and_assoc]

theorem State.eligible_congr (stc : t.stc = s.stc) {m : List Arrival} (same : ahead.map (·.station) = m.map (·.station))
    (a : Arrival) : t.eligible ahead a = s.eligible m a := by
  have all (l : List Arrival) : l.all (fun b => b.station != a.station) = (l.map (·.station)).all (· != a.station) := by
    rw [List.all_map]
    rfl
  simp only [State.eligible, State.station_congr stc, all, same]

theorem State.allocatable_iff (s : State) (ahead : List Arrival) (plans : List Plan) : s.allocatable ahead plans = true ↔
    (((servingRobots plans).map (fun r => if s.dressDue r then 2 else 1)).sum ≤ s.freeEntries
      ∧ (∀ r ∈ servingRobots plans, (s.list r).length + (if s.dressDue r then 2 else 1) ≤ 3)
      ∧ ∀ x ∈ ahead, x.starved = false) := by
  simp only [State.allocatable, Bool.and_eq_true, decide_eq_true_eq, State.hasRoom, List.all_eq_true, Bool.not_eq_true',
    List.any_eq_false, Bool.not_eq_true, and_assoc]
  rfl

/-- Behind a STARVED arrival none is allocated. -/
theorem State.allocatable_of_starved (h : ∃ x ∈ ahead, x.starved = true) (s : State) (plans : List Plan) :
    s.allocatable ahead plans = false := by
  obtain ⟨x, mem, starved⟩ := h
  rw [← Bool.not_eq_true, State.allocatable_iff]
  rintro ⟨_, _, none⟩
  rw [none x mem] at starved
  cases starved

/-! ## The turns of the walk (R51) -/

/-- The plans of an arrival at allocation. -/
def State.plansOf (s : State) (a : Arrival) : List Plan := s.plans a.station (s.resolveArrival a).works

/-- The state after the skip of an arrival, the queue being `ahead`, the arrival and `rest`. -/
def State.passOver (s : State) (ahead : List Arrival) (a : Arrival) (rest : List Arrival) : State :=
  (s.setQueue (ahead ++ a.skipped :: rest)).skipEvents a (s.resolveArrival a).style

variable {rest : List Arrival}

theorem passWalk_of_ineligible (h : s.eligible ahead a = false) :
    passWalk ahead (a :: rest) s = passWalk (ahead ++ [a]) rest s := by
  rw [passWalk, if_neg (by simp [h])]

theorem passWalk_of_allocatable (h : s.eligible ahead a = true) (room : s.allocatable ahead (s.plansOf a) = true) :
    passWalk ahead (a :: rest) s
      = passWalk ahead rest (s.allocate a (s.resolveArrival a).style (s.plansOf a) (ahead ++ rest)) := by
  rw [passWalk, if_pos h]
  exact if_pos room

theorem passWalk_of_skipped (h : s.eligible ahead a = true) (full : s.allocatable ahead (s.plansOf a) = false) :
    passWalk ahead (a :: rest) s = passWalk (ahead ++ [a.skipped]) rest (s.passOver ahead a rest) := by
  rw [passWalk, if_pos h]
  exact if_neg (by rw [Bool.not_eq_true]; exact full)

theorem State.passOver_leads (s : State) (ahead : List Arrival) (a : Arrival) (rest : List Arrival) :
    s.leads (s.passOver ahead a rest) [.arq, .emu, .lif] :=
  State.leads_seq (s.setQueue_leads _) (State.skipEvents_leads _ _ _) (by simp) (by simp)

theorem State.passOver_queue (s : State) (ahead : List Arrival) (a : Arrival) (rest : List Arrival) :
    (s.passOver ahead a rest).arq.queue = ahead ++ a.skipped :: rest :=
  congrArg Arq.queue ((State.skipEvents_leads _ _ _).1.2 .arq (by simp))

theorem State.allocate_queue (s : State) (a : Arrival) (style : Option (Fin 64)) (plans : List Plan) (queue : List Arrival) :
    (s.allocate a style plans queue).arq.queue = queue := by
  have led (u : State) : u.arq.queue = (u.dropStamp a.stamp |>.attemptOffers (servingRobots plans)).arq.queue :=
    (congrArg Arq.queue ((State.leads_seq (n := passBlocks.erase .arq) (u.dropStamp_leads a.stamp)
      (State.attemptOffers_leads _ _) (by decide) (by decide)).1.2 .arq (by decide))).symm
  exact (led _).symm

end

/-! ## The order (R51) -/

/-- A walk keeps the arrivals that stand ahead of it, and of the others it keeps some, in their order. -/
theorem passWalk_queue : ∀ (l ahead : List Arrival) (s : State), s.arq.queue = ahead ++ l →
    ∃ m, (passWalk ahead l s).arq.queue = ahead ++ m ∧ (m.map Arrival.origin).Sublist (l.map Arrival.origin)
  | [], _, _, queue => ⟨[], queue, .slnil⟩
  | a :: rest, ahead, s, queue => by
    cases eligible : s.eligible ahead a with
    | false =>
      rw [passWalk_of_ineligible eligible]
      obtain ⟨m, after, sub⟩ := passWalk_queue rest (ahead ++ [a]) s (by rw [queue]; simp)
      exact ⟨a :: m, by rw [after]; simp, sub.cons_cons _⟩
    | true =>
      cases room : s.allocatable ahead (s.plansOf a) with
      | true =>
        rw [passWalk_of_allocatable eligible room]
        obtain ⟨m, after, sub⟩ := passWalk_queue rest ahead _ (s.allocate_queue a _ (s.plansOf a) (ahead ++ rest))
        exact ⟨m, after, sub.cons _⟩
      | false =>
        rw [passWalk_of_skipped eligible room]
        obtain ⟨m, after, sub⟩ := passWalk_queue rest (ahead ++ [a.skipped]) (s.passOver ahead a rest)
          (by rw [State.passOver_queue]; simp)
        refine ⟨a.skipped :: m, by rw [after]; simp, ?_⟩
        rw [List.map_cons, List.map_cons, Arrival.skipped_origin]
        exact sub.cons_cons _

theorem State.runPass_of_due {s : State} (due : s.passDue = true) :
    s.runPass = { passWalk [] s.arq.queue s with passDue := false } := if_pos due

theorem State.keeps_passDue {s t : State} {l : List Block} (h : s.keeps t l) : s.keeps { t with passDue := false } l :=
  ⟨h.1, fun b hb => by have same := h.2 b hb; cases b <;> exact same⟩

/-- Behind a STARVED arrival each eligible arrival is skipped, and no more happens. -/
theorem passWalk_behind_starved : ∀ (l ahead : List Arrival) (s : State), s.arq.queue = ahead ++ l →
    (∃ x ∈ ahead, x.starved = true) →
    s.keeps (passWalk ahead l s) [.arq, .emu, .lif] ∧ ∃ m, (passWalk ahead l s).arq.queue = ahead ++ m ∧ m.length = l.length
      ∧ ∀ (n : Nat) (x : Arrival), l[n]? = some x → m[n]? = some (if s.eligible (ahead ++ l.take n) x then x.skipped else x)
  | [], _, s, queue, _ => ⟨s.keeps_refl _, [], queue, rfl, fun _ _ h => by simp at h⟩
  | a :: rest, ahead, s, queue, starved => by
    have nextStarved (b : Arrival) : ∃ x ∈ ahead ++ [b], x.starved = true := by
      obtain ⟨x, mem, hx⟩ := starved
      exact ⟨x, List.mem_append_left _ mem, hx⟩
    cases eligible : s.eligible ahead a with
    | false =>
      rw [passWalk_of_ineligible eligible]
      obtain ⟨kept, m, after, length, places⟩ := passWalk_behind_starved rest (ahead ++ [a]) s (by rw [queue]; simp)
        (nextStarved a)
      refine ⟨kept, a :: m, by rw [after]; simp, by simp [length], fun n x hx => ?_⟩
      cases n with
      | zero =>
        cases hx
        simp [eligible]
      | succ n =>
        rw [List.take_succ_cons, List.append_cons]
        simpa using places n x (by simpa using hx)
    | true =>
      have full := State.allocatable_of_starved starved s (s.plansOf a)
      have led := s.passOver_leads ahead a rest
      rw [passWalk_of_skipped eligible full]
      obtain ⟨kept, m, after, length, places⟩ := passWalk_behind_starved rest (ahead ++ [a.skipped]) (s.passOver ahead a rest)
        (by rw [State.passOver_queue]; simp) (nextStarved a.skipped)
      refine ⟨State.keeps_trans led.1 kept, a.skipped :: m, by rw [after]; simp, by simp [length], fun n x hx => ?_⟩
      cases n with
      | zero =>
        cases hx
        simp [eligible]
      | succ n =>
        have same : s.eligible (ahead ++ (a :: rest).take (n + 1)) x
            = (s.passOver ahead a rest).eligible (ahead ++ [a.skipped] ++ rest.take n) x :=
          (State.eligible_congr (led.1.2 .stc (by simp)) (by simp [Arrival.skipped_station]) x).symm
        rw [same]
        simpa using places n x (by simpa using hx)

/-! ## The events of a skip (R58) -/

theorem State.offerCounter_other (s : State) (e : CounterEvent) (d : Nat) (a : Attributes) {j k : Fin 8} (h : j ≠ k) :
    (s.offerCounter e d a j).counter k = s.counter k := by
  unfold State.offerCounter
  dsimp only
  split
  · exact s.increase_counter_other d h
  · rfl

/-- An occurrence that a counter in COUNT mode selects, and that no freeze holds, is added to it once. -/
theorem State.offered_counter {e : CounterEvent} {d : Nat} {a : Attributes} {k : Fin 8} : ∀ (l : List (Fin 8)) (s : State), l.Nodup → (s.counter k).config.mode = .count →
    (s.counter k).config.event = e → (s.counter k).config.selects a = true → (s.counter k).config.freezeEnable = false →
    ((l.foldl (fun s j => s.offerCounter e d a j) s).counter k).value
      = if k ∈ l then (s.counter k).value + BitVec.ofNat 48 d else (s.counter k).value
  | [], _, _, _, _, _, _ => rfl
  | j :: l, s, nodup, mode, event, selects, free => by
    obtain ⟨fresh, nodup⟩ := List.nodup_cons.mp nodup
    rw [List.foldl_cons]
    by_cases here : j = k
    · subst here
      have held : s.counterHeld j = false := by rw [State.counterHeld, free, Bool.and_false]
      have self : (s.offerCounter e d a j).counter j
          = { s.counter j with value := (s.counter j).value + BitVec.ofNat 48 d } := by
        rw [State.offerCounter_of_selected ⟨mode, event, selects, by simp [held]⟩, State.increase_counter_self]
      rw [State.offered_counter l _ nodup (by rw [self]; exact mode) (by rw [self]; exact event)
        (by rw [self]; exact selects) (by rw [self]; exact free), if_neg fresh, self, if_pos List.mem_cons_self]
    · have other := s.offerCounter_other e d a here
      rw [State.offered_counter l _ nodup (by rw [other]; exact mode) (by rw [other]; exact event)
        (by rw [other]; exact selects) (by rw [other]; exact free), other]
      simp only [List.mem_cons, Ne.symm here, false_or]

theorem State.count_counter {s : State} {e : CounterEvent} {d : Nat} {a : Attributes} {k : Fin 8} (mode : (s.counter k).config.mode = .count) (event : (s.counter k).config.event = e)
    (selects : (s.counter k).config.selects a = true) (free : (s.counter k).config.freezeEnable = false) :
    ((s.count e d a).counter k).value = (s.counter k).value + BitVec.ofNat 48 d :=
  (State.offered_counter _ s (List.nodup_finRange 8) mode event selects free).trans (if_pos (List.mem_finRange k))

/-- The first event of a skip leaves the counters. -/
theorem State.skipEvents_eq (s : State) (a : Arrival) (style : Option (Fin 64)) : ∃ u : State,
    s.skipEvents a style = u.count .allocSkips 1 ⟨some a.station, none, style⟩ ∧ (∀ k, u.counter k = s.counter k)
    ∧ (a.skips = 7 → a.starved = false → (u.deviceStatus 2).set = true) := by
  refine ⟨_, rfl, fun k => ?_, fun last fresh => ?_⟩
  · split
    · exact State.deviceEvent_counter _ _ _ k
    · rfl
  · rw [if_pos (by rw [fresh, Arrival.skipped_of_seven last]; rfl)]
    exact State.deviceEvent_set _ .trackerStarved _

/-- Settles O50: the walk's order, the two judgements, and its turns at the head and behind a STARVED head. -/
theorem passKeepsOrder : Obligations.PassKeepsOrder := by
  refine ⟨fun s => ?_, fun a => ⟨Arrival.skipped_of_few, Arrival.skipped_of_seven, Arrival.skipped_of_many⟩,
    fun s ahead a => ⟨s.eligible_iff ahead a, fun plans => s.allocatable_iff ahead plans⟩, ?_⟩
  · by_cases due : s.passDue = true
    · obtain ⟨m, after, sub⟩ := passWalk_queue s.arq.queue [] s rfl
      rw [State.runPass_of_due due]
      change (List.map Arrival.origin (passWalk [] s.arq.queue s).arq.queue).Sublist _
      rw [after]
      exact sub
    · rw [State.runPass, if_neg due]
  · rintro s a rest due queue taken rfl
    have ran : s.runPass = { passWalk [] (a :: rest) s with passDue := false } := by rw [State.runPass_of_due due, queue]
    have passed (ineligible : s.eligible [] a = false) : s.runPass = { passWalk [a] rest s with passDue := false } := by
      rw [ran, passWalk_of_ineligible ineligible]
      rfl
    have skipped (eligible : s.eligible [] a = true) (full : s.allocatable [] (s.plansOf a) = false) :
        s.runPass = { passWalk [a.skipped] rest (s.passOver [] a rest) with passDue := false } := by
      rw [ran, passWalk_of_skipped eligible full]
      rfl
    have overQueue : (s.passOver [] a rest).arq.queue = [a.skipped] ++ rest := s.passOver_queue [] a rest
    refine ⟨fun ineligible => ?_, fun eligible full => ⟨?_, fun alone => ?_⟩, fun starved stays => ?_⟩
    · obtain ⟨m, after, _⟩ := passWalk_queue rest [a] s queue
      rw [passed ineligible]
      change (passWalk [a] rest s).arq.queue.head? = some a
      rw [after]
      rfl
    · obtain ⟨m, after, _⟩ := passWalk_queue rest [a.skipped] (s.passOver [] a rest) overQueue
      rw [skipped eligible full]
      change (passWalk [a.skipped] rest (s.passOver [] a rest)).arq.queue.head? = some a.skipped
      rw [after]
      rfl
    · subst alone
      have ended : s.runPass = { s.passOver [] a [] with passDue := false } := skipped eligible full
      obtain ⟨u, events, counters, status⟩ := (s.setQueue ([] ++ [a.skipped])).skipEvents_eq a (s.resolveArrival a).style
      have emu : s.runPass.emu = (s.passOver [] a []).emu := by rw [ended]
      refine ⟨by rw [ended]; exact State.keeps_passDue (s.passOver_leads [] a []).1, fun last fresh => ?_,
        fun k x hx mode event station robot style free => ?_⟩
      · rw [State.deviceStatus_congr emu, State.passOver, events]
        exact (u.count_tells true _ _ _).device _ (status last fresh)
      · subst hx
        have same : u.counter k = s.counter k := counters k
        have selects : (u.counter k).config.selects ⟨some a.station, none, (s.resolveArrival a).style⟩ = true := by
          rw [same, CounterConfig.selects, station, robot, style]
          rfl
        have added := State.count_counter (e := .allocSkips) (d := 1) (by rw [same]; exact mode) (by rw [same]; exact event) selects
          (by rw [same]; exact free)
        have passed : s.runPass.counter k = (s.passOver [] a []).counter k := by rw [State.counter, emu, State.counter]
        rw [passed, State.passOver, events, added, same]
        rfl
    · cases eligible : s.eligible [] a with
      | false =>
        obtain ⟨kept, m, after, length, places⟩ := passWalk_behind_starved rest [a] s queue ⟨a, by simp, starved⟩
        rw [passed eligible]
        refine ⟨State.keeps_passDue kept, ?_, fun n x hx => ?_⟩
        · change (passWalk [a] rest s).arq.queue.length = _
          rw [after]
          simp [length]
        · change (passWalk [a] rest s).arq.queue[n + 1]? = _
          rw [after]
          simpa using places n x hx
      | true =>
        have full : s.allocatable [] (s.plansOf a) = false := stays.resolve_left (by simp [eligible])
        have led := s.passOver_leads [] a rest
        obtain ⟨kept, m, after, length, places⟩ := passWalk_behind_starved rest [a.skipped] (s.passOver [] a rest) overQueue
          ⟨a.skipped, by simp, Arrival.skipped_starved starved⟩
        rw [skipped eligible full]
        refine ⟨State.keeps_passDue (State.keeps_trans led.1 kept), ?_, fun n x hx => ?_⟩
        · change (passWalk [a.skipped] rest (s.passOver [] a rest)).arq.queue.length = _
          rw [after]
          simp [length]
        have same : s.eligible (a :: rest.take n) x = (s.passOver [] a rest).eligible ([a.skipped] ++ rest.take n) x :=
          (State.eligible_congr (led.1.2 .stc (by simp)) (by simp [Arrival.skipped_station]) x).symm
        change (passWalk [a.skipped] rest (s.passOver [] a rest)).arq.queue[n + 1]? = _
        rw [same, after]
        simpa using places n x hx

end Sys2Proof.Machine
end

section
/-! The entries that an allocation creates: where they come to stand (R56, R64). -/

namespace Sys2Proof.Machine

/-! ## The free indices (R64) -/

/-- The free tracker indices, in order. -/
def State.frees (s : State) : List (Fin 128) := (List.finRange 128).filter (fun i => (s.entry? i).isNone)

/-- Every index in a robot's list holds an entry of that robot. -/
def State.Owned (s : State) : Prop := ∀ r i, i ∈ s.list r → s.robotOf? i = some r

theorem State.ListsAgree.owned {s : State} (h : s.ListsAgree) : s.Owned := fun r i => (h.mem r i).mp

section
variable {s : State} {e : Entry} {i : Fin 128}

theorem State.lowestFree?_eq (s : State) : s.lowestFree? = s.frees.head? := (List.head?_filter ..).symm

theorem State.mem_frees : i ∈ s.frees ↔ s.entry? i = none := by simp [State.frees]

theorem State.append_of_full (h : s.frees = []) (e : Entry) : s.append e = s :=
  State.append_of_none (by rw [State.lowestFree?_eq, h]; rfl) e

variable {is : List (Fin 128)}

theorem State.append_of_frees (h : s.frees = i :: is) (e : Entry) :
    s.append e = (s.setEntry i (some e)).setList e.robot (s.list e.robot ++ [i]) :=
  State.append_of_some (by rw [State.lowestFree?_eq, h]; rfl) e

theorem State.append_place (h : s.frees = i :: is) (e : Entry) (j : Fin 128) :
    (s.append e).place j = if i = j then ⟨(s.place j).issue, some e⟩ else s.place j := by
  rw [State.append_of_frees h, State.place_setList, State.place_setEntry]
  split
  · next here => rw [here]
  · rfl

theorem State.append_list (h : s.frees = i :: is) (e : Entry) (r : Fin 64) :
    (s.append e).list r = if e.robot = r then s.list r ++ [i] else s.list r := by
  rw [State.append_of_frees h, State.list_setList]
  split
  · next here => rw [here]
  · rfl

theorem State.append_frees (h : s.frees = i :: is) (e : Entry) : (s.append e).frees = is := by
  have nodup : s.frees.Nodup := (List.nodup_finRange 128).filter _
  rw [h] at nodup
  obtain ⟨fresh, _⟩ := List.nodup_cons.mp nodup
  have left : (s.append e).frees = s.frees.filter (fun j => decide (j ≠ i)) := by
    rw [State.frees, State.frees, List.filter_filter]
    refine List.filter_congr fun j _ => ?_
    rw [State.entry?, State.append_place h]
    by_cases here : i = j
    · simp [here]
    · rw [if_neg here]
      simp [State.entry?, Ne.symm here]
  rw [left, h, List.filter_cons_of_neg (by simp)]
  exact List.filter_eq_self.mpr fun j hj => decide_eq_true fun same => fresh (same ▸ hj)

theorem State.Owned.append (h : s.Owned) (e : Entry) : (s.append e).Owned := by
  cases free : s.frees with
  | nil => rwa [State.append_of_full free]
  | cons i is =>
    intro r j hj
    have unused : s.entry? i = none := State.mem_frees.mp (free ▸ List.mem_cons_self)
    rw [State.robotOf?, State.entry?, State.append_place free]
    rw [State.append_list free] at hj
    by_cases here : i = j
    · rw [if_pos here]
      split at hj
      · next own => simp [own]
      · have used := h r j hj
        rw [State.robotOf?, ← here, unused] at used
        cases used
    · rw [if_neg here]
      refine h r j ?_
      split at hj
      · exact (List.mem_append.mp hj).resolve_right (by simpa using Ne.symm here)
      · exact hj

end

/-! ## Entries appended one after another -/

/-- Entries appended in order, each to the list of its robot. -/
def State.appends (s : State) (l : List Entry) : State := l.foldl State.append s

theorem State.appends_append (s : State) (l m : List Entry) : s.appends (l ++ m) = (s.appends l).appends m := List.foldl_append

theorem State.appends_leads (s : State) (l : List Entry) : s.leads (s.appends l) [.dtr] :=
  foldl_leads (fun e t => t.append_leads e) l s

theorem State.appends_of_full {s : State} (h : s.frees = []) : ∀ l : List Entry, s.appends l = s
  | [] => rfl
  | e :: l => by
    change (s.append e).appends l = s
    rw [State.append_of_full h]
    exact State.appends_of_full h l

theorem State.Owned.appends {s : State} (h : s.Owned) (l : List Entry) : (s.appends l).Owned :=
  foldl_keep (P := State.Owned) (fun e _ h => h.append e) l h

/-- A robot's list grows by the indices of its new entries. -/
theorem State.appends_list (r : Fin 64) : ∀ (l : List Entry) (s : State),
    (s.appends l).list r = s.list r ++ ((l.zip s.frees).filter (·.1.robot == r)).map (·.2)
  | [], s => by simp [State.appends]
  | e :: l, s => by
    cases free : s.frees with
    | nil => rw [State.appends_of_full free]; simp
    | cons i is =>
      change ((s.append e).appends l).list r = _
      rw [State.appends_list r l (s.append e), State.append_list free, State.append_frees free, List.zip_cons_cons]
      by_cases own : e.robot = r
      · rw [if_pos own, List.filter_cons_of_pos (by simpa using own)]
        simp
      · rw [if_neg own, List.filter_cons_of_neg (by simpa using own)]

/-- The entries in use stay. -/
theorem State.appends_place_of_used {j : Fin 128} : ∀ (l : List Entry) (s : State), s.entry? j ≠ none →
    (s.appends l).place j = s.place j
  | [], _, _ => rfl
  | e :: l, s, used => by
    cases free : s.frees with
    | nil => rw [State.appends_of_full free]
    | cons i is =>
      have other : i ≠ j := fun same => used (State.mem_frees.mp (free ▸ same ▸ List.mem_cons_self))
      have kept : (s.append e).place j = s.place j := (State.append_place free e j).trans (if_neg other)
      change ((s.append e).appends l).place j = _
      rw [State.appends_place_of_used l (s.append e) (by rw [State.entry?, kept]; exact used), kept]

/-- Each new entry comes to stand at its free index. -/
theorem State.appends_place {x : Entry} {i : Fin 128} : ∀ (l : List Entry) (s : State) (n : Nat), l[n]? = some x →
    s.frees[n]? = some i → (s.appends l).place i = ⟨(s.place i).issue, some x⟩
  | [], _, _, hx, _ => by simp at hx
  | e :: l, s, n, hx, hi => by
    cases free : s.frees with
    | nil => rw [free] at hi; simp at hi
    | cons j js =>
      rw [free] at hi
      change ((s.append e).appends l).place i = _
      cases n with
      | zero =>
        cases hx
        cases hi
        have put : (s.append x).place i = ⟨(s.place i).issue, some x⟩ := (State.append_place free x i).trans (if_pos rfl)
        rw [State.appends_place_of_used l (s.append x) (by rw [State.entry?, put]; simp), put]
      | succ n =>
        have later : (s.append e).frees[n]? = some i := by
          rw [State.append_frees free]
          simpa using hi
        have issue : ((s.append e).place i).issue = (s.place i).issue := by
          rw [State.append_place free]
          split <;> rfl
        rw [State.appends_place l (s.append e) n (by simpa using hx) later, issue]

/-! ## The entries of a body (R56) -/

/-- The entries that a plan adds: a DRESS entry where one is due, then the WELD entry. -/
def State.newsOf (s : State) (st : Fin 16) (body : Word) (x : Plan) : List Entry :=
  x.robot.elim [] fun r => (if s.dressDue r then [s.dressEntry st body x r] else []) ++ [weldEntry st body x r]

theorem State.dressDue_of_additions {s t : State} {r : Fin 64} (h : t.additions r = s.additions r) :
    t.dressDue r = s.dressDue r := by
  unfold State.additions at h
  cases hs : s.dressDue r <;> cases ht : t.dressDue r <;> simp [hs, ht] at h ⊢

section
variable {s : State}

theorem State.Owned.dressDue_appends (h : s.Owned) {q : Fin 64} : ∀ {l : List Entry}, (∀ e ∈ l, e.robot ≠ q) →
    (s.appends l).dressDue q = s.dressDue q := by
  intro l others
  refine State.dressDue_of_additions (State.additions_congr ?_ ?_ fun i hi => ?_)
  · exact State.robot_congr ((s.appends_leads l).1.2 .rbc (by simp)) q
  · rw [State.appends_list, List.filter_eq_nil_iff.mpr fun x hx => ?_]
    · simp
    · simpa using others x.1 (List.of_mem_zip hx).1
  · have used := h q i hi
    rw [State.entry?, State.appends_place_of_used l s (fun none => by simp [State.robotOf?, none] at used)]
    rfl

theorem State.createFor_eq (s : State) (st : Fin 16) (body : Word) (x : Plan) :
    State.createFor st body x s = s.appends (s.newsOf st body x) := by
  unfold State.createFor State.newsOf
  cases x.robot with
  | none => rfl
  | some r =>
    dsimp only [Option.elim_some]
    cases s.dressDue r <;> rfl

theorem State.newsOf_congr {t : State} {x : Plan} (rbc : t.rbc = s.rbc) (due : ∀ r, x.robot = some r → t.dressDue r = s.dressDue r)
    (st : Fin 16) (body : Word) : t.newsOf st body x = s.newsOf st body x := by
  unfold State.newsOf
  cases robot : x.robot with
  | none => rfl
  | some r =>
    have dress : t.dressEntry st body x r = s.dressEntry st body x r := by
      rw [State.dressEntry, State.dressEntry, State.robot_congr rbc]
    rw [Option.elim_some, Option.elim_some, due r robot, dress]

theorem State.newsOf_robot {st : Fin 16} {body : Word} {x : Plan} {e : Entry} (h : e ∈ s.newsOf st body x) :
    x.robot = some e.robot := by
  unfold State.newsOf at h
  cases robot : x.robot with
  | none =>
    rw [robot] at h
    cases h
  | some r =>
    rw [robot, Option.elim_some, List.mem_append, List.mem_singleton] at h
    rcases h with dress | rfl
    · split at dress
      · rw [List.mem_singleton.mp dress]
        rfl
      · cases dress
    · rfl

/-- The entries that a body's plans add, in order. -/
def State.news (s : State) (st : Fin 16) (body : Word) (plans : List Plan) : List Entry := plans.flatMap (s.newsOf st body)

/-- The entries of an allocation are those that its plans call for at its begin: one robot's do not tell on another's. -/
theorem State.fill_eq (st : Fin 16) (body : Word) : ∀ (plans : List Plan) (s : State), s.Owned → (servingRobots plans).Nodup →
    forAll plans (State.createFor st body) s = s.appends (s.news st body plans)
  | [], _, _, _ => rfl
  | x :: plans, s, owned, nodup => by
    have rest : (servingRobots plans).Nodup := nodup.sublist (by
      unfold servingRobots
      exact (List.sublist_cons_self x plans).filterMap _)
    have apart {r : Fin 64} (hx : x.robot = some r) {y : Plan} (hy : y ∈ plans) : y.robot ≠ some r := by
      intro same
      rw [servingRobots, List.filterMap_cons_some hx] at nodup
      exact (List.nodup_cons.mp nodup).1 (List.mem_filterMap.mpr ⟨y, hy, same⟩)
    rw [forAll_cons, State.createFor_eq, State.fill_eq st body plans _ (owned.appends _) rest]
    have parts : s.news st body (x :: plans) = s.newsOf st body x ++ s.news st body plans := List.flatMap_cons
    rw [parts, State.appends_append]
    refine congrArg _ (List.flatMap_congr fun y hy => ?_)
    refine State.newsOf_congr ((s.appends_leads _).1.2 .rbc (by simp)) (fun r hr => ?_) st body
    exact owned.dressDue_appends fun e he same => apart (State.newsOf_robot he) hy (same ▸ hr)

end

end Sys2Proof.Machine
end

section
/-! Offer attempts for several robots, none of them at its wear limit: each stands alone (R71, R72). -/

namespace Sys2Proof.Machine

/-- What offers for some robots leave: the other robots, the entries that head none of those robots' lists, every list and the
owner of every entry, and the stations. -/
structure State.Offered (rs : List (Fin 64)) (s t : State) : Prop where
  lists : ∀ q, t.list q = s.list q
  robot : ∀ q, q ∉ rs → t.robot q = s.robot q
  worn : ∀ q, (t.robot q).worn = (s.robot q).worn
  place : ∀ i, (∀ q ∈ rs, (s.list q).head? ≠ some i) → t.place i = s.place i
  owner : ∀ i, t.robotOf? i = s.robotOf? i
  stc : t.stc = s.stc
  panels : t.piu.panels = s.piu.panels
  node : t.lif.node? = s.lif.node?
  sent : s.issued <+: t.issued

section
variable {s t u : State} {r : Fin 64} {rs qs : List (Fin 64)} {i : Fin 128} {e : Entry}

theorem State.Offered.refl (rs : List (Fin 64)) (s : State) : s.Offered rs s :=
  ⟨fun _ => rfl, fun _ _ => rfl, fun _ => rfl, fun _ _ => rfl, fun _ => rfl, rfl, rfl, rfl, List.prefix_rfl⟩

theorem State.Offered.trans (h : s.Offered rs t) (k : t.Offered qs u) : s.Offered (rs ++ qs) u where
  lists q := (k.lists q).trans (h.lists q)
  robot q out := (k.robot q fun hq => out (List.mem_append_right _ hq)).trans
    (h.robot q fun hq => out (List.mem_append_left _ hq))
  worn q := (k.worn q).trans (h.worn q)
  place i other := (k.place i fun q hq => by rw [h.lists]; exact other q (List.mem_append_right _ hq)).trans
    (h.place i fun q hq => other q (List.mem_append_left _ hq))
  owner i := (k.owner i).trans (h.owner i)
  stc := k.stc.trans h.stc
  panels := k.panels.trans h.panels
  node := k.node.trans h.node
  sent := h.sent.trans k.sent

theorem State.Offered.owned (h : s.Offered rs t) (owned : s.Owned) : t.Owned := fun r i hi => by
  rw [h.owner]
  exact owned r i (h.lists r ▸ hi)

/-- An entry that another robot owns heads no list of these robots. -/
theorem State.Owned.not_head (owned : s.Owned) (owner : s.robotOf? i = some r) {q : Fin 64} (other : q ≠ r) :
    (s.list q).head? ≠ some i := by
  intro head
  have own := owned q i (List.mem_of_head? head)
  rw [owner] at own
  exact other (Option.some.inj own).symm

theorem State.offer_offered (he : s.entry? i = some e) {l : List (Fin 128)} (list : s.list r = i :: l) :
    s.Offered [r] (s.offer i r) where
  lists q := by rw [State.list, State.offer_lists he]; rfl
  robot q out := by rw [State.offer_robot he, if_neg (fun here => out (by simp [here]))]
  worn q := by
    rw [State.offer_robot he]
    split
    · next here => rw [← here]; rfl
    · rfl
  place j other := by
    rw [State.offer_place he, if_neg]
    exact fun same => other r List.mem_cons_self (by rw [list, same]; rfl)
  owner j := by
    rw [State.robotOf?, State.entry?, State.offer_place he]
    split
    · next here =>
      rw [State.robotOf?, ← here, he]
      rfl
    · rfl
  stc := (s.offer_leads i r).1.2 .stc (by simp)
  panels := State.sendSelect_panels _ _
  node := State.leads_node (s.offer_leads i r)
  sent := (s.offer_leads i r).2.1

/-- The head of a robot that is not at its wear limit is offered, or nothing is done. -/
theorem State.attemptOffer_of_unworn (unworn : (s.robot r).worn = false) {l : List (Fin 128)} (list : s.list r = i :: l)
    (he : s.entry? i = some e) : s.attemptOffer r = if s.offerable r e then s.offer i r else s := by
  have open_ : ¬ (e.kind = .weld ∧ (s.robot r).worn = true) := by simp [unworn]
  rw [State.attemptOffer_of_head list he]
  simp only [open_, if_false]

theorem State.attemptOffer_offered (unworn : (s.robot r).worn = false) : s.Offered [r] (s.attemptOffer r) := by
  cases list : s.list r with
  | nil =>
    rw [State.attemptOffer_of_nil list]
    exact .refl _ s
  | cons i l =>
    cases he : s.entry? i with
    | none =>
      have same : s.attemptOffer r = s := by simp only [State.attemptOffer, list, List.head?_cons, he]
      rw [same]
      exact .refl _ s
    | some e =>
      rw [State.attemptOffer_of_unworn unworn list he]
      split
      · exact State.offer_offered he list
      · exact .refl _ s

end

theorem State.attemptOffers_offered : ∀ (rs : List (Fin 64)) (s : State), (∀ r ∈ rs, (s.robot r).worn = false) →
    s.Offered rs (s.attemptOffers rs)
  | [], s, _ => .refl [] s
  | r :: rs, s, unworn => by
    have first := State.attemptOffer_offered (unworn r List.mem_cons_self)
    exact first.trans (State.attemptOffers_offered rs (s.attemptOffer r) fun q hq => by
      rw [first.worn]
      exact unworn q (List.mem_cons_of_mem _ hq))

section
variable {s : State} {r : Fin 64} {rs : List (Fin 64)} {i : Fin 128} {e : Entry}

/-- The turn of one robot among several: what stands ahead of it and what follows it leave its own entries alone. -/
theorem State.attemptOffers_turn (owned : s.Owned) (unworn : ∀ q ∈ rs, (s.robot q).worn = false) (nodup : rs.Nodup)
    (mem : r ∈ rs) : ∃ u : State, ∃ l m : List (Fin 64), r ∉ l ∧ r ∉ m ∧ (u.robot r).worn = false ∧ u.Owned ∧ s.Offered l u
      ∧ (u.attemptOffer r).Owned ∧ (u.attemptOffer r).Offered m (s.attemptOffers rs) := by
  obtain ⟨l, m, rfl⟩ := List.append_of_mem mem
  obtain ⟨_, tail, apart⟩ := List.nodup_append.mp nodup
  have before := State.attemptOffers_offered l s fun q hq => unworn q (List.mem_append_left _ hq)
  have here : ((s.attemptOffers l).robot r).worn = false := by
    rw [before.worn]
    exact unworn r (List.mem_append_right _ List.mem_cons_self)
  have turn := State.attemptOffer_offered here
  have after := State.attemptOffers_offered m ((s.attemptOffers l).attemptOffer r) fun q hq => by
    rw [turn.worn, before.worn]
    exact unworn q (List.mem_append_right _ (List.mem_cons_of_mem _ hq))
  refine ⟨_, l, m, fun hl => apart r hl r List.mem_cons_self rfl, (List.nodup_cons.mp tail).1, here, before.owned owned, before,
    turn.owned (before.owned owned), ?_⟩
  have parts : s.attemptOffers (l ++ r :: m) = ((s.attemptOffers l).attemptOffer r).attemptOffers m := by
    simp only [State.attemptOffers, List.foldl_append, List.foldl_cons]
  rw [parts]
  exact after

/-- Whether a head is offered does not change with the other robots' offers. -/
theorem State.Offered.offerable {l : List (Fin 64)} {t : State} (h : s.Offered l t) (out : r ∉ l) (e : Entry) :
    t.offerable r e = s.offerable r e := by
  rw [Bool.eq_iff_iff, State.offerable_iff, State.offerable_iff, h.robot r out, State.station_congr h.stc,
    State.panel_congr h.panels]

/-- A head that may be offered is offered. -/
theorem State.attemptOffers_of_head (owned : s.Owned) (unworn : ∀ q ∈ rs, (s.robot q).worn = false) (nodup : rs.Nodup)
    (mem : r ∈ rs) {l : List (Fin 128)} (list : s.list r = i :: l) (he : s.entry? i = some e) (open_ : s.offerable r e = true)
    (node : s.lif.node?.isSome = true) :
    (s.attemptOffers rs).place i = ⟨(s.place i).issue + 1, some (e.offeredAt (s.station e.station).config.selectTimeout)⟩
    ∧ (s.attemptOffers rs).robot r = { s.robot r with state := .busy }
    ∧ .progSelect (s.robot r).node ⟨BitVec.ofNat 8 i, (s.place i).issue + 1⟩ e.program e.expected e.body e.kind
      ∈ (s.attemptOffers rs).issued := by
  have own : s.robotOf? i = some r := owned r i (by rw [list]; exact List.mem_cons_self)
  have same : e.robot = r := by simpa [State.robotOf?, he] using own
  obtain ⟨u, l₁, l₂, out₁, out₂, here, uOwned, before, afterOwned, after⟩ := State.attemptOffers_turn owned unworn nodup mem
  have place : u.place i = s.place i := before.place i fun q hq =>
    owned.not_head own fun eq => out₁ (eq ▸ hq)
  have entry : u.entry? i = some e := by rw [State.entry?, place]; exact he
  have turn : u.attemptOffer r = u.offer i r := by
    rw [State.attemptOffer_of_unworn here ((before.lists r).trans list) entry, if_pos]
    rw [before.offerable out₁]
    exact open_
  rw [turn] at afterOwned after
  have ownAfter : (u.offer i r).robotOf? i = some r := by
    rw [(State.offer_offered entry ((before.lists r).trans list)).owner, before.owner]
    exact own
  have sent := State.offer_issued entry r (by rw [before.node]; exact node)
  rw [same, before.robot r out₁, place] at sent
  refine ⟨?_, ?_, after.sent.subset sent⟩
  · rw [after.place i fun q hq => afterOwned.not_head ownAfter fun eq => out₂ (eq ▸ hq), State.offer_place entry, if_pos rfl,
      place, State.station_congr before.stc]
  · rw [after.robot r out₂, State.offer_robot entry, if_pos rfl, before.robot r out₁]

/-- An entry that heads no list, or that may not be offered, stays as it is. -/
theorem State.attemptOffers_of_waiting (owned : s.Owned) (unworn : ∀ q ∈ rs, (s.robot q).worn = false) (nodup : rs.Nodup)
    (he : s.entry? i = some e) (shut : (s.list e.robot).head? ≠ some i ∨ s.offerable e.robot e = false) :
    (s.attemptOffers rs).place i = s.place i := by
  have own : s.robotOf? i = some e.robot := State.robotOf?_of_some he
  by_cases mem : e.robot ∈ rs
  case neg =>
    exact (State.attemptOffers_offered rs s unworn).place i fun q hq => owned.not_head own fun eq => mem (eq ▸ hq)
  obtain ⟨u, l₁, l₂, out₁, out₂, here, uOwned, before, afterOwned, after⟩ := State.attemptOffers_turn owned unworn nodup mem
  have place : u.place i = s.place i := before.place i fun q hq => owned.not_head own fun eq => out₁ (eq ▸ hq)
  have entry : u.entry? i = some e := by rw [State.entry?, place]; exact he
  have turn : (u.attemptOffer e.robot).place i = u.place i := by
    by_cases head : (s.list e.robot).head? = some i
    · obtain ⟨l, list⟩ : ∃ l, s.list e.robot = i :: l := by
        cases list : s.list e.robot with
        | nil => rw [list] at head; cases head
        | cons j l => rw [list] at head; cases head; exact ⟨l, rfl⟩
      rw [State.attemptOffer_of_unworn here ((before.lists _).trans list) entry, before.offerable out₁,
        shut.resolve_left (not_not.mpr head)]
      rfl
    · refine (State.attemptOffer_offered here).place i fun q hq => ?_
      rw [List.mem_singleton.mp hq, before.lists]
      exact head
  have ownAfter : (u.attemptOffer e.robot).robotOf? i = some e.robot := by
    rw [(State.attemptOffer_offered here).owner, before.owner]
    exact own
  rw [after.place i fun q hq => afterOwned.not_head ownAfter fun eq => out₂ (eq ▸ hq), turn, place]

end

end Sys2Proof.Machine
end

section
/-! What an allocation is judged by, and the slot and the entries that it gives a body (R53 to R56). -/

namespace Sys2Proof.Machine

/-! ## What an allocation is judged by -/

section
variable {s t : State}

theorem State.additions_of_records (dtr : t.dtr = s.dtr) (rbc : t.rbc = s.rbc) (r : Fin 64) : t.additions r = s.additions r :=
  State.additions_congr (State.robot_congr rbc r) (State.list_congr dtr r) fun i _ => State.entry?_congr dtr i

theorem State.dressDue_of_records (dtr : t.dtr = s.dtr) (rbc : t.rbc = s.rbc) (r : Fin 64) : t.dressDue r = s.dressDue r :=
  State.dressDue_of_additions (State.additions_of_records dtr rbc r)

theorem State.allocatable_of_records (dtr : t.dtr = s.dtr) (rbc : t.rbc = s.rbc) (ahead : List Arrival) (plans : List Plan) :
    t.allocatable ahead plans = s.allocatable ahead plans := by
  have additions : t.additions = s.additions := funext fun r => State.additions_of_records dtr rbc r
  have lists : t.list = s.list := funext fun r => State.list_congr dtr r
  have need : t.need plans = s.need plans := by rw [State.need, State.need, additions]
  have room : t.hasRoom plans = s.hasRoom plans := by simp only [State.hasRoom, additions, lists]
  have free : t.freeEntries = s.freeEntries := by rw [State.freeEntries, State.freeEntries, dtr]
  rw [State.allocatable, State.allocatable, need, room, free]

theorem State.servingRobot?_of_rbc (rbc : t.rbc = s.rbc) (st : Fin 16) (p : Fin 8) :
    t.servingRobot? st p = s.servingRobot? st p :=
  State.servingRobot?_congr (fun q => by rw [State.robot_congr rbc]; exact ⟨rfl, rfl, rfl⟩) st p

theorem State.plans_of_rbc (rbc : t.rbc = s.rbc) (st : Fin 16) (works : Vector (Option Work) 8) :
    t.plans st works = s.plans st works :=
  List.filterMap_congr fun p _ => by rw [State.servingRobot?_of_rbc rbc]

theorem State.news_of_records (dtr : t.dtr = s.dtr) (rbc : t.rbc = s.rbc) (st : Fin 16) (body : Word) (plans : List Plan) :
    t.news st body plans = s.news st body plans :=
  List.flatMap_congr fun _ _ => State.newsOf_congr rbc (fun r _ => State.dressDue_of_records dtr rbc r) st body

/-- The robot that serves a position is the enabled one whose record names it. -/
theorem State.servingRobot?_ne_none {st : Fin 16} {p : Fin 8} {r : Fin 64} (on : (s.robot r).state ≠ .disabled)
    (station : (s.robot r).station = st) (position : (s.robot r).position = p) : s.servingRobot? st p ≠ none := by
  intro none
  have missed := List.find?_eq_none.mp none r (List.mem_finRange r)
  simp [Robot.enabled, on, station, position] at missed

theorem foldl_add_eq_sum {α : Type} (g : α → Nat) : ∀ (l : List α) (k : Nat), l.foldl (fun n i => n + g i) k = k + (l.map g).sum
  | [], _ => rfl
  | a :: l, k => by
    rw [List.foldl_cons, foldl_add_eq_sum g l, List.map_cons, List.sum_cons, Nat.add_assoc]

/-- The welds that an entry's index adds to its robot's projection. -/
def State.weldsAt (s : State) (i : Fin 128) : Nat := ((s.entry? i).filter (·.kind = .weld)).elim 0 (·.expected)

theorem State.dressDue_iff (s : State) (r : Fin 64) : s.dressDue r = true ↔
    (s.robot r).interval ≤ (s.robot r).wear + ((s.list r).map s.weldsAt).sum
      ∧ ∀ i ∈ s.list r, ∀ e : Entry, s.entry? i = some e → e.kind ≠ .dress := by
  have projection : s.projection r = ((s.list r).map s.weldsAt).sum := by
    rw [State.projection]
    exact (foldl_add_eq_sum s.weldsAt _ 0).trans (Nat.zero_add _)
  simp only [State.dressDue, projection, Bool.and_eq_true, decide_eq_true_eq, Bool.not_eq_true', State.dressListed,
    List.any_eq_false, Option.any_eq_true, not_exists, not_and, decide_eq_true_eq, ne_eq]

end

/-! ## The slot (R56, R142) -/

section
variable {p : Fin 8}

theorem getElem_writePlans_of_none : ∀ {plans : List Plan} {v : Vector (Option Position) 8}, (∀ x ∈ plans, x.position ≠ p) →
    (writePlans v plans)[p] = v[p]
  | [], _, _ => rfl
  | x :: plans, v, others => by
    have apart : (x.position : Nat) ≠ p := fun same => others x List.mem_cons_self (Fin.ext same)
    have rest := getElem_writePlans_of_none (v := v.set x.position (some x.record))
      fun y hy => others y (List.mem_cons_of_mem _ hy)
    exact rest.trans (Vector.getElem_set_ne _ _ apart)

theorem getElem_writePlans_of_mem {x : Plan} : ∀ {plans : List Plan} {v : Vector (Option Position) 8},
    plans.Pairwise (fun x y => x.position ≠ y.position) → x ∈ plans → (writePlans v plans)[x.position] = some x.record
  | y :: plans, v, distinct, mem => by
    obtain ⟨first, rest⟩ := List.pairwise_cons.mp distinct
    rcases List.mem_cons.mp mem with rfl | behind
    · have later := getElem_writePlans_of_none (p := x.position) (v := v.set x.position (some x.record))
        fun z hz => (first z hz).symm
      exact later.trans (Vector.getElem_set_self _)
    · exact getElem_writePlans_of_mem (v := v.set y.position (some y.record)) rest behind

/-- The plans enter BYPASSED where no robot serves one of them and the short policy is HOLD. -/
theorem ReasonSet.enterPlans_eq (policy : Policy) : ∀ (plans : List Plan) (x : ReasonSet), x.enterPlans policy plans
    = { x with bypassed := x.bypassed || (decide (policy = .hold) && plans.any (·.robot.isNone)) }
  | [], x => by simp [ReasonSet.enterPlans]
  | y :: plans, x => by
    change ReasonSet.enterPlans (x.enter? (y.reason? policy)) policy plans = _
    rw [ReasonSet.enterPlans_eq policy plans, List.any_cons]
    cases robot : y.robot with
    | some r => simp [Plan.reason?, robot, ReasonSet.enter?]
    | none =>
      cases policy with
      | hold => simp [Plan.reason?, robot, ReasonSet.enter?, blockingReason?, PositionOutcome.reason?, ReasonSet.enter]
      | pass => simp [Plan.reason?, robot, ReasonSet.enter?, blockingReason?]

theorem Slot.meetPolicy_eq (x : Slot) (policy : Policy) : x.meetPolicy policy
    = { x with reasons := { x.reasons with noStyle := x.reasons.noStyle || decide (policy = .hold ∧ x.style = none) } } := by
  unfold Slot.meetPolicy
  by_cases hold : policy = .hold
  · cases x with
    | mk _ _ _ style => cases style <;> simp [hold, ReasonSet.enter]
  · simp [hold]

variable {s : State} {st : Fin 16} {works : Vector (Option Work) 8}

theorem State.mem_plans {x : Plan} : x ∈ s.plans st works
    ↔ ∃ w, works[x.position] = some w ∧ x = ⟨x.position, w, s.servingRobot? st x.position⟩ := by
  simp only [State.plans, allPositions, List.mem_filterMap, List.mem_finRange, true_and, Option.map_eq_some_iff]
  constructor
  · rintro ⟨p, w, work, rfl⟩
    exact ⟨w, work, rfl⟩
  · rintro ⟨w, work, eq⟩
    exact ⟨x.position, w, work, eq.symm⟩

theorem State.mem_plans_of_work {w : Work} (work : works[p] = some w) : (⟨p, w, s.servingRobot? st p⟩ : Plan) ∈ s.plans st works :=
  State.mem_plans.mpr ⟨w, work, rfl⟩

theorem State.plans_unserved : (s.plans st works).any (·.robot.isNone) = true
    ↔ ∃ p : Fin 8, works[p] ≠ none ∧ s.servingRobot? st p = none := by
  rw [List.any_eq_true]
  constructor
  · rintro ⟨x, mem, unserved⟩
    obtain ⟨w, work, eq⟩ := State.mem_plans.mp mem
    rw [eq] at unserved
    exact ⟨x.position, by simp [work], by simpa using unserved⟩
  · rintro ⟨p, some, unserved⟩
    obtain ⟨w, work⟩ := Option.ne_none_iff_exists'.mp some
    exact ⟨_, State.mem_plans_of_work work, by simp [unserved]⟩

/-- The slot of an allocated body as it becomes CURRENT. -/
def State.freshSlot (s : State) (a : Arrival) : Slot :=
  (newSlot (s.station a.station).config.short a (s.resolveArrival a).style (s.plansOf a)).meetPolicy
    (s.station a.station).config.noStyle

variable {a : Arrival}

theorem State.freshSlot_eq (s : State) (a : Arrival) : s.freshSlot a =
    { state := .announced, body := a.body, build := a.build, style := (s.resolveArrival a).style, stamp := a.stamp
      abortMark := false, positions := writePlans (Vector.replicate 8 none) (s.plansOf a)
      reasons := { bypassed := decide ((s.station a.station).config.short = .hold
                     ∧ ∃ p : Fin 8, (s.resolveArrival a).works[p] ≠ none ∧ s.servingRobot? a.station p = none)
                   noStyle := decide ((s.station a.station).config.noStyle = .hold ∧ (s.resolveArrival a).style = none) } } := by
  have bypassed : (decide ((s.station a.station).config.short = .hold) && (s.plansOf a).any (·.robot.isNone))
      = decide ((s.station a.station).config.short = .hold
          ∧ ∃ p : Fin 8, (s.resolveArrival a).works[p] ≠ none ∧ s.servingRobot? a.station p = none) := by
    rw [Bool.eq_iff_iff, Bool.and_eq_true, decide_eq_true_eq, decide_eq_true_eq]
    exact and_congr_right fun _ => State.plans_unserved
  rw [State.freshSlot, Slot.meetPolicy_eq, newSlot, ReasonSet.enterPlans_eq, bypassed]
  simp

theorem State.freshSlot_position_of_none (empty : (s.resolveArrival a).works[p] = none) : (s.freshSlot a).positions[p] = none := by
  rw [State.freshSlot_eq]
  refine (getElem_writePlans_of_none fun x hx here => ?_).trans (by simp)
  obtain ⟨w, work, _⟩ := State.mem_plans.mp hx
  subst here
  rw [empty] at work
  cases work

theorem State.freshSlot_position_of_work {w : Work} (work : (s.resolveArrival a).works[p] = some w) :
    (s.freshSlot a).positions[p] = some (Plan.record ⟨p, w, s.servingRobot? a.station p⟩) := by
  rw [State.freshSlot_eq]
  exact getElem_writePlans_of_mem (x := ⟨p, w, s.servingRobot? a.station p⟩) (s.plans_pairwise _ _) (State.mem_plans_of_work work)

end

/-- A slot that is not seated yet is not released, whatever is written into it. -/
theorem Slot.stable_announced : Slot.Stable (fun c => c.state = .announced) where
  outcome {c} h policy e o d := by
    unfold Slot.outcome Slot.write
    split <;> exact h
  waits {x c} current announced := by
    rw [← Bool.not_eq_true, Station.completes_iff current, announced]
    rintro ⟨_, seated, _⟩
    cases seated

end Sys2Proof.Machine
end

section
/-! An accepted arrival (the statement O48). -/

namespace Sys2Proof.Machine

/-! ## The new entries and their indices -/

/-- The entries that the plans of a resolution add, position by position. -/
theorem State.news_plans (s : State) (st : Fin 16) (body : Word) (works : Vector (Option Work) 8) :
    s.news st body (s.plans st works) = (List.finRange 8).flatMap (fun p =>
      (works[p]).elim [] fun w => s.newsOf st body ⟨p, w, s.servingRobot? st p⟩) := by
  have walk (l : List (Fin 8)) (f : Fin 8 → Option Plan) (g : Plan → List Entry) :
      (l.filterMap f).flatMap g = l.flatMap fun p => (f p).elim [] g := by
    induction l with
    | nil => rfl
    | cons p l ih => cases hp : f p <;> simp [hp, ih]
  refine (walk _ _ _).trans (List.flatMap_congr fun p _ => ?_)
  cases works[p] <;> rfl

section
variable {α β : Type} {l : List (α × β)} {p : α × β → Bool} {n : Nat} {z : α × β}

/-- The first pair that a filter takes. -/
theorem head?_filter_of_first (there : l[n]? = some z) (fits : p z = true) (before : ∀ y ∈ l.take n, p y = false) :
    (l.filter p).head? = some z := by
  obtain ⟨bound, rfl⟩ := List.getElem?_eq_some_iff.mp there
  have none : (l.take n).filter p = [] := List.filter_eq_nil_iff.mpr fun y hy => by simp [before y hy]
  have split : l = l.take n ++ l[n] :: l.drop (n + 1) := by rw [← List.drop_eq_getElem_cons bound, List.take_append_drop]
  have whole : l.filter p = l[n] :: (l.drop (n + 1)).filter p := by
    conv_lhs => rw [split]
    rw [List.filter_append, none, List.nil_append, List.filter_cons_of_pos fits]
  rw [whole]
  rfl

/-- Where a filter takes a pair ahead of a place, its first pair stands ahead of that place. -/
theorem head?_filter_of_earlier (before : ∃ y ∈ l.take n, p y = true) :
    ∃ y ∈ l.take n, (l.filter p).head? = some y := by
  obtain ⟨y, mem, fits⟩ := before
  have split : l.filter p = (l.take n).filter p ++ (l.drop n).filter p := by rw [← List.filter_append, List.take_append_drop]
  cases first : (l.take n).filter p with
  | nil => exact absurd (List.mem_filter.mpr ⟨mem, fits⟩) (by simp [first])
  | cons x rest =>
    have found : x ∈ (l.take n).filter p := by rw [first]; exact List.mem_cons_self
    exact ⟨x, (List.mem_filter.mp found).1, by rw [split, first]; rfl⟩

end

theorem take_zip_eq {α β : Type} (l : List α) (m : List β) (n : Nat) : (l.zip m).take n = (l.take n).zip (m.take n) :=
  List.take_zipWith

section
variable {s : State} {news : List Entry} {n : Nat} {x : Entry} {i : Fin 128}

theorem State.zip_getElem? (hx : news[n]? = some x) (hi : s.frees[n]? = some i) : (news.zip s.frees)[n]? = some (x, i) := by
  rw [List.getElem?_zip_eq_some]
  exact ⟨hx, hi⟩

/-- The head of a robot's list, which was empty, is its first new entry. -/
theorem State.appends_head_of_first (hx : news[n]? = some x) (hi : s.frees[n]? = some i) (list : s.list x.robot = [])
    (first : ∀ y ∈ news.take n, y.robot ≠ x.robot) : ∃ l, (s.appends news).list x.robot = i :: l := by
  have found := head?_filter_of_first (p := fun y => y.1.robot == x.robot) (State.zip_getElem? hx hi) (by simp) fun y hy => by
    rw [take_zip_eq] at hy
    simpa using first y.1 (List.of_mem_zip hy).1
  rw [State.appends_list, list, List.nil_append]
  cases zs : (news.zip s.frees).filter (fun y => y.1.robot == x.robot) with
  | nil => rw [zs] at found; cases found
  | cons y ys =>
    rw [zs] at found
    cases found
    exact ⟨ys.map (·.2), rfl⟩

/-- An entry that another stands ahead of does not head its robot's list. -/
theorem State.appends_head_of_later (owned : s.Owned) (hi : s.frees[n]? = some i)
    (later : s.list x.robot ≠ [] ∨ ∃ y ∈ news.take n, y.robot = x.robot) :
    ((s.appends news).list x.robot).head? ≠ some i := by
  have free : s.entry? i = none := State.mem_frees.mp (List.mem_of_getElem? hi)
  rw [State.appends_list]
  cases list : s.list x.robot with
  | cons j js =>
    rintro same
    cases same
    have own := owned x.robot i (by rw [list]; exact List.mem_cons_self)
    rw [State.robotOf?, free] at own
    cases own
  | nil =>
    obtain ⟨y, mem, robot⟩ := later.resolve_left (fun some => some list)
    have nodup : s.frees.Nodup := (List.nodup_finRange 128).filter _
    obtain ⟨bound, rfl⟩ := List.getElem?_eq_some_iff.mp hi
    obtain ⟨m, hm, rfl⟩ := List.mem_iff_getElem.mp mem
    have short : m < n := (List.length_take_le _ _).trans_lt' hm |>.trans_le le_rfl
    obtain ⟨z, zMem, head⟩ := head?_filter_of_earlier (l := news.zip s.frees) (n := n) (p := fun y => y.1.robot == x.robot)
      ⟨((news.take n)[m], s.frees[m]'(short.trans bound)), by
        rw [take_zip_eq, List.mem_iff_getElem]
        refine ⟨m, by simp only [List.length_zip, List.length_take]; simp only [List.length_take] at hm; omega, ?_⟩
        simp, by simpa using robot⟩
    rw [List.nil_append, List.head?_map, head, Option.map_some]
    intro same
    have back : z.2 ∈ s.frees.take n := by
      rw [take_zip_eq] at zMem
      exact (List.of_mem_zip zMem).2
    rw [Option.some.inj same] at back
    obtain ⟨k, hk, eq⟩ := List.mem_iff_getElem.mp back
    rw [List.getElem_take] at eq
    have := (List.Nodup.getElem_inj_iff nodup).mp eq
    simp only [List.length_take] at hk
    omega

end

end Sys2Proof.Machine
end

section
/-! An accepted arrival (the statement O48). -/

namespace Sys2Proof.Machine

/-! ## Acceptance (R49) -/

section
variable {s : State} {f : Sender} {b : Byte} {st : Fin 16} {body build : Word} {seq : Half}

/-- An arrival that no reason meets is accepted. -/
theorem State.bodyArrive_of_accepted (line : s.mge.lineNode ≠ 0) (node : f.node = s.mge.lineNode) (hb : b.toNat = st)
    (on : (s.station st).state ≠ .disabled) (real : body ≠ 0) (once : s.duplicates st body = false)
    (room : s.arq.queue.length < 32) : s.bodyArrive f b body build = s.acceptArrival f.seq st body build := by
  have known : ¬ (s.mge.lineNode = 0 ∨ f.node ≠ s.mge.lineNode) := not_or.mpr ⟨line, not_not.mpr node⟩
  unfold State.bodyArrive
  rw [if_neg known]
  simp only [below?_eq_some.mpr hb]
  rw [if_neg on, if_neg real, if_neg (by simp [once])]
  exact if_neg (Nat.not_le.mpr room)

/-- The arrival that is accepted. -/
def State.arrivalOf (s : State) (st : Fin 16) (body build : Word) : Arrival :=
  { station := st, body := body, build := build, stamp := s.tbs.active }

/-- What stands ahead of the answer. -/
def State.enqueued (s : State) (st : Fin 16) (body build : Word) : State :=
  (s.setQueue (s.arq.queue ++ [s.arrivalOf st body build])).addStamp s.tbs.active

theorem State.acceptArrival_of_enqueued (s : State) (seq : Half) (st : Fin 16) (body build : Word) :
    (s.enqueued st body build).leads (s.acceptArrival seq st body build) [.lif, .emu] :=
  State.leads_trans (State.leads_seq (n := [.lif, .emu]) (State.issueToLine_leads _ _) (State.count_leads _ _ _ _) (by simp) (by simp))
    (State.callPass_leads _ _)

theorem State.acceptArrival_queue : (s.acceptArrival seq st body build).arq.queue = s.arq.queue ++ [s.arrivalOf st body build] := by
  rw [(s.acceptArrival_of_enqueued seq st body build).1.2 .arq (by simp), State.enqueued,
    (State.addStamp_leads _ _).1.2 .arq (by simp), State.queue_setQueue]

theorem State.acceptArrival_bank : (s.acceptArrival seq st body build).bank s.tbs.active
    = { s.bank s.tbs.active with stamps := (s.bank s.tbs.active).stamps + 1 } := by
  rw [State.bank_congr ((s.acceptArrival_of_enqueued seq st body build).1.2 .tbs (by simp)), State.enqueued, State.addStamp,
    State.bank_setBank, if_pos rfl]
  rfl

theorem State.acceptArrival_passDue : (s.acceptArrival seq st body build).passDue = true := by
  rfl

/-- The answer goes ahead of everything else. -/
theorem State.acceptArrival_issued (node : s.lif.node?.isSome = true) (line : s.lineInUse ≠ 0) :
    s.issued ++ [.arrivalAck s.lineInUse seq body none] <+: (s.acceptArrival seq st body build).issued := by
  set u := s.enqueued st body build with hu
  have led : s.leads u [.arq, .tbs] := State.leads_seq (s.setQueue_leads _) (State.addStamp_leads _ _) (by simp) (by simp)
  have inUse : u.lineInUse = s.lineInUse := (State.leads_inUse led (by simp)).1
  have quiet : u.issued = s.issued := by
    rw [hu, State.enqueued]
    cases s.tbs.active <;> rfl
  have sent : (u.issueToLine (.arrivalAck · seq body none)).issued = s.issued ++ [.arrivalAck s.lineInUse seq body none] := by
    rw [State.issueToLine, if_neg (by rw [inUse]; exact line), State.issue_issued (by rw [State.leads_node led]; exact node), quiet,
      inUse]
  have counted := (State.count_leads (u.issueToLine (.arrivalAck · seq body none)) .arrivalsAccepted 1 { station := some st }).2.1
  rw [sent] at counted
  exact counted.trans (State.callPass_leads _ []).2.1

end

/-! ## The pass behind it, and the end of the event -/

section
variable {s v : State} {a : Arrival}

theorem State.runPass_of_ineligible (due : s.passDue = true) (queue : s.arq.queue = [a]) (h : s.eligible [] a = false) :
    s.runPass = { s with passDue := false } := by
  rw [State.runPass_of_due due, queue, passWalk_of_ineligible h]
  rfl

theorem State.runPass_of_alone (due : s.passDue = true) (queue : s.arq.queue = [a]) (h : s.eligible [] a = true)
    (room : s.allocatable [] (s.plansOf a) = true) :
    s.runPass = { s.allocate a (s.resolveArrival a).style (s.plansOf a) [] with passDue := false } := by
  rw [State.runPass_of_due due, queue, passWalk_of_allocatable h room]
  rfl

/-- The end of an event keeps what its pass left, but for the report of the image. -/
theorem State.finish_of_pass (ran : s.runPass = { v with passDue := false }) :
    v.keeps s.finish [.lif, .piu] ∧ (v.settled = true → v.keeps s.finish []) ∧ v.issued <+: s.finish.issued := by
  set u : State := { v with passDue := false } with hu
  have toward : v.keeps u [] := State.keeps_passDue (v.keeps_refl [])
  have closed {l : List Block} (h : u.keeps u.comparePoint l) : u.keeps s.finish l := by
    rw [State.finish, ran]
    exact ⟨h.1, fun b hb => by have same := h.2 b hb; cases b <;> exact same⟩
  refine ⟨State.keeps_trans (State.keeps_mono toward (by simp)) (closed u.comparePoint_leads.1), fun settled => ?_, ?_⟩
  · have still : u.comparePoint = u := State.comparePoint_of_settled (by exact settled)
    exact State.keeps_trans toward (closed (still.symm ▸ u.keeps_refl []))
  · rw [State.finish, ran]
    exact u.comparePoint_leads.2.1

/-- An allocation into an EMPTY CURRENT slot, ahead of its offers. -/
theorem State.allocate_eq (s : State) (a : Arrival) (empty : (s.station a.station).current = none) : ∃ x u : State,
    s.allocate a (s.resolveArrival a).style (s.plansOf a) [] = u.attemptOffers (servingRobots (s.plansOf a))
    ∧ u.station a.station = { s.station a.station with current := some (s.freshSlot a) }
    ∧ s.leads u [.stc, .emu, .lif, .dtr, .arq, .tbs] ∧ u.arq.queue = []
    ∧ (u.bank a.stamp).stamps = (s.bank a.stamp).stamps - 1
    ∧ s.leads x [.stc, .emu, .lif]
    ∧ (s.Owned → u.dtr = (x.appends (s.news a.station a.body (s.plansOf a))).dtr) := by
  set x := s.writeSlot a.station (newSlot (s.station a.station).config.short a (s.resolveArrival a).style (s.plansOf a)) with hx
  set y := forAll (s.plansOf a) (State.createFor a.station a.body) x with hy
  set u := (y.setQueue []).dropStamp a.stamp with hu
  have wrote : s.leads x [.stc, .emu, .lif] := s.writeSlot_leads _ _
  have filled : x.leads y [.dtr] := forAll_leads (fun p t => State.createFor_leads a.station a.body p t) _ x
  have left : y.leads u [.arq, .tbs, .emu, .lif] :=
    State.leads_seq (y.setQueue_leads []) (State.dropStamp_leads _ _) (by simp) (by simp)
  have toward : s.leads y [.stc, .emu, .lif, .dtr] := State.leads_seq wrote filled (by simp) (by simp)
  refine ⟨x, u, rfl, ?_, State.leads_seq toward left (by simp) (by simp), ?_, ?_, wrote, fun owned => ?_⟩
  · rw [State.station_congr (left.1.2 .stc (by simp)), State.station_congr (filled.1.2 .stc (by simp)), hx, State.writeSlot]
    dsimp only
    rw [if_pos (by simp [empty]), State.updateStation_station, if_pos rfl]
    rfl
  · rw [hu, (State.dropStamp_leads _ _).1.2 .arq (by simp), State.queue_setQueue]
  · have bank : y.bank a.stamp = s.bank a.stamp := State.bank_congr (toward.1.2 .tbs (by simp)) _
    rw [hu, State.dropStamp_bank, if_pos rfl, State.setQueue_bank, bank]
  · have xOwned : x.Owned := fun r i hi => by
      rw [State.robotOf?_congr (wrote.1.2 .dtr (by simp))]
      exact owned r i (State.list_congr (wrote.1.2 .dtr (by simp)) r ▸ hi)
    have nodup : (servingRobots (s.plansOf a)).Nodup := State.servingRobots_nodup (s.plans_planned _ _) (s.plans_pairwise _ _)
    rw [left.1.2 .dtr (by simp), hy, State.fill_eq _ _ _ _ xOwned nodup,
      State.news_of_records (wrote.1.2 .dtr (by simp)) (wrote.1.2 .rbc (by simp))]

end

end Sys2Proof.Machine
end

section
/-! An accepted arrival: what the event leaves (the statement O48). -/

namespace Sys2Proof.Machine

/-! ## The resolution after the acceptance -/

section
variable {s w : State} {a : Arrival}

/-- An accepted arrival's state judges it as the state before: the stamp count is not read. -/
structure State.Judges (s w : State) (a : Arrival) : Prop where
  dtr : w.dtr = s.dtr
  rbc : w.rbc = s.rbc
  stc : w.stc = s.stc
  bank : ∃ n, w.bank a.stamp = { s.bank a.stamp with stamps := n }

theorem State.Judges.resolve (h : s.Judges w a) : w.resolveArrival a = s.resolveArrival a := by
  obtain ⟨n, bank⟩ := h.bank
  rw [State.resolveArrival, State.resolveArrival, State.station_congr h.stc, bank]
  rfl

theorem State.Judges.plans (h : s.Judges w a) : w.plansOf a = s.plansOf a := by
  rw [State.plansOf, State.plansOf, h.resolve, State.plans_of_rbc h.rbc]

theorem State.Judges.freshSlot (h : s.Judges w a) : w.freshSlot a = s.freshSlot a := by
  rw [State.freshSlot, State.freshSlot, h.resolve, h.plans, State.station_congr h.stc]

end

/-! ## The new entries after the offers -/

section
variable {s x u : State} {a : Arrival}

/-- The state ahead of the offers: the entries that the arrival's plans call for stand, and no robot of its station is at its
wear limit. -/
structure State.Staffed (s u : State) (a : Arrival) : Prop where
  owned : s.Owned
  dtr : ∃ x : State, x.dtr = s.dtr ∧ u.dtr = (x.appends (s.news a.station a.body (s.plansOf a))).dtr
  rbc : u.rbc = s.rbc
  panels : u.piu.panels = s.piu.panels
  config : (u.station a.station).config = (s.station a.station).config
  enabled : (u.station a.station).enabled = true
  node : u.lif.node?.isSome = true
  unworn : ∀ r ∈ s.stationRobots a.station, (s.robot r).worn = false

theorem State.frees_congr (dtr : x.dtr = s.dtr) : x.frees = s.frees :=
  List.filter_congr fun i _ => by rw [State.entry?_congr dtr]

theorem State.Owned.of_dtr (h : s.Owned) (dtr : x.dtr = s.dtr) : x.Owned := fun r i hi => by
  rw [State.robotOf?_congr dtr]
  exact h r i (State.list_congr dtr r ▸ hi)

section
variable (h : s.Staffed u a)
include h

theorem State.Staffed.uOwned : u.Owned := by
  obtain ⟨x, dtr, eq⟩ := h.dtr
  exact ((h.owned.of_dtr dtr).appends _).of_dtr eq

theorem State.Staffed.uUnworn : ∀ r ∈ servingRobots (s.plansOf a), (u.robot r).worn = false := by
  intro r hr
  obtain ⟨y, mem, robot⟩ := List.mem_filterMap.mp hr
  obtain ⟨w, _, eq⟩ := State.mem_plans.mp mem
  rw [eq] at robot
  rw [State.robot_congr h.rbc]
  exact h.unworn r (State.mem_stationRobots.mpr ⟨_, robot⟩)

omit h in
theorem State.servingRobots_plansOf_nodup : (servingRobots (s.plansOf a)).Nodup :=
  State.servingRobots_nodup (s.plans_planned _ _) (s.plans_pairwise _ _)

theorem State.Staffed.list (r : Fin 64) : u.list r
    = s.list r ++ (((s.news a.station a.body (s.plansOf a)).zip s.frees).filter (·.1.robot == r)).map (·.2) := by
  obtain ⟨x, dtr, eq⟩ := h.dtr
  rw [State.list_congr eq, State.appends_list, State.list_congr dtr, State.frees_congr dtr]

variable {n : Nat} {e : Entry} {i : Fin 128}

theorem State.Staffed.place (he : (s.news a.station a.body (s.plansOf a))[n]? = some e) (hi : s.frees[n]? = some i) :
    u.place i = ⟨(s.place i).issue, some e⟩ := by
  obtain ⟨x, dtr, eq⟩ := h.dtr
  rw [State.place_congr eq, State.appends_place _ x n he (by rw [State.frees_congr dtr]; exact hi), State.place_congr dtr]

omit h in
/-- What is known of every new entry. -/
theorem State.news_spec (he : (s.news a.station a.body (s.plansOf a))[n]? = some e) :
    e.robot ∈ servingRobots (s.plansOf a) ∧ e.station = a.station ∧ e.body = a.body ∧ e.state = .queued := by
  obtain ⟨y, mem, there⟩ := List.mem_flatMap.mp (List.mem_of_getElem? he)
  refine ⟨List.mem_filterMap.mpr ⟨y, mem, State.newsOf_robot there⟩, ?_⟩
  have robot := State.newsOf_robot there
  unfold State.newsOf at there
  rw [robot, Option.elim_some, List.mem_append, List.mem_singleton] at there
  rcases there with dress | weld
  · split at dress
    · rw [List.mem_singleton.mp dress]
      exact ⟨rfl, rfl, rfl⟩
    · cases dress
  · rw [weld]
    exact ⟨rfl, rfl, rfl⟩

/-- Whether a new entry may be offered. -/
theorem State.Staffed.offerable (he : (s.news a.station a.body (s.plansOf a))[n]? = some e) : u.offerable e.robot e = true
    ↔ (s.robot e.robot).state = .idle ∧ (s.panel a.station).manual = false := by
  obtain ⟨_, station, _, queued⟩ := State.news_spec he
  rw [State.offerable_iff, State.robot_congr h.rbc, State.panel_congr h.panels, station]
  exact ⟨fun all => ⟨all.2.1, all.2.2.1⟩, fun both => ⟨queued, both.1, both.2, fun _ => h.enabled⟩⟩

/-- The first entry of an IDLE robot whose list was empty is offered. -/
theorem State.Staffed.offered (he : (s.news a.station a.body (s.plansOf a))[n]? = some e) (hi : s.frees[n]? = some i)
    (list : s.list e.robot = []) (first : ∀ y ∈ (s.news a.station a.body (s.plansOf a)).take n, y.robot ≠ e.robot)
    (idle : (s.robot e.robot).state = .idle) (manual : (s.panel a.station).manual = false) :
    (u.attemptOffers (servingRobots (s.plansOf a))).place i
      = ⟨(s.place i).issue + 1, some (e.offeredAt (s.station a.station).config.selectTimeout)⟩
    ∧ (u.attemptOffers (servingRobots (s.plansOf a))).robot e.robot = { s.robot e.robot with state := .busy }
    ∧ .progSelect (s.robot e.robot).node ⟨BitVec.ofNat 8 i, (s.place i).issue + 1⟩ e.program e.expected a.body e.kind
      ∈ (u.attemptOffers (servingRobots (s.plansOf a))).issued := by
  obtain ⟨mem, station, body, _⟩ := State.news_spec he
  obtain ⟨x, dtr, eq⟩ := h.dtr
  obtain ⟨l, head⟩ := State.appends_head_of_first (s := x) he (by rw [State.frees_congr dtr]; exact hi)
    (by rw [State.list_congr dtr]; exact list) first
  have place := h.place he hi
  have done := State.attemptOffers_of_head h.uOwned h.uUnworn State.servingRobots_plansOf_nodup mem ((State.list_congr eq _).trans head)
    (by rw [State.entry?, place]) ((h.offerable he).mpr ⟨idle, manual⟩) h.node
  rw [place, State.robot_congr h.rbc, station, h.config, body] at done
  exact done

/-- Every other new entry waits. -/
theorem State.Staffed.waits (he : (s.news a.station a.body (s.plansOf a))[n]? = some e) (hi : s.frees[n]? = some i)
    (shut : s.list e.robot ≠ [] ∨ (∃ y ∈ (s.news a.station a.body (s.plansOf a)).take n, y.robot = e.robot)
      ∨ (s.robot e.robot).state ≠ .idle ∨ (s.panel a.station).manual = true) :
    (u.attemptOffers (servingRobots (s.plansOf a))).place i = ⟨(s.place i).issue, some e⟩ := by
  have place := h.place he hi
  rw [← place]
  refine State.attemptOffers_of_waiting h.uOwned h.uUnworn State.servingRobots_plansOf_nodup (by rw [State.entry?, place]) ?_
  have behind (later : s.list e.robot ≠ [] ∨ ∃ y ∈ (s.news a.station a.body (s.plansOf a)).take n, y.robot = e.robot) :
      (u.list e.robot).head? ≠ some i := by
    obtain ⟨x, dtr, eq⟩ := h.dtr
    rw [State.list_congr eq]
    exact State.appends_head_of_later (h.owned.of_dtr dtr) (by rw [State.frees_congr dtr]; exact hi)
      (by rw [State.list_congr dtr]; exact later)
  rcases shut with busy | earlier | away | manual
  · exact .inl (behind (.inl busy))
  · exact .inl (behind (.inr earlier))
  · exact .inr (by rw [← Bool.not_eq_true, h.offerable he]; exact fun both => away both.1)
  · exact .inr (by rw [← Bool.not_eq_true, h.offerable he]; exact fun both => Bool.noConfusion (manual.symm.trans both.2))

end

end

/-- Settles O48: the answer goes first, then the pass finds no free slot, or gives the body its slot and entries and offers the
heads that are new. -/
theorem arrivalAccepted : Obligations.ArrivalAccepted := by
  refine ⟨fun s f b st body build a ready line node hb on real empty freeCurrent freeNext ha => ?_, fun s st p r =>
    ⟨fun serving => ?_, fun on station position => State.servingRobot?_ne_none on station position, ?_⟩⟩
  case refine_2 =>
    obtain ⟨enabled, station, position⟩ := State.servingRobot?_spec serving
    exact ⟨by simpa [Robot.enabled] using enabled, station, position⟩
  case refine_3 =>
    rw [State.dressDue_iff]
    have welds : (s.list r).map s.weldsAt = (s.list r).map (fun i => match s.entry? i with
        | some e => if e.kind = .weld then e.expected else 0
        | none => 0) := by
      refine List.map_congr_left fun i _ => ?_
      unfold State.weldsAt
      cases s.entry? i with
      | none => rfl
      | some e => by_cases weld : e.kind = .weld <;> simp [weld, Option.filter]
    rw [welds] <;> rfl
  set w := s.begin.acceptArrival f.seq st body build with hw
  have once : s.begin.duplicates st body = false := by
    have current : (s.station st).current.any (·.body = body) = false := by
      cases h : (s.station st).current with
      | none => rfl
      | some c => simpa using freeCurrent c h
    have next : (s.station st).next.any (·.body = body) = false := by
      cases h : (s.station st).next with
      | none => rfl
      | some c => simpa using freeNext c h
    change (s.arq.queue.any _ || (s.station st).current.any _ || (s.station st).next.any _) = false
    rw [empty, current, next]
    rfl
  have ran : s.begin.bodyArrive f b body build = w :=
    State.bodyArrive_of_accepted (s := s.begin) line node hb on real once (by change s.arq.queue.length < 32; rw [empty]; decide)
  have led : s.begin.leads w [.arq, .tbs, .emu, .lif] := s.begin.acceptArrival_leads _ _ _ _
  have arrival : s.begin.arrivalOf st body build = a := ha.symm
  have queue : w.arq.queue = [a] := by
    rw [hw, State.acceptArrival_queue, arrival]
    change s.arq.queue ++ [a] = [a]
    rw [empty]
    rfl
  have due : w.passDue = true := State.acceptArrival_passDue
  have station : w.station st = s.station st := State.station_congr (led.1.2 .stc (by simp)) st
  have bank : w.bank s.tbs.active = { s.bank s.tbs.active with stamps := (s.bank s.tbs.active).stamps + 1 } :=
    State.acceptArrival_bank (s := s.begin)
  have here : a.station = st := by rw [ha]
  have stamp : a.stamp = s.tbs.active := by rw [ha]
  have nodeUp := (s.ready_iff.mp ready).2
  have acked := State.acceptArrival_issued (s := s.begin) (st := st) (body := body) (build := build) (seq := f.seq) nodeUp line
  refine ⟨_, congrArg Host.Outcome.next ((State.telegram_of_ready ready _).trans (congrArg State.finish ran)),
    head?_of_prefix (acked.trans w.finish_issued), fun full fullNext => ?_, fun vacant found room => ?_⟩
  · have ineligible : w.eligible [] a = false := by
      rw [← Bool.not_eq_true, State.eligible_iff, here, station]
      rintro ⟨_, none, _⟩
      exact none.elim full fullNext
    obtain ⟨kept, still, _⟩ := State.finish_of_pass (State.runPass_of_ineligible due queue ineligible)
    refine ⟨by rw [kept.2 .arq (by simp)]; exact queue, ?_, fun settled => ?_⟩
    · rw [State.bank_congr (kept.2 .tbs (by simp)), bank]
    · exact State.keeps_mono (State.keeps_trans led.1
        (State.keeps_mono (still (State.settled_of_leads led settled)) (by simp))) (by simp)
  · have judges : s.Judges w a :=
      ⟨led.1.2 .dtr (by simp), led.1.2 .rbc (by simp), led.1.2 .stc (by simp), _, by rw [stamp]; exact bank⟩
    have eligible : w.eligible [] a = true := by
      rw [State.eligible_iff, here, station]
      exact ⟨on, .inl vacant, found, fun _ none => nomatch none⟩
    have fits : w.allocatable [] (w.plansOf a) = true := by
      rw [State.allocatable_of_records judges.dtr judges.rbc, judges.plans, State.plansOf, here]
      exact room
    obtain ⟨x, u, offers, uStation, toward, uQueue, stamps, wrote, filled⟩ :=
      w.allocate_eq a (by rw [here, station]; exact vacant)
    rw [here, station, judges.freshSlot] at uStation
    rw [judges.plans] at offers filled
    obtain ⟨kept, _, sent⟩ := State.finish_of_pass (State.runPass_of_alone due queue eligible fits)
    rw [judges.plans, offers] at kept sent
    set v := u.attemptOffers (servingRobots (s.plansOf a)) with hv
    have offered : u.leads v workBlocks := u.attemptOffers_leads _
    have tStation : w.finish.station st = v.station st := State.station_congr (kept.2 .stc (by simp)) st
    have written : (u.station st).Written (v.station st) := u.attemptOffers_written _ st
    have fresh := s.freshSlot_eq a
    have whole : s.begin.leads u [.arq, .tbs, .emu, .lif, .stc, .dtr] := State.leads_seq led toward (by simp) (by simp)
    refine ⟨?_, ?_, ?_, fun agree unworn works hworks => ?_⟩
    · rw [kept.2 .arq (by simp), offered.1.2 .arq (by simp)]
      exact uQueue
    · rw [State.bank_congr (kept.2 .tbs (by simp)), State.bank_congr (offered.1.2 .tbs (by simp)), ← stamp, stamps, stamp, bank]
      exact Nat.add_sub_cancel _ _
    · have there : (u.station st).current = some (s.freshSlot a) := by rw [uStation]
      obtain ⟨c, now, wrote⟩ := written.current _ there
      obtain ⟨d, same, announced⟩ := State.attemptOffers_holds Slot.stable_announced
        ⟨_, there, by rw [fresh]⟩ (servingRobots (s.plansOf a))
      rw [← hv, now] at same
      cases same
      refine ⟨c, by rw [tStation]; exact now, announced, wrote.body.trans ?_, wrote.build.trans ?_, wrote.stamp.trans ?_,
        wrote.style.trans ?_, wrote.abortMark.trans ?_⟩
      · rw [fresh, ha]
      · rw [fresh, ha]
      · rw [fresh, ha]
      · rw [fresh]
      · rw [fresh]
    · have owned : s.Owned := ((State.listsAgree_iff s).mp agree).owned
      have news : w.news a.station a.body (s.plansOf a) = s.news a.station a.body (s.plansOf a) :=
        State.news_of_records judges.dtr judges.rbc _ _ _
      have staffed : s.Staffed u a :=
        { owned := owned
          dtr := ⟨x, (wrote.1.2 .dtr (by simp)).trans judges.dtr, news ▸ filled (owned.of_dtr judges.dtr)⟩
          rbc := whole.1.2 .rbc (by simp)
          panels := congrArg Piu.panels (whole.1.2 .piu (by simp))
          config := by rw [here, uStation]
          enabled := by rw [here, uStation]; exact ((s.station st).enabled_iff).mpr on
          node := by rw [State.leads_node whole]; exact nodeUp
          unworn := fun r hr => by
            rw [Robot.worn, decide_eq_false_iff_not]
            exact Nat.not_le.mpr (unworn r (here ▸ hr)) }
      have all := State.attemptOffers_offered _ u staffed.uUnworn
      rw [← hv] at all
      have slot : (w.finish.station st).current = some (s.freshSlot a) := by
        rw [tStation, State.station_congr all.stc, uStation]
      refine ⟨⟨_, slot, fun p none => ?_, fun p k work serves => ?_, fun p k work unserved => ?_, ?_⟩, fun news frees hnews hfrees =>
        ⟨fun r => ?_, fun n y i hy hi => ⟨fun head => ?_, fun shut => ?_⟩⟩⟩
      · exact State.freshSlot_position_of_none (hworks ▸ none)
      · rw [State.freshSlot_position_of_work (hworks ▸ work), here]
        obtain ⟨r, hr⟩ := Option.isSome_iff_exists.mp serves
        rw [hr]
        rfl
      · rw [State.freshSlot_position_of_work (hworks ▸ work), here, unserved]
        rfl
      · rw [fresh, here, hworks]
      all_goals
        have named : news = s.news a.station a.body (s.plansOf a) := by
          rw [hnews, State.plansOf, ← hworks, State.news_plans, here]
          refine List.flatMap_congr fun p _ => ?_
          cases works[p] with
          | none => rfl
          | some k =>
            cases s.servingRobot? st p with
            | none => rfl
            | some r => rw [ha]; rfl
        have free : frees = s.frees := hfrees
        subst named free
      · rw [State.list_congr (kept.2 .dtr (by simp)), all.lists]
        exact staffed.list r
      · obtain ⟨list, first, idle, manual⟩ := head
        obtain ⟨place, robot, told⟩ := staffed.offered hy hi list first idle (by rw [here]; exact manual)
        rw [State.place_congr (kept.2 .dtr (by simp)), State.robot_congr (kept.2 .rbc (by simp))]
        refine ⟨place.trans (by rw [here]; rfl), robot, sent.subset ?_⟩
        have body : a.body = body := by rw [ha]
        rw [body] at told
        exact told
      · rw [State.place_congr (kept.2 .dtr (by simp))]
        exact staffed.waits hy hi (shut.imp_right (Or.imp_right (Or.imp_right fun manual => by rw [here]; exact manual)))

end Sys2Proof.Machine
end
